-- ==== Sys2Proof/Word.lean ====
section
/-! DEFINITION. The words of the W48: a byte on a wire, a character on a serial line, a 16-bit set or check, and the 32-bit millisecond tick. -/

namespace Sys2Proof

/-- A byte on one of the part's serial interfaces (12_wire_formats.md). -/
abbrev Byte := BitVec 8

/-- A 16-bit word: the status flag sets (R184) and the 16-bit check (R200). -/
abbrev Word16 := BitVec 16

/-- A character on a gear line or on the Building Link Port, as the line's levels: bit k is the level in the character's k-th bit time,
1 for high (R177, R202). -/
abbrev Character := BitVec 10

/-- A value of the internal millisecond tick, a 32-bit count that wraps (R2). -/
abbrev Tick := BitVec 32

/-- The interval from `start` to `now`: the difference of two tick values modulo 2³² (R2). -/
def Tick.since (now start : Tick) : Nat := (now - start).toNat

/-- The tick `ms` milliseconds after `t`. -/
def Tick.plus (t : Tick) (ms : Nat) : Tick := t + BitVec.ofNat 32 ms

end Sys2Proof
end

