-- ==== Sys2Proof/Syntax.lean ====
section
/-! DEFINITION. The commands of the W48: one constructor for each row of spec/opcode_table.json, with the row's operands.
A request carries the port's tag and then its fields as raw numbers, as the frame carries them (R201): the owner's
rule decides what is in range. An optional field is an `Option`; an optional reference given as 0xFF means "absent". -/

namespace Sys2Proof

/-- The fields of DEFINE_SENSOR (R5). -/
structure DefineSensor where
  index : Nat
  kind : Nat
  line : Nat
  address : Nat
  enabled : Option Nat := none
  scale : Option Nat := none
  fallCoeff : Option Nat := none
  riseCoeff : Option Nat := none
  deriving DecidableEq, Repr

/-- The fields of SET_SENSOR (R5). -/
structure SetSensor where
  index : Nat
  enabled : Option Nat := none
  scale : Option Nat := none
  fallCoeff : Option Nat := none
  riseCoeff : Option Nat := none
  deriving DecidableEq, Repr

/-- The optional fields that DEFINE_ZONE and SET_ZONE share (R9). -/
structure ZoneFields where
  controlSensor : Option Nat := none
  group0 : Option Nat := none
  group1 : Option Nat := none
  group2 : Option Nat := none
  group3 : Option Nat := none
  defaultCurve : Option Nat := none
  lmin : Option Nat := none
  fallbackLevel : Option Nat := none
  profile : Option Nat := none
  occInput : Option Nat := none
  upRate : Option Nat := none
  downRate : Option Nat := none
  deadband : Option Nat := none
  offDelay : Option Nat := none
  onMargin : Option Nat := none
  enabled : Option Nat := none
  deriving DecidableEq, Repr

/-- The fields of DEFINE_ZONE (R9). -/
structure DefineZone where
  index : Nat
  segment : Nat
  band : Nat
  fields : ZoneFields := {}
  deriving DecidableEq, Repr

/-- The fields of SET_ZONE (R9). -/
structure SetZone where
  index : Nat
  fields : ZoneFields := {}
  deriving DecidableEq, Repr

/-- The fields of DEFINE_SEGMENT (R14). -/
structure DefineSegment where
  index : Nat
  windowSensor : Option Nat := none
  glareThreshold : Option Nat := none
  releaseThreshold : Option Nat := none
  glareDelay : Option Nat := none
  releaseDelay : Option Nat := none
  glarePosition : Option Nat := none
  openPosition : Option Nat := none
  settle : Option Nat := none
  travelTimeout : Option Nat := none
  retryLimit : Option Nat := none
  deriving DecidableEq, Repr

/-- The fields of DEFINE_GEAR (R16); `owner` is the zone of a DRIVER or the segment of a SHADE. -/
structure DefineGear where
  index : Nat
  line : Nat
  address : Nat
  kind : Nat
  owner : Nat
  curve : Option Nat := none
  trim : Option Nat := none
  minValue : Option Nat := none
  lossLevel : Option Nat := none
  deriving DecidableEq, Repr

/-- The fields of SET_SENSOR_LINE (R22). -/
structure SetSensorLine where
  line : Nat
  speed : Option Nat := none
  pollInterval : Option Nat := none
  missLimit : Option Nat := none
  deriving DecidableEq, Repr

/-- The fields of WRITE_CONTRIB (R43); the entries are (zone, gain) pairs. -/
structure WriteContrib where
  index : Nat
  darkOffset : Option Nat := none
  entries : List (Nat × Nat)
  deriving DecidableEq, Repr

/-- The fields of START_CALIBRATION (R92); `parts` is the parts set as a byte (DARK bit 0, GAINS bit 1). -/
structure StartCalibration where
  parts : Nat
  zones : List Nat
  settle : Option Nat := none
  gainFloor : Option Nat := none
  driftLimit : Option Nat := none
  deriving DecidableEq, Repr

/-- The fields of SET_GEAR_LINE (R111). -/
structure SetGearLine where
  line : Nat
  rateCode : Option Nat := none
  attemptLimit : Option Nat := none
  highWatermark : Option Nat := none
  lowWatermark : Option Nat := none
  auditInterval : Option Nat := none
  deriving DecidableEq, Repr

/-- The fields of SET_CLOCK (R157). -/
structure SetClock where
  year : Nat
  month : Nat
  day : Nat
  hour : Nat
  minute : Nat
  second : Nat
  deriving DecidableEq, Repr

/-- The fields of DEFINE_PERIOD (R161); `days` is the weekday set as a byte (MON bit 0 to SUN bit 6). -/
structure DefinePeriod where
  index : Nat
  profile : Nat
  days : Nat
  startMin : Nat
  endMin : Nat
  occupiedSp : Nat
  unoccupiedSp : Nat
  deriving DecidableEq, Repr

/-- The four bytes a photosensor answers with; the first bit received of each is its most significant one (R204). -/
structure SensorReply where
  status : Byte
  countHigh : Byte
  countLow : Byte
  check : Byte
  deriving DecidableEq, Repr

/-- How a page read of the configuration memory ends; the first bit received of each byte is its most significant one (R208). -/
inductive MemoryRead where
  /-- acknowledged throughout, with the page's bytes -/
  | data (bytes : List Byte)
  /-- the memory did not acknowledge its address byte -/
  | noAddressAck
  /-- it acknowledged its address byte and then not a later byte -/
  | noLaterAck
  deriving DecidableEq, Repr

/-- How a page write of the configuration memory ends (R208). -/
inductive MemoryWrite where
  /-- acknowledged throughout: programming begins -/
  | acknowledged
  /-- the memory did not acknowledge its address byte -/
  | noAddressAck
  /-- it acknowledged its address byte and then not a later byte -/
  | noLaterAck
  deriving DecidableEq, Repr

/-- The pins sampled at the release of a reset (R192): the straps (BAUD_SEL1 is bit 1), OCC0 to OCC7 and LPWR0 to LPWR3. -/
structure ResetPins where
  straps : BitVec 2
  occ : BitVec 8
  lpwr : BitVec 4
  deriving DecidableEq, Repr

/-- The commands: one constructor per row of spec/opcode_table.json. -/
inductive Instr where
  -- requests: device and port
  | identify (tag : Byte)
  | getStatus (tag : Byte)
  | clearFlags (tag : Byte) (flags : Word16)
  | setFlagEnables (tag : Byte) (enables : Word16)
  | restart (tag : Byte)
  | saveConfig (tag : Byte)
  | loadDefaults (tag : Byte)
  -- requests: floor model
  | defineSensor (tag : Byte) (r : DefineSensor)
  | setSensor (tag : Byte) (r : SetSensor)
  | deleteSensor (tag : Byte) (index : Nat)
  | defineZone (tag : Byte) (r : DefineZone)
  | setZone (tag : Byte) (r : SetZone)
  | deleteZone (tag : Byte) (index : Nat)
  | defineSegment (tag : Byte) (r : DefineSegment)
  | defineGear (tag : Byte) (r : DefineGear)
  | deleteGear (tag : Byte) (index : Nat)
  | defineCurve (tag : Byte) (index : Nat) (points : List Nat)
  | readSensorDef (tag : Byte) (index : Nat)
  | readZoneDef (tag : Byte) (index : Nat)
  | readSegmentDef (tag : Byte) (index : Nat)
  | readGearDef (tag : Byte) (index : Nat)
  | readCurve (tag : Byte) (index : Nat)
  -- requests: sensors and estimation
  | setSensorLine (tag : Byte) (r : SetSensorLine)
  | readSensorLine (tag : Byte) (line : Nat)
  | readSensor (tag : Byte) (index : Nat)
  | writeContrib (tag : Byte) (r : WriteContrib)
  | readContrib (tag : Byte) (index : Nat)
  | readProfile (tag : Byte) (zone : Nat)
  -- requests: zones
  | overrideZone (tag : Byte) (zone level duration : Nat)
  | releaseZone (tag : Byte) (zone : Nat)
  | readZone (tag : Byte) (zone : Nat)
  -- requests: calibration
  | startCalibration (tag : Byte) (r : StartCalibration)
  | abortCalibration (tag : Byte)
  | readCalibration (tag : Byte) (first count : Nat) (zone : Option Nat)
  -- requests: gear lines
  | setGearLine (tag : Byte) (r : SetGearLine)
  | lineControlEnable (tag : Byte) (line : Nat)
  | lineControlDisable (tag : Byte) (line : Nat)
  | lineControlHold (tag : Byte) (line : Nat)
  | lineControlRelease (tag : Byte) (line : Nat)
  | readGearLine (tag : Byte) (line first count : Nat)
  | readGear (tag : Byte) (index : Nat)
  -- requests: shades
  | shadeCommandGoto (tag : Byte) (segment position duration : Nat)
  | shadeCommandStop (tag : Byte) (segment position duration : Nat)
  | shadeCommandAuto (tag : Byte) (segment position duration : Nat)
  | clearShadeFault (tag : Byte) (segment : Nat)
  | setShadeQuery (tag : Byte) (interval : Nat)
  | readShade (tag : Byte) (segment : Nat)
  -- requests: calendar, schedule and occupancy
  | setClock (tag : Byte) (r : SetClock)
  | getClock (tag : Byte)
  | setProfileDefaults (tag : Byte) (profile : Nat) (occupied unoccupied : Option Nat)
  | definePeriod (tag : Byte) (r : DefinePeriod)
  | deletePeriod (tag : Byte) (index : Nat)
  | readSchedule (tag : Byte) (profile : Nat)
  | setOccInput (tag : Byte) (input delay : Nat)
  | readOccupancy (tag : Byte) (first count : Nat)
  -- requests: counters
  | snapshot (tag : Byte) (clear : Nat)
  | readCounters (tag : Byte) (set group first count : Nat)
  -- the port
  | executeUnknownKind (tag kind : Byte)
  | frameReceived (kind tag : Byte) (payload : List Byte)
  /-- a frame in assembly is discarded; a character with a stop-bit error makes it (R178; log 72) -/
  | frameDiscarded
  | frameGapTimeout
  | replySent
  -- resets and start-up
  | restartTakesEffect (pins : ResetPins)
  | pinReset (pins : ResetPins)
  | powerOn (pins : ResetPins) (backupFailed : Bool)
  | startupDelayExpiry
  -- the configuration memory
  | autoloadPageReadEnd (r : MemoryRead)
  | memoryTransactionTimeout
  | savePageWriteEnd (r : MemoryWrite)
  | ackPollAnswered
  | ackPollTimeout
  | saveReadbackEnd (r : MemoryRead)
  -- the sensor lines
  | pollIntervalExpiry (line : Fin 2)
  | sensorTransactionEnd (line : Fin 2) (reply : Option SensorReply)
  | sensorTransactionTimeout (line : Fin 2)
  -- sweep and overrides
  | calSettleExpiry
  | overrideExpiry (zone : Fin 48)
  -- the gear lines
  | lpwrInputChange (line : Fin 4) (level : Bool)
  | linePowerChange (line : Fin 4)
  | startSettleExpiry (line : Fin 4)
  | forwardFrameStart (line : Fin 4)
  | groupFrameSent (line : Fin 4)
  /-- the bytes of the three characters of a backward frame, and whether one of them had a stop-bit error (R202, R203; log 70) -/
  | gearAnswerReceived (line : Fin 4) (data status check : Byte) (stopError : Bool)
  | replyWindowEnd (line : Fin 4)
  | backwardFrameTimeout (line : Fin 4)
  | auditTimerExpiry (line : Fin 4)
  -- the shade groups
  | shadeQueryExpiry (segment : Fin 16)
  | travelTimeout (segment : Fin 16)
  | shadeSettleExpiry (segment : Fin 16)
  | glareTimerExpiry (segment : Fin 16)
  | releaseTimerExpiry (segment : Fin 16)
  | manualExpiry (segment : Fin 16)
  -- the calendar and the occupancy inputs
  | clockSecondAdvance
  | oscillatorStop
  | oscillatorResume
  | occInputChange (input : Fin 8) (level : Bool)
  | occDebounceExpiry (input : Fin 8)
  | vacancyTimerExpiry (zone : Fin 48)
  -- the port's receiver
  /-- the byte of a character on BLP_RXD without a stop-bit error (R177, R178; log 72) -/
  | frameByteReceived (byte : Byte)
  deriving DecidableEq, Repr

end Sys2Proof
end

