-- ==== Sys2Proof/Decode.lean ====
section
/-! DEFINITION. The commands that spec/opcode_table.json spells as words. -/

namespace Sys2Proof

/-- The command that a word spells by the table's bits. No row of the table carries bits, so no word spells a command: the
commands of the W48 are requests, events and expiries, not words. -/
def decodeTableWord (_nbits _w : Nat) : Option Instr := none

end Sys2Proof
end

