-- ==== Sys2Proof/Config.lean ====
section
/-! DEFINITION. What the part fixes once: its capacities and codes, and the free values the manual leaves open. -/

namespace Sys2Proof.Config

/-- Photosensors S0 to S63 (R3). -/
def nSensors : Nat := 64
/-- Zones Z0 to Z47 (R3). -/
def nZones : Nat := 48
/-- Window segments SEG0 to SEG15 (R3). -/
def nSegments : Nat := 16
/-- Gear records 0 to 191 (R3). -/
def nGear : Nat := 192
/-- Dimming curves C0 to C3 (R3). -/
def nCurves : Nat := 4
/-- Gear lines GL0 to GL3 (R111). -/
def nGearLines : Nat := 4
/-- Setpoint profiles P0 to P3 (R160). -/
def nProfiles : Nat := 4
/-- Schedule period records (R161). -/
def nPeriods : Nat := 32
/-- Occupancy inputs OCC0 to OCC7 (R164). -/
def nOcc : Nat := 8
/-- Half-hour bins of a zone's daylight profile (R56). -/
def nBins : Nat := 48

/-- The most entries of a contribution list (R40). -/
def maxContrib : Nat := 8
/-- The most sensors of one sensor line (R6). -/
def maxSensorsPerLine : Nat := 32
/-- The most SHADE gear of one segment (R16). -/
def maxShadesPerSegment : Nat := 4
/-- The most entries of a transmit queue (R125). -/
def txQueueCap : Nat := 32
/-- The request queue's places, and the BUSY list's (R179). -/
def requestQueueCap : Nat := 4
/-- The greatest payload of a Building Link Port frame (R177). -/
def maxPayload : Nat := 240
/-- The largest value of a counter (R168). -/
def counterMax : Nat := 4294967295
/-- The largest lux value (R30, R47). -/
def luxMax : Nat := 65535

/-- Family code of the Mejalon family (R201, R206). -/
def familyCode : Nat := 0x4C
/-- Part code of the W48 (R201, R206). -/
def partCode : Nat := 0x30
/-- Design version that IDENTIFY returns (R201). -/
def designVersion : Nat := 0x01
/-- Image format version (R206). -/
def imageVersion : Nat := 0x01
/-- Bus address of the configuration memory on SL0 (R208). -/
def memoryAddress : Nat := 0x5A
/-- Bytes of a memory page (R208). -/
def pageBytes : Nat := 64
/-- Bytes of a memory slot (R191). -/
def slotBytes : Nat := 16384
/-- The longest image body: the room after the header in a slot (R207). -/
def maxBody : Nat := 16320

/-- The reply fields whose value the manual does not state in some states (log 21). -/
inductive Unstated where
  /-- READ_ZONE's below-min elapsed time when no below-min period runs (R88) -/
  | belowMinElapsed
  /-- READ_SHADE's elapsed time of a glare or release delay when none runs (R152) -/
  | glareElapsed
  /-- READ_SHADE's remaining time of a travel or settle timer when none runs (R152) -/
  | travelRemaining
  /-- GET_STATUS's page reached when no save is in progress (R198) -/
  | savePage
  /-- GET_STATUS's generation of a save report that is not OK (R198) -/
  | saveGeneration
  /-- READ_OCCUPANCY's time remaining of a zone that is not VACANCY_PENDING (R166) -/
  | vacancyRemaining
  deriving DecidableEq, Repr

/-- The free values: what the part answers in field `f` of the `n`-th reply where the manual states no value.
Nothing constrains it (log 21). -/
opaque unstated : Unstated → Nat → Nat

/-- A free value: whether the memory had acknowledged its address byte in a page read that is abandoned at a tick, by the slot and the
page read and the failed attempts before it. Nothing constrains it (log 40). -/
opaque addressAcked (tick slot page attempts : Nat) : Bool

end Sys2Proof.Config
end

