-- ==== Sys2Proof/Machine/State.lean ====
section
/-! DEFINITION. The state of the W48: every piece of state the spec gives the part, as plain data, and the state after reset.
Values with a stated range are natural numbers (R1); ticks are 32-bit words (R2); an undefined entry of a table is `none` (R3). -/

namespace Sys2Proof.Machine

/-! ### Time -/

/-- A timer in progress: the tick at which it started and its length in milliseconds (R2). -/
structure Timer where
  start : Tick
  len : Nat
  deriving DecidableEq, Repr

/-! ### Sensors and sensor lines (chapters 1, 2 and 3) -/

/-- A photosensor's kind (R5). -/
inductive SensorKind where
  | ceiling | window
  deriving DecidableEq, Repr

/-- A sensor's health state (R31). -/
inductive Health where
  | disabled | absent | ok | suspect | failed
  deriving DecidableEq, Repr

/-- One entry of a contribution list (R40). -/
structure Contrib where
  zone : Nat
  gain : Nat
  deriving DecidableEq, Repr

/-- A defined sensor entry: static fields (R5), runtime fields (R31, R30) and estimation fields (R40, R45, R47, R49). -/
structure Sensor where
  kind : SensorKind
  line : Nat
  address : Nat
  enabled : Bool
  scale : Nat
  fallCoeff : Nat
  riseCoeff : Nat
  health : Health
  missCount : Nat
  recoverCount : Nat
  lastCount : Nat
  lastRange : Nat
  overrange : Bool
  lux : Nat
  timestamp : Tick
  darkOffset : Nat
  contrib : List Contrib
  daylight : Nat
  daylightF : Nat
  primed : Bool
  deriving DecidableEq, Repr

/-- A sensor line's speed (R22). -/
inductive Speed where
  | khz100 | khz400
  deriving DecidableEq, Repr

/-- The state of a line's scanner (R23). -/
inductive ScanState where
  | stopped | waiting | scanning | paused
  deriving DecidableEq, Repr

/-- The sensor transaction in progress on a line: the sensor, the address byte sent (R204), the speed and tick it began with
(R22, R28), and whether its outcome is to be discarded (R29). -/
structure SensorTxn where
  sensor : Nat
  sent : Byte
  speed : Speed
  start : Tick
  discard : Bool
  deriving DecidableEq, Repr

/-- A sensor line: parameters (R22), scanner (R23), interval timer (R24), transaction (R28) and the cycle report so far
(R27, pairs of sensor and E). -/
structure SensorLine where
  speed : Speed
  pollInterval : Nat
  missLimit : Nat
  scan : ScanState
  cycleOpen : Bool
  lastVisited : Option Nat
  startPending : Bool
  cycleStart : Option Tick
  lastCompletion : Option Tick
  interval : Option Timer
  txn : Option SensorTxn
  report : List (Nat × Nat)
  deriving DecidableEq, Repr

/-! ### Zones (chapters 1, 3, 4, 8 and 9) -/

/-- A zone's band (R9). -/
inductive Band where
  | a | b | c
  deriving DecidableEq, Repr

/-- A zone's line group on each gear line (R9). -/
structure LineGroups where
  g0 : Option Nat
  g1 : Option Nat
  g2 : Option Nat
  g3 : Option Nat
  deriving DecidableEq, Repr

/-- A zone's state (R62, R63). -/
inductive ZoneState where
  | disabled | tracking | fallback | hold | override | calibrating
  deriving DecidableEq, Repr

/-- A zone's occupancy (R165). -/
inductive Occupancy where
  | occupied | vacancyPending | vacant
  deriving DecidableEq, Repr

/-- The source of a FALLBACK evaluation (R62, R80). -/
inductive FallbackSource where
  | none | windowRatio | profile | fixed
  deriving DecidableEq, Repr

/-- Why a zone is in FALLBACK (R62, R66). -/
inductive FallbackReason where
  | noSensor | sensorFailed | noGain
  deriving DecidableEq, Repr

/-- The static fields of a zone entry (R9). -/
structure ZoneDef where
  segment : Nat
  band : Band
  controlSensor : Option Nat
  groups : LineGroups
  defaultCurve : Nat
  lmin : Nat
  fallbackLevel : Nat
  profile : Nat
  occInput : Option Nat
  upRate : Nat
  downRate : Nat
  deadband : Nat
  offDelay : Nat
  onMargin : Nat
  enabled : Bool
  deriving DecidableEq, Repr

/-- What the DEU keeps for a zone (chapter 3): the window ratio, the learn count, the profile accumulator and the bins. -/
structure Learned where
  rho : Nat
  learnCount : Nat
  accSum : Nat
  accCount : Nat
  bins : List (Option Nat)
  deriving DecidableEq, Repr

/-- What the CTU keeps for a zone besides its counters (R168): four remainders and the override mark. -/
structure Remainders where
  electric : Nat
  saved : Nat
  daylit : Nat
  override : Nat
  mark : Option Tick
  deriving DecidableEq, Repr

/-- A defined zone: static fields, the ZCU's runtime fields (R62), the CSU's (R165), the DEU's and the CTU's. -/
structure Zone where
  cfg : ZoneDef
  state : ZoneState
  holdShade : Bool
  holdCal : Bool
  level : Nat
  target : Nat
  setpoint : Nat
  occupancy : Occupancy
  vacancy : Option Timer
  fallbackSource : FallbackSource
  fallbackReason : FallbackReason
  underlit : Bool
  daylitOff : Bool
  outputLost : Bool
  belowMinSince : Option Tick
  overrideLevel : Nat
  overrideExpiry : Option Tick
  overrideActive : Bool
  lastEval : Option Tick
  learned : Learned
  rem : Remainders
  deriving DecidableEq, Repr

/-! ### Segments and shade groups (chapters 1 and 7) -/

/-- The progress of a shade group's travel (R137). -/
inductive ShadeState where
  | idle | moving | settling | faulted
  deriving DecidableEq, Repr

/-- The glare logic's phase (R137). -/
inductive GlarePhase where
  | clear | glarePending | glared | releasePending
  deriving DecidableEq, Repr

/-- The static fields of a segment entry (R14). -/
structure SegmentDef where
  windowSensor : Option Nat
  glareThreshold : Nat
  releaseThreshold : Nat
  glareDelay : Nat
  releaseDelay : Nat
  glarePosition : Nat
  openPosition : Nat
  settle : Nat
  travelTimeout : Nat
  retryLimit : Nat
  deriving DecidableEq, Repr

/-- A segment and its shade group (R14, R137). `glareLen` is the delay in seconds that the running glare or release
timer runs toward (R147). -/
structure Segment where
  cfg : SegmentDef
  manual : Bool
  manualExpiry : Option Tick
  state : ShadeState
  target : Option Nat
  phase : GlarePhase
  glareStart : Option Tick
  glareLen : Nat
  travelTimeoutInForce : Nat
  settleInForce : Nat
  retryLimitInForce : Nat
  travel : Option Timer
  query : Option Timer
  settle : Option Timer
  deriving DecidableEq, Repr

/-! ### Gear and gear lines (chapters 1 and 6) -/

/-- A gear's kind, with the zone of a DRIVER or the segment of a SHADE (R16). -/
inductive GearRole where
  | driver (zone : Nat)
  | shade (segment : Nat)
  deriving DecidableEq, Repr

/-- Whether a gear is answering (R117). -/
inductive GearState where
  | unknown | present | silent
  deriving DecidableEq, Repr

/-- A gear's dirty field (R117). -/
inductive Dirty where
  | clear | value | setup
  deriving DecidableEq, Repr

/-- The static fields of a gear entry (R16). -/
structure GearDef where
  line : Nat
  address : Nat
  role : GearRole
  curve : Nat
  trim : Nat
  minValue : Nat
  lossLevel : Nat
  deriving DecidableEq, Repr

/-- A defined gear: static fields, the GLC's runtime fields (R117) and the SCU's (R138). `unreported` marks a SHADE that has
joined a MOVING group and has reported no position since (R17, R145; log 48). -/
structure Gear where
  cfg : GearDef
  state : GearState
  lampFail : Bool
  expected : Option Nat
  confirmed : Option Nat
  dirty : Dirty
  trimPending : Bool
  position : Option Nat
  atLimit : Bool
  unreported : Bool
  unchanged : Nat
  retriesUsed : Nat
  shadeFaulted : Bool
  deriving DecidableEq, Repr

/-- A gear line's state (R112). -/
inductive LineState where
  | off | starting | up | down | held
  deriving DecidableEq, Repr

/-- Where a transmit-queue entry is addressed (R125). -/
inductive Target where
  | gear (index : Nat)
  | group (g : Nat)
  deriving DecidableEq, Repr

/-- The commands of a gear line (R122). -/
inductive GearCmd where
  | setValue | queryValue | queryStatus | setLossLevel | setGroup | shadeGoto | shadeStop | shadeQuery
  deriving DecidableEq, Repr

/-- The origin of a transmit-queue entry (R125). -/
inductive Origin where
  | zone | audit | shade | setup
  deriving DecidableEq, Repr

/-- An entry of a transmit queue (R125). `group` is the second value of a setup entry (R127). An entry is in flight from its
first frame until it leaves (R121; log 11); `attempting` says that its frame is on the line or its reply window open. `orphan`
marks an entry in flight whose gear was deleted or changed identity: its answer is discarded and it leaves without retry (R17,
R18). -/
structure Entry where
  target : Target
  cmd : GearCmd
  value : Nat
  group : Option Nat
  origin : Origin
  attempts : Nat
  inFlight : Bool
  attempting : Bool
  orphan : Bool
  deriving DecidableEq, Repr

/-- A gear line: parameters (R111), state (R112, R130), queue (R125), timers (R115, R133), audit position (R133), power
monitor (R112), and what it last put on GLx_TX: the bytes of the frame and the rate code it began with (R121). -/
structure GearLine where
  enabled : Bool
  rateCode : Nat
  attemptLimit : Nat
  highWatermark : Nat
  lowWatermark : Nat
  auditInterval : Nat
  state : LineState
  congested : Bool
  queue : List Entry
  settle : Option Timer
  audit : Option Timer
  auditPos : Option Nat
  supplyRaw : Bool
  supply : Bool
  supplyDebounce : Option Timer
  frameOut : List Byte
  frameRate : Nat
  deriving DecidableEq, Repr

/-! ### The calibration sweep (chapter 5) -/

/-- The sweep record's state (R90). -/
inductive SweepState where
  | idle | preparing | baseSettle | baseRead | stepOn | stepSettle | stepRead | stepOff | restoreSettle | restoreRead
  | finishing | aborting
  deriving DecidableEq, Repr

/-- A collection of one measured sensor (R97): open with its three counts, or closed with its measurement. -/
inductive Collection where
  | opened (cycles good sum : Nat)
  | closed (value : Option Nat)
  deriving DecidableEq, Repr

/-- A measured sensor of the sweep with its baseline B and step reading M (`none` is "not valid") and its collection
(R90, R97). -/
structure Measured where
  sensor : Nat
  base : Option Nat
  step : Option Nat
  coll : Collection
  deriving DecidableEq, Repr

/-- The last sweep's outcome (R90). -/
inductive SweepOutcome where
  | none | finished | aborted
  deriving DecidableEq, Repr

/-- Why the last sweep was aborted (R90, R106). -/
inductive AbortCause where
  | absent | host | line (l : Nat)
  deriving DecidableEq, Repr

/-- The sweep record (R90). -/
structure Sweep where
  state : SweepState
  dark : Bool
  gains : Bool
  zones : List Nat
  current : Option Nat
  zonesDone : Nat
  settleS : Nat
  gainFloor : Nat
  driftLimit : Nat
  measured : List Measured
  startTick : Tick
  lastOutcome : SweepOutcome
  abortCause : AbortCause
  darkSet : Nat
  settle : Option Timer
  deriving DecidableEq, Repr

/-- A zone's calibration outcome (R91). -/
inductive CalKind where
  | none | ok | weak | drift | aborted
  deriving DecidableEq, Repr

/-- A zone's calibration result (R91). -/
structure CalResult where
  result : CalKind
  ownGain : Option Int
  drift : Option Int
  written : Nat
  discarded : Nat
  deriving DecidableEq, Repr

/-! ### Calendar, schedule and occupancy (chapter 8) -/

/-- The battery domain's calendar clock (R154 to R156). `weekday` counts from MON = 0; `subsec` is the sub-second count in
thousandths of a crystal cycle, 32,768,000 to the second. -/
structure Clock where
  year : Nat
  month : Nat
  day : Nat
  hour : Nat
  minute : Nat
  second : Nat
  weekday : Nat
  subsec : Nat
  valid : Bool
  stopped : Bool
  backupTripped : Bool
  deriving DecidableEq, Repr

/-- A setpoint profile's defaults (R160). -/
structure Profile where
  occupiedSp : Nat
  unoccupiedSp : Nat
  deriving DecidableEq, Repr

/-- A schedule period (R161); bit 0 of `days` is MON, bit 6 is SUN. -/
structure Period where
  profile : Nat
  days : BitVec 7
  startMin : Nat
  endMin : Nat
  occupiedSp : Nat
  unoccupiedSp : Nat
  deriving DecidableEq, Repr

/-- An occupancy input (R164). -/
structure OccInput where
  raw : Bool
  active : Bool
  delay : Nat
  changed : Bool
  debounce : Option Timer
  deriving DecidableEq, Repr

/-! ### Counters (chapter 9) -/

/-- The counters of one zone (R168). -/
structure ZoneCounters where
  electric : Nat
  saved : Nat
  daylitS : Nat
  overrideS : Nat
  deriving DecidableEq, Repr

/-- The counters of one gear line (R168). -/
structure LineCounters where
  frames : Nat
  retries : Nat
  silentEvents : Nat
  groupFrames : Nat
  deferrals : Nat
  mismatches : Nat
  deriving DecidableEq, Repr

/-- The counters of one segment (R168). -/
structure ShadeCounters where
  moves : Nat
  stalls : Nat
  deriving DecidableEq, Repr

/-- One set of counters (R168). -/
structure Counters where
  zones : List ZoneCounters
  lines : List LineCounters
  misses : List Nat
  shades : List ShadeCounters
  framingErrors : Nat
  busyReplies : Nat
  deriving DecidableEq, Repr

/-- The shadow set's header (R168). -/
structure ShadowHeader where
  snapshotTick : Option Tick
  sinceTick : Option Tick
  cleared : Bool
  deriving DecidableEq, Repr

/-! ### The Building Link Port (chapter 10) -/

/-- The result codes (R182). -/
inductive Result where
  | ok | adjusted | unknownKind | badLength | outOfRange | noSuch | inUse | tableFull | overlap | conflict | notReady
  | busy | storeFailed
  deriving DecidableEq, Repr

/-- The receiver: HUNT, or IN_FRAME with the bytes taken after the start of frame, in order (R178). -/
inductive Receiver where
  | hunt
  | inFrame (bytes : List Byte)
  deriving DecidableEq, Repr

/-- A request on the port's queue (R179); `executed` while its reply is still to be sent (R181). -/
structure Request where
  kind : Byte
  tag : Byte
  payload : List Byte
  executed : Bool
  deriving DecidableEq, Repr

/-- Where a reply comes from: the head of the request queue, the BUSY list (R181), or a request command that was
executed without a place on the queue (log 3). -/
inductive ReplyOrigin where
  | queued | busy | direct
  deriving DecidableEq, Repr

/-- A reply waiting to be sent: the request's kind and tag, the result, and the encoded reply fields (R177, R201). -/
structure Reply where
  origin : ReplyOrigin
  kind : Byte
  tag : Byte
  result : Result
  fields : List Byte
  deriving DecidableEq, Repr

/-- The latched flags, their enables (R184, R185; bit 0 is SENSOR_FAULT) and whether ATTN_N is driven low. -/
structure FlagPort where
  latched : Word16
  enables : Word16
  attn : Bool
  deriving DecidableEq, Repr

/-- The port's own state (R178 to R181): receiver, tick of the last frame byte, request queue, replies waiting in the
order produced, the last reply frame sent on BLP_TXD, and whether an accepted RESTART's reply has gone, so that the
reset takes effect (R189). -/
structure Port where
  rx : Receiver
  rxLast : Tick
  queue : List Request
  replies : List Reply
  frameOut : List Byte
  restartDue : Bool
  deriving DecidableEq, Repr

/-! ### The Image Loader (chapter 11) -/

/-- The device state (R183). -/
inductive DeviceState where
  | starting | loading | running
  deriving DecidableEq, Repr

/-- The outcome of a load (R194). -/
inductive LoadOutcome where
  | loaded | loadedOlder | defaultsBlank | defaultsDamaged | defaultsNoMemory
  deriving DecidableEq, Repr

/-- Why a save failed (R198). -/
inductive SaveFailure where
  | noMemory | writeFailed | verifyFailed
  deriving DecidableEq, Repr

/-- The report of the last save (R198). -/
inductive SaveReport where
  | none
  | ok (slot generation : Nat)
  | failed (cause : SaveFailure)
  deriving DecidableEq, Repr

/-- What the autoload found of a slot's header page (R193, R207). -/
inductive SlotFinding where
  /-- not read yet -/
  | unread
  /-- unreadable at its first byte: the memory acknowledged its address byte in no attempt -/
  | noMemory
  /-- the marker is absent -/
  | blank
  /-- unreadable, or a marker with wrong codes, version, generation or length -/
  | damaged
  /-- a candidate, with its generation, body length and body check -/
  | candidate (generation length check : Nat)
  deriving DecidableEq, Repr

/-- The autoload in progress (R193): the slot and page being read (page 0 is the header), the failed attempts at the page,
whether one of them had its address byte acknowledged, the findings, the body read so far, the candidates still to be
tried after this slot, and whether a candidate has already been found damaged. -/
structure LoadJob where
  slot : Nat
  page : Nat
  attempts : Nat
  addressed : Bool
  finding0 : SlotFinding
  finding1 : SlotFinding
  body : List Byte
  later : List Nat
  second : Bool
  txn : Option Timer
  deriving DecidableEq, Repr

/-- The phase of a save (R197). -/
inductive SavePhase where
  | waitGrant | writing | polling | readback
  deriving DecidableEq, Repr

/-- The save in progress (R197): its phase, the slot and generation it writes, the captured image as pages (the body
pages in order and then the header page), the page it has reached, the failed attempts at that page, whether one of
them had its address byte acknowledged, and the 10 ms acknowledge-poll timer. -/
structure SaveJob where
  phase : SavePhase
  slot : Nat
  generation : Nat
  pages : List (List Byte)
  page : Nat
  attempts : Nat
  addressed : Bool
  poll : Option Timer
  deriving DecidableEq, Repr

/-- The Image Loader's own state (R191 to R198). -/
structure Loader where
  device : DeviceState
  startup : Option Timer
  knownSlot : Option Nat
  knownGen : Nat
  loadReport : Option LoadOutcome
  saveReport : SaveReport
  load : Option LoadJob
  save : Option SaveJob
  deriving DecidableEq, Repr

/-! ### The state of the part -/

/-- The state of the part, and the queue of the commands that wait. -/
structure State where
  pending : List Instr
  tick : Tick
  straps : BitVec 2
  replyCount : Nat
  sensors : List (Option Sensor)
  sensorLines : List SensorLine
  zones : List (Option Zone)
  segments : List Segment
  gear : List (Option Gear)
  curves : List (List Nat)
  gearLines : List GearLine
  sweep : Sweep
  calResults : List CalResult
  shadeQuery : Nat
  clock : Clock
  profiles : List Profile
  periods : List (Option Period)
  occ : List OccInput
  live : Counters
  liveSince : Tick
  shadow : Counters
  shadowHeader : ShadowHeader
  flags : FlagPort
  port : Port
  loader : Loader
  deriving DecidableEq, Repr

/-- Why a command stops the part. The spec names no stop, so there is none: a refused request is answered with its
result code, and failures of the lines, the sensors and the memory are state. -/
inductive Fault where
  deriving DecidableEq, Repr

/-- Why a command has no meaning. -/
inductive Refusal where
  /-- exec's arm of a command that is not modelled; safe. No arm uses it. -/
  | notModelled (mnemonic : String)
  deriving DecidableEq, Repr

/-- A step's outcome. -/
abbrev Answer := Host.Outcome State Fault Refusal

/-! ### The state after reset -/

/-- The factory parameters of a sensor line (R22) with its scanner after reset (R38). -/
def SensorLine.factory : SensorLine :=
  { speed := .khz100, pollInterval := 500, missLimit := 3, scan := .stopped, cycleOpen := false, lastVisited := none,
    startPending := false, cycleStart := none, lastCompletion := none, interval := none, txn := none, report := [] }

/-- The factory static fields of a segment (R14). -/
def SegmentDef.factory : SegmentDef :=
  { windowSensor := none, glareThreshold := 20000, releaseThreshold := 8000, glareDelay := 60, releaseDelay := 900,
    glarePosition := 80, openPosition := 0, settle := 20, travelTimeout := 90, retryLimit := 2 }

/-- A segment whose shade group has its state after reset (R153). -/
def Segment.atReset (cfg : SegmentDef) : Segment :=
  { cfg := cfg, manual := false, manualExpiry := none, state := .idle, target := none, phase := .clear,
    glareStart := none, glareLen := 0, travelTimeoutInForce := cfg.travelTimeout, settleInForce := cfg.settle,
    retryLimitInForce := cfg.retryLimit, travel := none, query := none, settle := none }

/-- The factory points of every curve (R19). -/
def factoryCurve : List Nat := [0, 32, 64, 95, 127, 159, 191, 222, 254]

/-- A gear line with its factory parameters (R111), OFF as after reset (R136), whose supply input reads `supply`. -/
def GearLine.factory (supply : Bool) : GearLine :=
  { enabled := true, rateCode := 5, attemptLimit := 3, highWatermark := 24, lowWatermark := 8, auditInterval := 10,
    state := .off, congested := false, queue := [], settle := none, audit := none, auditPos := none,
    supplyRaw := supply, supply := supply, supplyDebounce := none, frameOut := [], frameRate := 0 }

/-- The sweep record after reset (R110); its parts, its measured sensors and its start tick are the model's (log 25). -/
def Sweep.atReset : Sweep :=
  { state := .idle, dark := false, gains := false, zones := [], current := none, zonesDone := 0, settleS := 30,
    gainFloor := 5, driftLimit := 10, measured := [], startTick := 0, lastOutcome := .none, abortCause := .absent,
    darkSet := 0, settle := none }

/-- A zone's calibration result when it is NONE (R91, R110). -/
def CalResult.empty : CalResult :=
  { result := .none, ownGain := none, drift := none, written := 0, discarded := 0 }

/-- The clock after a power-on with the backup-loss detector tripped: 2000-01-01 00:00:00 SAT, not valid (R155). -/
def Clock.afterBackupLoss (stopped : Bool) : Clock :=
  { year := 2000, month := 1, day := 1, hour := 0, minute := 0, second := 0, weekday := 5, subsec := 0, valid := false,
    stopped := stopped, backupTripped := false }

/-- The factory defaults of a profile (R160). -/
def Profile.factory : Profile := { occupiedSp := 500, unoccupiedSp := 0 }

/-- An occupancy input after reset: its debounced level is its raw level (R167). -/
def OccInput.factory (raw : Bool) : OccInput :=
  { raw := raw, active := raw, delay := 15, changed := false, debounce := none }

/-- A set of counters that are all 0 (R176). -/
def Counters.zero : Counters :=
  { zones := List.replicate Config.nZones ⟨0, 0, 0, 0⟩, lines := List.replicate Config.nGearLines ⟨0, 0, 0, 0, 0, 0⟩,
    misses := List.replicate Config.nSensors 0, shades := List.replicate Config.nSegments ⟨0, 0⟩, framingErrors := 0,
    busyReplies := 0 }

/-- The port after reset (R190). -/
def Port.atReset : Port := { rx := .hunt, rxLast := 0, queue := [], replies := [], frameOut := [], restartDue := false }

/-- The Image Loader at the release of a reset: STARTING, with its 20 ms running (R192). -/
def Loader.atReset : Loader :=
  { device := .starting, startup := some ⟨0, 20⟩, knownSlot := none, knownGen := 0, loadReport := none,
    saveReport := .none, load := none, save := none }

/-- The flag port after a reset: nothing latched but CLOCK_INVALID when the clock is not valid, every enable set (R190,
R155), and ATTN_N as R185 gives it. -/
def FlagPort.atReset (clockValid : Bool) : FlagPort :=
  { latched := if clockValid then 0x0000 else 0x0200, enables := 0xFFFF, attn := !clockValid }

/-- The state at the release of a reset that samples `pins`, with the battery domain's clock as it stands: every block in its
reset state and nothing loaded yet (R192, R38, R61, R89, R110, R136, R153, R167, R176, R190). -/
def State.atReset (pins : ResetPins) (clock : Clock) (pending : List Instr) : State :=
  { pending := pending
    tick := 0
    straps := pins.straps
    replyCount := 0
    sensors := List.replicate Config.nSensors none
    sensorLines := List.replicate 2 SensorLine.factory
    zones := List.replicate Config.nZones none
    segments := List.replicate Config.nSegments (Segment.atReset SegmentDef.factory)
    gear := List.replicate Config.nGear none
    curves := List.replicate Config.nCurves factoryCurve
    gearLines := (List.range Config.nGearLines).map fun l => GearLine.factory (pins.lpwr.getLsbD l)
    sweep := Sweep.atReset
    calResults := List.replicate Config.nZones CalResult.empty
    shadeQuery := 2
    clock := clock
    profiles := List.replicate Config.nProfiles Profile.factory
    periods := List.replicate Config.nPeriods none
    occ := (List.range Config.nOcc).map fun i => OccInput.factory (pins.occ.getLsbD i)
    live := Counters.zero
    liveSince := 0
    shadow := Counters.zero
    shadowHeader := { snapshotTick := none, sinceTick := none, cleared := false }
    flags := FlagPort.atReset clock.valid
    port := Port.atReset
    loader := Loader.atReset }

/-- The machine right after reset: the release of a first power-on, with every pin low and a battery domain that was not
held (log 6, 7, 8). -/
def State.reset : State :=
  State.atReset { straps := 0, occ := 0, lpwr := 0 } (Clock.afterBackupLoss false) []

end Sys2Proof.Machine
end

