-- ==== Sys2Proof/Machine/Flags.lean ====
section
/-! DEFINITION. The status flags (R184), their enables and ATTN_N (R185). -/

namespace Sys2Proof.Machine

/-- The status flags, in the order of R184. -/
inductive Flag where
  | sensorFault | zoneFallback | outputLost | gearSilent | lampFail | lineDown | shadeFault | calFinished | occChange
  | clockInvalid | configDefaults | storeError | saveFinished | counterSaturated | hostFrameError | sensorLineOverrun
  deriving DecidableEq, Repr

/-- A flag's place in a flag set: one bit per flag in the order of R184, the first in the least significant bit (R201). -/
def flagBit : Flag → Nat
  | .sensorFault => 0
  | .zoneFallback => 1
  | .outputLost => 2
  | .gearSilent => 3
  | .lampFail => 4
  | .lineDown => 5
  | .shadeFault => 6
  | .calFinished => 7
  | .occChange => 8
  | .clockInvalid => 9
  | .configDefaults => 10
  | .storeError => 11
  | .saveFinished => 12
  | .counterSaturated => 13
  | .hostFrameError => 14
  | .sensorLineOverrun => 15

/-- The flag set that holds one flag. -/
def flagMask (f : Flag) : Word16 := BitVec.twoPow 16 (flagBit f)

/-- Whether a flag set holds a flag. -/
def hasFlag (w : Word16) (f : Flag) : Bool := w.getLsbD (flagBit f)

/-- ATTN_N is driven low while the latched set and the enable set share a member (R185). -/
def attnDue (latched enables : Word16) : Bool := latched &&& enables != 0

/-- The latched and enable sets replaced, and ATTN_N recomputed (R185). -/
def State.withFlags (latched enables : Word16) (s : State) : State :=
  { s with flags := { latched := latched, enables := enables, attn := attnDue latched enables } }

/-- A block reports an event that adds its flag to the latched set (R184). -/
def State.latch (f : Flag) (s : State) : State :=
  s.withFlags (s.flags.latched ||| flagMask f) s.flags.enables

/-- `State.latch` where a condition holds. -/
def State.latchIf (c : Bool) (f : Flag) (s : State) : State := if c then s.latch f else s

/-- CLEAR_FLAGS's removal of the named flags (R186). -/
def State.unlatch (named : Word16) (s : State) : State :=
  s.withFlags (s.flags.latched &&& ~~~named) s.flags.enables

/-- SET_FLAG_ENABLES's replacement of the enable set (R185). -/
def State.setEnables (enables : Word16) (s : State) : State :=
  s.withFlags s.flags.latched enables

end Sys2Proof.Machine
end

