-- ==== Sys2Proof/Machine/Ops.lean ====
section
/-! DEFINITION. The named operations over the part's tables, timers and replies that every block's rules are written with. -/

namespace Sys2Proof.Machine

/-! ### Entries of tables -/

/-- The record at an index, when the index lies in the table and the entry is defined (R3). -/
def entryAt {α : Type} (l : List (Option α)) (i : Nat) : Option α := (l[i]?).join

/-- Sensor S`i`, when it is defined. -/
def State.sensor (s : State) (i : Nat) : Option Sensor := entryAt s.sensors i
/-- Zone Z`z`, when it is defined. -/
def State.zone (s : State) (z : Nat) : Option Zone := entryAt s.zones z
/-- Gear record `i`, when it is defined. -/
def State.gearAt (s : State) (i : Nat) : Option Gear := entryAt s.gear i
/-- Schedule period `i`, when there is one (R161). -/
def State.period (s : State) (i : Nat) : Option Period := entryAt s.periods i
/-- Segment SEG`g`; segments are always defined (R3). -/
def State.segment (s : State) (g : Nat) : Segment := s.segments.getD g (Segment.atReset SegmentDef.factory)
/-- Curve C`c`; curves are always defined (R3). -/
def State.curve (s : State) (c : Nat) : List Nat := s.curves.getD c factoryCurve
/-- Sensor line SL`l`. -/
def State.sensorLine (s : State) (l : Nat) : SensorLine := s.sensorLines.getD l SensorLine.factory
/-- Gear line GL`l`. -/
def State.gearLine (s : State) (l : Nat) : GearLine := s.gearLines.getD l (GearLine.factory false)
/-- Setpoint profile P`p`. -/
def State.profile (s : State) (p : Nat) : Profile := s.profiles.getD p Profile.factory
/-- Occupancy input OCC`i`. -/
def State.occInput (s : State) (i : Nat) : OccInput := s.occ.getD i (OccInput.factory false)
/-- The calibration result of a zone (R91). -/
def State.calResult (s : State) (z : Nat) : CalResult := s.calResults.getD z CalResult.empty

/-- The sensor entry `i` becomes `x`. -/
def State.setSensor (i : Nat) (x : Option Sensor) (s : State) : State := { s with sensors := s.sensors.set i x }
/-- A defined sensor entry changes by `f`. -/
def State.modSensor (i : Nat) (f : Sensor → Sensor) (s : State) : State :=
  { s with sensors := s.sensors.modify i (Option.map f) }
/-- The zone entry `z` becomes `x`. -/
def State.setZone (z : Nat) (x : Option Zone) (s : State) : State := { s with zones := s.zones.set z x }
/-- A defined zone changes by `f`. -/
def State.modZone (z : Nat) (f : Zone → Zone) (s : State) : State :=
  { s with zones := s.zones.modify z (Option.map f) }
/-- The gear entry `i` becomes `x`. -/
def State.setGear (i : Nat) (x : Option Gear) (s : State) : State := { s with gear := s.gear.set i x }
/-- A defined gear changes by `f`. -/
def State.modGear (i : Nat) (f : Gear → Gear) (s : State) : State :=
  { s with gear := s.gear.modify i (Option.map f) }
/-- A segment changes by `f`. -/
def State.modSegment (g : Nat) (f : Segment → Segment) (s : State) : State :=
  { s with segments := s.segments.modify g f }
/-- A sensor line changes by `f`. -/
def State.modSensorLine (l : Nat) (f : SensorLine → SensorLine) (s : State) : State :=
  { s with sensorLines := s.sensorLines.modify l f }
/-- A gear line changes by `f`. -/
def State.modGearLine (l : Nat) (f : GearLine → GearLine) (s : State) : State :=
  { s with gearLines := s.gearLines.modify l f }
/-- An occupancy input changes by `f`. -/
def State.modOcc (i : Nat) (f : OccInput → OccInput) (s : State) : State :=
  { s with occ := s.occ.modify i f }
/-- A zone's calibration result becomes `r`. -/
def State.setCalResult (z : Nat) (r : CalResult) (s : State) : State :=
  { s with calResults := s.calResults.set z r }
/-- The sweep record changes by `f`. -/
def State.modSweep (f : Sweep → Sweep) (s : State) : State := { s with sweep := f s.sweep }
/-- The calendar clock changes by `f`. -/
def State.modClock (f : Clock → Clock) (s : State) : State := { s with clock := f s.clock }
/-- The live counter set changes by `f`. -/
def State.modLive (f : Counters → Counters) (s : State) : State := { s with live := f s.live }
/-- The port's own state changes by `f`. -/
def State.modPort (f : Port → Port) (s : State) : State := { s with port := f s.port }
/-- The Image Loader's own state changes by `f`. -/
def State.modLoader (f : Loader → Loader) (s : State) : State := { s with loader := f s.loader }

/-- The indices below `n` that satisfy `p`, in ascending order. -/
def indicesWhere (n : Nat) (p : Nat → Bool) : List Nat := (List.range n).filter p

/-- A change of the state made for each index of a list, in the list's order. -/
def forEach (l : List Nat) (f : Nat → State → State) (s : State) : State := l.foldl (fun s i => f i s) s

/-- The defined zones that satisfy `p`, in ascending index. -/
def State.zonesWhere (s : State) (p : Zone → Bool) : List Nat :=
  indicesWhere s.zones.length fun z => (s.zone z).any p

/-- The defined gear that satisfy `p`, in ascending index. -/
def State.gearWhere (s : State) (p : Gear → Bool) : List Nat :=
  indicesWhere s.gear.length fun i => (s.gearAt i).any p

/-- The defined sensors that satisfy `p`, in ascending index. -/
def State.sensorsWhere (s : State) (p : Sensor → Bool) : List Nat :=
  indicesWhere s.sensors.length fun i => (s.sensor i).any p

/-- Whether a gear is a DRIVER of zone `z` (R16). -/
def Gear.drives (z : Nat) (g : Gear) : Bool := decide (g.cfg.role = .driver z)
/-- Whether a gear is a DRIVER. -/
def Gear.isDriver (g : Gear) : Bool := match g.cfg.role with | .driver _ => true | .shade _ => false
/-- Whether a gear is a SHADE. -/
def Gear.isShade (g : Gear) : Bool := !g.isDriver
/-- Whether a gear belongs to the shade group of segment `seg` (R137). -/
def Gear.inGroup (seg : Nat) (g : Gear) : Bool := decide (g.cfg.role = .shade seg)

/-- A zone's line group on gear line `l` (R9). -/
def LineGroups.on (g : LineGroups) (l : Nat) : Option Nat :=
  match l with | 0 => g.g0 | 1 => g.g1 | 2 => g.g2 | 3 => g.g3 | _ => none

/-! ### Time -/

/-- A timer of `ms` milliseconds started now. -/
def State.startTimer (s : State) (ms : Nat) : Timer := { start := s.tick, len := ms }

/-- The time a timer has run. -/
def Timer.elapsed (t : Timer) (now : Tick) : Nat := now.since t.start

/-- Whether a timer's length has been reached (R2). -/
def Timer.due (t : Timer) (now : Tick) : Bool := t.len ≤ t.elapsed now

/-- The milliseconds a timer has still to run. -/
def Timer.remaining (t : Timer) (now : Tick) : Nat := t.len - t.elapsed now

/-- `n / d` rounded up (R1's "ceiling"). -/
def ceilDiv (n d : Nat) : Nat := (n + d - 1) / d

/-- `n / d` rounded half up (R1's "rounded"). -/
def roundDiv (n d : Nat) : Nat := (2 * n + d) / (2 * d)

/-- A value clamped to `lo`…`hi` (R1). -/
def clamp (lo hi v : Nat) : Nat := if v < lo then lo else if hi < v then hi else v

/-! ### Conditions that many rules read -/

/-- The device is RUNNING (R183). -/
def State.running (s : State) : Bool := decide (s.loader.device = .running)

/-- A calibration sweep is in progress: from acceptance until the record returns to IDLE (R90). -/
def State.sweeping (s : State) : Bool := decide (s.sweep.state ≠ .idle)

/-- A SAVE_CONFIG is in progress (R196). -/
def State.saving (s : State) : Bool := s.loader.save.isSome

/-- A sensor that is OK or SUSPECT with its filter primed is usable (R51, R63). -/
def Sensor.usable (x : Sensor) : Bool :=
  (decide (x.health = .ok) || decide (x.health = .suspect)) && x.primed

/-! ### Requests and replies -/

/-- What the owner of a request makes of it: the result, the encoded reply fields, and the state after (R180). -/
structure Served where
  result : Result
  fields : List Byte
  state : State

/-- A refused request changes nothing and its reply carries only the result (R182). -/
def refused (r : Result) (s : State) : Served := { result := r, fields := [], state := s }

/-- An accepted request (R182). -/
def accepted (fields : List Byte) (s : State) : Served := { result := .ok, fields := fields, state := s }

/-- An accepted request of which a stored value may differ from the value given (R182). -/
def acceptedAs (adjusted : Bool) (fields : List Byte) (s : State) : Served :=
  { result := if adjusted then .adjusted else .ok, fields := fields, state := s }

/-- A reply joins the replies waiting to be sent, as the latest produced (R181). -/
def State.pushReply (r : Reply) (s : State) : State :=
  { s with port := { s.port with replies := s.port.replies ++ [r] }, replyCount := s.replyCount + 1 }

/-- A request is served by its owner only when the device is RUNNING (R180, order 3). -/
def whenRunning (f : State → Served) (s : State) : Served := if s.running then f s else refused .notReady s

/-- The reply of a served request is produced (R181). -/
def reply (origin : ReplyOrigin) (kind tag : Byte) (r : Served) : State :=
  r.state.pushReply { origin := origin, kind := kind, tag := tag, result := r.result, fields := r.fields }

end Sys2Proof.Machine
end

