-- ==== Sys2Proof/Machine/Codec.lean ====
section
/-! DEFINITION. The wire formats (12_wire_formats.md): how numbers, enumerations and records are encoded, the checks of the
part's serial interfaces, the request kinds and the reply frame. -/

namespace Sys2Proof.Machine

/-! ### Numbers, most significant byte first (R200, R201) -/

/-- A one-byte value. -/
def u8 (n : Nat) : List Byte := [BitVec.ofNat 8 n]
/-- A two-byte value. -/
def u16 (n : Nat) : List Byte := [BitVec.ofNat 8 (n / 256), BitVec.ofNat 8 n]
/-- A four-byte value. -/
def u32 (n : Nat) : List Byte := u16 (n / 65536) ++ u16 n
/-- A flag: 0 for no or clear, 1 for yes or set (log 13). -/
def flag8 (b : Bool) : List Byte := u8 (if b then 1 else 0)
/-- A one-byte value that may be none, unknown or absent: 0xFF then. -/
def opt8 (o : Option Nat) : List Byte := u8 (o.getD 0xFF)
/-- A tick. -/
def tick32 (t : Tick) : List Byte := u32 t.toNat
/-- A tick that may be absent: a presence byte and then the value, 0 when absent. -/
def optTick (o : Option Tick) : List Byte := flag8 o.isSome ++ tick32 (o.getD 0)
/-- A signed value that may be absent: a presence byte and four bytes in two's complement, 0 when absent. -/
def optInt (o : Option Int) : List Byte := flag8 o.isSome ++ u32 (BitVec.ofInt 32 (o.getD 0)).toNat
/-- A list: an entry count, then the entries. -/
def listOf {α : Type} (enc : α → List Byte) (l : List α) : List Byte := u8 l.length ++ l.flatMap enc
/-- The whole seconds of a number of milliseconds, rounded up. -/
def secondsUp (ms : Nat) : Nat := ceilDiv ms 1000
/-- The time remaining of an override or a manual period: four bytes, 0xFFFFFFFF for no expiry (R201). -/
def remaining32 (now : Tick) (expiry : Option Tick) : List Byte :=
  match expiry with
  | some e => u32 (secondsUp (e.since now))
  | none => u32 0xFFFFFFFF
/-- The bytes read as one number, most significant first. -/
def beNat (l : List Byte) : Nat := l.foldl (fun n b => 256 * n + b.toNat) 0

/-! ### Checks -/

/-- One bit of the 16-bit CRC with generator x¹⁶ + x¹² + x⁵ + 1 (R200). -/
def crc16Bit (c : BitVec 16) : BitVec 16 := if c.msb then (c <<< 1) ^^^ 0x1021 else c <<< 1
/-- One byte of the 16-bit CRC, most significant bit first (R200). -/
def crc16Byte (c : BitVec 16) (b : Byte) : BitVec 16 :=
  crc16Bit (crc16Bit (crc16Bit (crc16Bit (crc16Bit (crc16Bit (crc16Bit (crc16Bit (c ^^^ (b.zeroExtend 16 <<< 8)))))))))
/-- The 16-bit check: initial value 0xFFFF, no reflection and no final inversion (R200). -/
def crc16 (l : List Byte) : BitVec 16 := l.foldl crc16Byte 0xFFFF

/-- One bit of the CRC-8 with generator x⁸ + x² + x + 1 (R204). -/
def crc8Bit (c : BitVec 8) : BitVec 8 := if c.msb then (c <<< 1) ^^^ 0x07 else c <<< 1
/-- One byte of the CRC-8, most significant bit first (R204). -/
def crc8Byte (c : BitVec 8) (b : Byte) : BitVec 8 :=
  crc8Bit (crc8Bit (crc8Bit (crc8Bit (crc8Bit (crc8Bit (crc8Bit (crc8Bit (c ^^^ b))))))))
/-- The CRC-8 of a sensor's reply: initial value 0xFF, no final inversion (R204). -/
def crc8 (l : List Byte) : BitVec 8 := l.foldl crc8Byte 0xFF

/-- The check byte of a gear-line frame: the complement of the sum of the bytes before it, modulo 256 (R202). -/
def sumCheck (l : List Byte) : Byte := ~~~(l.foldl (· + ·) 0)

/-! ### Characters of a gear line and of the Building Link Port (R177, R202)

R202 gives the character of a gear line bit by bit. R177 gives the port's as eight data bits, no parity and one stop bit, the same in both
directions; that it has the gear line's start bit, levels and order of bits is PRESUMED from the common UART, unsafe (log 72). -/

/-- The character of a byte: a start bit at the low level, the eight data bits least significant first, no parity bit, and one stop bit
at the high level (R177, R202; log 72). -/
def characterOf (b : Byte) : Character := 1#1 ++ b ++ 0#1
/-- The byte in a character's data bits (R177, R202). -/
def characterByte (c : Character) : Byte := c.extractLsb' 1 8
/-- A character's start bit is low (R202). -/
def startsLow (c : Character) : Bool := !c.getLsbD 0
/-- A character's stop bit is not at the idle high level: a stop-bit error (R178, R202, R203). -/
def stopsLow (c : Character) : Bool := !c.getLsbD 9
/-- A character's levels in the order of its bit times, `true` for high (R202). -/
def characterLevels (c : Character) : List Bool := (List.range 10).map c.getLsbD
/-- The levels of a frame, one for each bit time: ten for each byte, with no level between two characters (R202; for the port log 72). -/
def frameLevels (l : List Byte) : List Bool := l.flatMap fun b => characterLevels (characterOf b)
/-- What the receiver of GLx_RX makes of the three characters of a backward frame: the command that carries their bytes, data, status and
check, and whether one of them has a stop-bit error (R202, R203); none where one has no low start bit, since a character begins at its
start bit (log 70). -/
def answerCommand (line : Fin 4) (data status check : Character) : Option Instr :=
  if startsLow data && startsLow status && startsLow check then
    some (.gearAnswerReceived line (characterByte data) (characterByte status) (characterByte check)
      (stopsLow data || stopsLow status || stopsLow check))
  else none

/-- What the port's receiver makes of one character on BLP_RXD (R177, R178): the byte it carries, or the discard for a stop-bit error;
none where the start bit is not low, since a character begins at its start bit. In HUNT a character with a stop-bit error begins no
frame and counts nothing, even with the byte 0xA5: a DESIGN CHOICE, unsafe (log 72). -/
def byteCommand (c : Character) : Option Instr :=
  if startsLow c then some (if stopsLow c then .frameDiscarded else .frameByteReceived (characterByte c)) else none

/-- What one of the part's serial outputs does: the forward output GLx_TX of a gear line (R112), or BLP_TXD (R177). -/
inductive TxOutput where
  | idleHigh
  /-- driven idle low without a break: a gear line that is HELD (R112) -/
  | idleLow
  /-- the frame that is being sent: its levels in order, `true` for high, each held for one bit time of the bit rate that it began with
  (R121, R177, R202); idle high after the frame, until the event that ends the sending (log 58) -/
  | frame (levels : List Bool) (bitRate : Nat)
  deriving DecidableEq, Repr

/-! ### Transactions on a two-wire bus (R204, R208) -/

/-- What the part does on a two-wire bus at a condition or at one clock. -/
inductive BusSignal where
  /-- a start condition, a repeated one too -/
  | start
  /-- a bit of a byte that the part sends, `true` for high -/
  | bit (level : Bool)
  /-- the data line is left to the partner, for a bit of a byte that it sends or for its acknowledgement at the ninth clock -/
  | listen
  /-- the part acknowledges a byte that it has read -/
  | ack
  /-- the part does not acknowledge a byte that it has read -/
  | noAck
  /-- a stop condition -/
  | stop
  deriving DecidableEq, Repr

/-- A byte that the part sends, and the clock of its acknowledgement. That its most significant bit goes first, as R204 and R208 say of the
bytes that the partner sends, is DEDUCED, unsafe (log 71). -/
def sentByte (b : Byte) : List BusSignal := (List.range 8).map (fun k => .bit (b.getMsbD k)) ++ [.listen]
/-- A byte that the part reads, acknowledged or not. -/
def heardByte (r : BusSignal) : List BusSignal := List.replicate 8 .listen ++ [r]
/-- Bytes that the part reads: it acknowledges each but the last (R204, R208). -/
def heardBytes : Nat → List BusSignal
  | 0 => []
  | n + 1 => (List.replicate n (heardByte .ack)).flatten ++ heardByte .noAck
/-- A whole transaction: the bytes sent after each start condition, the bytes read after them, and the stop condition (R204, R208). -/
def transaction (sent : List (List Byte)) (heard : Nat) : List BusSignal :=
  sent.flatMap (fun l => .start :: l.flatMap sentByte) ++ heardBytes heard ++ [.stop]

/-! ### Enumerations, in the order the manual lists them, from 0 (R201) -/

def SensorKind.code : SensorKind → Nat
  | .ceiling => 0 | .window => 1
def Speed.code : Speed → Nat
  | .khz100 => 0 | .khz400 => 1
def ScanState.code : ScanState → Nat
  | .stopped => 0 | .waiting => 1 | .scanning => 2 | .paused => 3
def Health.code : Health → Nat
  | .disabled => 0 | .absent => 1 | .ok => 2 | .suspect => 3 | .failed => 4
def Band.code : Band → Nat
  | .a => 0 | .b => 1 | .c => 2
def ZoneState.code : ZoneState → Nat
  | .disabled => 0 | .tracking => 1 | .fallback => 2 | .hold => 3 | .override => 4 | .calibrating => 5
def Occupancy.code : Occupancy → Nat
  | .occupied => 0 | .vacancyPending => 1 | .vacant => 2
/-- ACTIVE and INACTIVE, in the order of R164 (log 60). -/
def occLevelCode (active : Bool) : Nat := if active then 0 else 1
def FallbackSource.code : FallbackSource → Nat
  | .none => 0 | .windowRatio => 1 | .profile => 2 | .fixed => 3
/-- The order is that of R62's table (log 59). -/
def FallbackReason.code : FallbackReason → Nat
  | .noSensor => 0 | .sensorFailed => 1 | .noGain => 2
def ShadeState.code : ShadeState → Nat
  | .idle => 0 | .moving => 1 | .settling => 2 | .faulted => 3
def GlarePhase.code : GlarePhase → Nat
  | .clear => 0 | .glarePending => 1 | .glared => 2 | .releasePending => 3
def GearState.code : GearState → Nat
  | .unknown => 0 | .present => 1 | .silent => 2
def Dirty.code : Dirty → Nat
  | .clear => 0 | .value => 1 | .setup => 2
def LineState.code : LineState → Nat
  | .off => 0 | .starting => 1 | .up => 2 | .down => 3 | .held => 4
def Origin.code : Origin → Nat
  | .zone => 0 | .audit => 1 | .shade => 2 | .setup => 3
def SweepState.code : SweepState → Nat
  | .idle => 0 | .preparing => 1 | .baseSettle => 2 | .baseRead => 3 | .stepOn => 4 | .stepSettle => 5 | .stepRead => 6
  | .stepOff => 7 | .restoreSettle => 8 | .restoreRead => 9 | .finishing => 10 | .aborting => 11
def SweepOutcome.code : SweepOutcome → Nat
  | .none => 0 | .finished => 1 | .aborted => 2
def CalKind.code : CalKind → Nat
  | .none => 0 | .ok => 1 | .weak => 2 | .drift => 3 | .aborted => 4
def DeviceState.code : DeviceState → Nat
  | .starting => 0 | .loading => 1 | .running => 2
def LoadOutcome.code : LoadOutcome → Nat
  | .loaded => 0 | .loadedOlder => 1 | .defaultsBlank => 2 | .defaultsDamaged => 3 | .defaultsNoMemory => 4
def SaveFailure.code : SaveFailure → Nat
  | .noMemory => 0 | .writeFailed => 1 | .verifyFailed => 2

/-- The result codes (R201). -/
def Result.code : Result → Nat
  | .ok => 0x00 | .adjusted => 0x01 | .unknownKind => 0x10 | .badLength => 0x11 | .outOfRange => 0x12 | .noSuch => 0x13
  | .inUse => 0x14 | .tableFull => 0x15 | .overlap => 0x16 | .conflict => 0x17 | .notReady => 0x18 | .busy => 0x19
  | .storeFailed => 0x1A

/-- The command byte of a forward frame (R202). -/
def GearCmd.wire : GearCmd → Nat
  | .setValue => 0x01 | .queryValue => 0x02 | .queryStatus => 0x03 | .setLossLevel => 0x04 | .setGroup => 0x05
  | .shadeGoto => 0x06 | .shadeStop => 0x07 | .shadeQuery => 0x08

/-- A gear-line command in a reply field: its place in the list of R125, from 0. -/
def GearCmd.code (c : GearCmd) : Nat := c.wire - 1

def SensorKind.ofCode : Nat → Option SensorKind
  | 0 => some .ceiling | 1 => some .window | _ => none
def Speed.ofCode : Nat → Option Speed
  | 0 => some .khz100 | 1 => some .khz400 | _ => none
def Band.ofCode : Nat → Option Band
  | 0 => some .a | 1 => some .b | 2 => some .c | _ => none
/-- A flag's value: 0 is no, 1 is yes (log 13), any other value is out of range (log 14). -/
def flagOf : Nat → Option Bool
  | 0 => some false | 1 => some true | _ => none
/-- A gear's kind (0 DRIVER, 1 SHADE) with the zone or segment it names. -/
def GearRole.ofCode (kind owner : Nat) : Option GearRole :=
  match kind with
  | 0 => some (.driver owner) | 1 => some (.shade owner) | _ => none
def GearRole.kindCode : GearRole → Nat
  | .driver _ => 0 | .shade _ => 1
def GearRole.owner : GearRole → Nat
  | .driver z => z | .shade g => g
/-- An optional reference as a field gives it: 0xFF is absent (R201). -/
def refOf (v : Nat) : Option Nat := if v = 0xFF then none else some v

/-! ### Records -/

/-- A sensor's static fields (R5). -/
def encSensorDef (x : Sensor) : List Byte :=
  u8 x.kind.code ++ u8 x.line ++ u8 x.address ++ flag8 x.enabled ++ u16 x.scale ++ u8 x.fallCoeff ++ u8 x.riseCoeff

/-- A contribution list (R40). -/
def encContrib (l : List Contrib) : List Byte := listOf (fun c => u8 c.zone ++ u16 c.gain) l

/-- A zone's static fields (R9). -/
def encZoneDef (z : ZoneDef) : List Byte :=
  u8 z.segment ++ u8 z.band.code ++ opt8 z.controlSensor ++ opt8 z.groups.g0 ++ opt8 z.groups.g1 ++ opt8 z.groups.g2
    ++ opt8 z.groups.g3 ++ u8 z.defaultCurve ++ u16 z.lmin ++ u16 z.fallbackLevel ++ u8 z.profile ++ opt8 z.occInput
    ++ u8 z.upRate ++ u8 z.downRate ++ u16 z.deadband ++ u16 z.offDelay ++ u16 z.onMargin ++ flag8 z.enabled

/-- A profile bin: a marker byte and the value, 0x0000 when empty (R201). -/
def encBin (b : Option Nat) : List Byte := flag8 b.isSome ++ u16 (b.getD 0)

/-- A segment's static fields (R14). -/
def encSegmentDef (g : SegmentDef) : List Byte :=
  opt8 g.windowSensor ++ u16 g.glareThreshold ++ u16 g.releaseThreshold ++ u16 g.glareDelay ++ u16 g.releaseDelay
    ++ u8 g.glarePosition ++ u8 g.openPosition ++ u16 g.settle ++ u16 g.travelTimeout ++ u8 g.retryLimit

/-- A gear's static fields (R16). -/
def encGearDef (g : GearDef) : List Byte :=
  u8 g.line ++ u8 g.address ++ u8 g.role.kindCode ++ u8 g.role.owner ++ u8 g.curve ++ u16 g.trim ++ u8 g.minValue
    ++ u8 g.lossLevel

/-- A curve's points (R19). -/
def encCurve (l : List Nat) : List Byte := l.flatMap u8

/-- A sensor line's parameters (R22). -/
def encSensorLine (l : SensorLine) : List Byte := u8 l.speed.code ++ u16 l.pollInterval ++ u8 l.missLimit

/-- A gear line's parameters in the order of SET_GEAR_LINE (R111). -/
def encGearLine (l : GearLine) : List Byte :=
  u8 l.rateCode ++ u8 l.attemptLimit ++ u8 l.highWatermark ++ u8 l.lowWatermark ++ u16 l.auditInterval

/-- A profile's defaults (R160). -/
def encProfile (p : Profile) : List Byte := u16 p.occupiedSp ++ u16 p.unoccupiedSp

/-- A period's fields (R161). -/
def encPeriod (p : Period) : List Byte :=
  u8 p.profile ++ u8 p.days.toNat ++ u16 p.startMin ++ u16 p.endMin ++ u16 p.occupiedSp ++ u16 p.unoccupiedSp

/-- The clock's date, time and weekday (R157); each but the year takes one byte (log 13). -/
def encDate (c : Clock) : List Byte :=
  u16 c.year ++ u8 c.month ++ u8 c.day ++ u8 c.hour ++ u8 c.minute ++ u8 c.second ++ u8 c.weekday

/-- A flag set (R201). -/
def encFlags (w : Word16) : List Byte := u16 w.toNat

/-- The occupancy change set: one bit per input, OCC0 in the least significant bit (R164, R201). -/
def encOccChanges (l : List OccInput) : List Byte :=
  u8 ((l.zipIdx.map fun x => if x.1.changed then 2 ^ x.2 else 0).sum)

/-- A calibration result (R91). -/
def encCalResult (r : CalResult) : List Byte :=
  u8 r.result.code ++ optInt r.ownGain ++ optInt r.drift ++ u8 r.written ++ u8 r.discarded

/-- The target byte of a transmit-queue entry: the gear index, or 0xC0 + g (R201). -/
def Target.code : Target → Nat
  | .gear i => i | .group g => 0xC0 + g

/-- A transmit-queue entry (R125, R201): a setup entry's two value bytes are the loss level and the group, any other's
are 0x00 and the value, or 0x00 0x00 for a command without a value. An entry whose gear has been deleted or has changed its
identity shows the index that it was queued for (log 51). -/
def encEntry (e : Entry) : List Byte :=
  u8 e.target.code ++ u8 e.cmd.code
    ++ (match e.cmd with
        | .setLossLevel | .setGroup => u8 e.value ++ opt8 e.group
        | .setValue | .shadeGoto => u8 0 ++ u8 e.value
        | .queryValue | .queryStatus | .shadeStop | .shadeQuery => u8 0 ++ u8 0)
    ++ u8 e.origin.code ++ u8 e.attempts ++ flag8 e.inFlight

/-! ### Frames of the Building Link Port (R200) -/

/-- The request kinds, in the order of the message set's tables (R201). -/
inductive Kind where
  | identify | getStatus | clearFlags | setFlagEnables | restart | saveConfig | loadDefaults
  | defineSensor | setSensor | deleteSensor | defineZone | setZone | deleteZone | defineSegment | defineGear | deleteGear
  | defineCurve | readSensorDef | readZoneDef | readSegmentDef | readGearDef | readCurve
  | setSensorLine | readSensorLine | readSensor | writeContrib | readContrib | readProfile
  | overrideZone | releaseZone | readZone
  | startCalibration | abortCalibration | readCalibration
  | setGearLine | lineControl | readGearLine | readGear
  | shadeCommand | clearShadeFault | setShadeQuery | readShade
  | setClock | getClock | setProfileDefaults | definePeriod | deletePeriod | readSchedule | setOccInput | readOccupancy
  | snapshot | readCounters
  deriving DecidableEq, Repr

/-- The kinds in code order: the first has code 0x01 (R201). -/
def allKinds : List Kind :=
  [.identify, .getStatus, .clearFlags, .setFlagEnables, .restart, .saveConfig, .loadDefaults,
   .defineSensor, .setSensor, .deleteSensor, .defineZone, .setZone, .deleteZone, .defineSegment, .defineGear, .deleteGear,
   .defineCurve, .readSensorDef, .readZoneDef, .readSegmentDef, .readGearDef, .readCurve,
   .setSensorLine, .readSensorLine, .readSensor, .writeContrib, .readContrib, .readProfile,
   .overrideZone, .releaseZone, .readZone,
   .startCalibration, .abortCalibration, .readCalibration,
   .setGearLine, .lineControl, .readGearLine, .readGear,
   .shadeCommand, .clearShadeFault, .setShadeQuery, .readShade,
   .setClock, .getClock, .setProfileDefaults, .definePeriod, .deletePeriod, .readSchedule, .setOccInput, .readOccupancy,
   .snapshot, .readCounters]

/-- A kind's code (R201). -/
def Kind.code (k : Kind) : Byte := BitVec.ofNat 8 (allKinds.idxOf k + 1)

/-- The kind of a code; any other code is unknown (R201). -/
def Kind.ofCode (b : Byte) : Option Kind := if b.toNat = 0 then none else allKinds[b.toNat - 1]?

/-- A reply's payload: the result byte and the reply fields (R201). -/
def Reply.payload (r : Reply) : List Byte := u8 r.result.code ++ r.fields

/-- The check of a frame: the CRC over kind, tag, length and payload (R200). -/
def frameCheck (kind tag : Byte) (payload : List Byte) : BitVec 16 :=
  crc16 (kind :: tag :: BitVec.ofNat 8 payload.length :: payload)

/-- A Building Link Port frame (R200). The length byte of a payload above 255 bytes, which only a READ_SCHEDULE of 23 or more periods
has, is the length modulo 256: a DESIGN CHOICE, unsafe (log 66). -/
def frameBytes (kind tag : Byte) (payload : List Byte) : List Byte :=
  0xA5 :: kind :: tag :: BitVec.ofNat 8 payload.length :: payload ++ u16 (frameCheck kind tag payload).toNat

/-- The reply frame that goes out on BLP_TXD (R200). -/
def Reply.frame (r : Reply) : List Byte := frameBytes r.kind r.tag r.payload

end Sys2Proof.Machine
end

