-- ==== Sys2Proof/Machine/Operands.lean ====
section
/-! DEFINITION. How the fields of a request are checked, clamped and defaulted, and the tables of codes that fields name. -/

namespace Sys2Proof.Machine

/-! ### Checks (R4, R182) -/

/-- The result of the first check that fails; a check is whether it holds and the result on failure (R4). -/
def firstFailing : List (Bool × Result) → Option Result
  | [] => none
  | (holds, r) :: rest => if holds then firstFailing rest else some r

/-- A request is refused with the first check that fails, and otherwise carried out (R4, R182). -/
def checked (checks : List (Bool × Result)) (s : State) (carry : Served) : Served :=
  match firstFailing checks with
  | some r => refused r s
  | none => carry

/-- A value lies between `lo` and `hi`. -/
def between (lo hi v : Nat) : Bool := decide (lo ≤ v) && decide (v ≤ hi)

/-- A field left out, or one whose value lies between `lo` and `hi`. -/
def optBetween (lo hi : Nat) (o : Option Nat) : Bool := o.all (between lo hi)

/-- A reference field left out, given as absent, or naming an index below `n`. -/
def optRef (n : Nat) (o : Option Nat) : Bool := o.all fun v => v == 0xFF || decide (v < n)

/-- A flag field left out, or 0 or 1 (log 14). -/
def optFlag (o : Option Nat) : Bool := o.all fun v => (flagOf v).isSome

/-- The reference a field stores: the stored one where the field is left out. -/
def refOr (stored : Option Nat) (o : Option Nat) : Option Nat := (o.map refOf).getD stored

/-- The flag a field stores: the stored one where the field is left out. -/
def flagOr (stored : Bool) (o : Option Nat) : Bool := (o.bind flagOf).getD stored

/-- The value a clamped field stores. -/
def clampOr (lo hi stored : Nat) (o : Option Nat) : Nat := (o.map (clamp lo hi)).getD stored

/-- Whether a field carries a value that its clamp changes. -/
def clamps (lo hi : Nat) (o : Option Nat) : Bool := o.any fun v => decide (clamp lo hi v ≠ v)

/-! ### Tables of codes -/

/-- A zone's rate in ‰ per second by its code; code 15 sets no limit (R77). -/
def rateOf : Nat → Option Nat
  | 0 => some 1 | 1 => some 2 | 2 => some 5 | 3 => some 10 | 4 => some 20 | 5 => some 40 | 6 => some 60 | 7 => some 100
  | 8 => some 150 | 9 => some 200 | 10 => some 300 | 11 => some 500 | 12 => some 750 | 13 => some 1000 | 14 => some 2000
  | _ => none

/-- The gear-line rate code stored for a code carried: the lowest code of the same bit rate (R111). -/
def storedRateCode : Nat → Nat
  | 0 | 1 | 2 => 0
  | 3 | 4 => 3
  | 5 | 6 => 5
  | _ => 7

/-- A gear line's bit rate in bit/s by its rate code (R111). -/
def gearRate : Nat → Nat
  | 0 | 1 | 2 => 2400
  | 3 | 4 => 4800
  | 5 | 6 => 9600
  | _ => 19200

/-- The Building Link Port's bit rate by the straps BAUD_SEL1 and BAUD_SEL0 (R177). -/
def portRate (straps : BitVec 2) : Nat :=
  match straps.toNat with
  | 0 => 57600 | 1 => 115200 | 2 => 230400 | _ => 460800

end Sys2Proof.Machine
end

