-- ==== Sys2Proof/Machine/Counters.lean ====
section
/-! DEFINITION. The Counter Unit (09_energy_and_traffic_counters.md): the live and shadow sets, the zone accruals and SNAPSHOT. -/

namespace Sys2Proof.Machine

/-- A counter of a set (R168). -/
inductive Counter where
  | electric (z : Nat) | saved (z : Nat) | daylitS (z : Nat) | overrideS (z : Nat)
  | frames (l : Nat) | retries (l : Nat) | silentEvents (l : Nat) | groupFrames (l : Nat) | deferrals (l : Nat)
  | mismatches (l : Nat)
  | misses (i : Nat)
  | moves (g : Nat) | stalls (g : Nat)
  | framingErrors | busyReplies
  deriving DecidableEq, Repr

/-- The counters of a zone in a set. -/
def Counters.zone (c : Counters) (z : Nat) : ZoneCounters := c.zones.getD z ⟨0, 0, 0, 0⟩
/-- The counters of a gear line in a set. -/
def Counters.line (c : Counters) (l : Nat) : LineCounters := c.lines.getD l ⟨0, 0, 0, 0, 0, 0⟩
/-- The counters of a segment in a set. -/
def Counters.shade (c : Counters) (g : Nat) : ShadeCounters := c.shades.getD g ⟨0, 0⟩

/-- A counter's value in a set. -/
def Counters.get (c : Counters) : Counter → Nat
  | .electric z => (c.zone z).electric
  | .saved z => (c.zone z).saved
  | .daylitS z => (c.zone z).daylitS
  | .overrideS z => (c.zone z).overrideS
  | .frames l => (c.line l).frames
  | .retries l => (c.line l).retries
  | .silentEvents l => (c.line l).silentEvents
  | .groupFrames l => (c.line l).groupFrames
  | .deferrals l => (c.line l).deferrals
  | .mismatches l => (c.line l).mismatches
  | .misses i => c.misses.getD i 0
  | .moves g => (c.shade g).moves
  | .stalls g => (c.shade g).stalls
  | .framingErrors => c.framingErrors
  | .busyReplies => c.busyReplies

/-- A set in which one counter has the value `v`. -/
def Counters.put (k : Counter) (v : Nat) (c : Counters) : Counters :=
  match k with
  | .electric z => { c with zones := c.zones.modify z fun x => { x with electric := v } }
  | .saved z => { c with zones := c.zones.modify z fun x => { x with saved := v } }
  | .daylitS z => { c with zones := c.zones.modify z fun x => { x with daylitS := v } }
  | .overrideS z => { c with zones := c.zones.modify z fun x => { x with overrideS := v } }
  | .frames l => { c with lines := c.lines.modify l fun x => { x with frames := v } }
  | .retries l => { c with lines := c.lines.modify l fun x => { x with retries := v } }
  | .silentEvents l => { c with lines := c.lines.modify l fun x => { x with silentEvents := v } }
  | .groupFrames l => { c with lines := c.lines.modify l fun x => { x with groupFrames := v } }
  | .deferrals l => { c with lines := c.lines.modify l fun x => { x with deferrals := v } }
  | .mismatches l => { c with lines := c.lines.modify l fun x => { x with mismatches := v } }
  | .misses i => { c with misses := c.misses.set i v }
  | .moves g => { c with shades := c.shades.modify g fun x => { x with moves := v } }
  | .stalls g => { c with shades := c.shades.modify g fun x => { x with stalls := v } }
  | .framingErrors => { c with framingErrors := v }
  | .busyReplies => { c with busyReplies := v }

/-- A counter of value `c` increased by `n`: it stays at the maximum (R169). -/
def satAdd (c n : Nat) : Nat := min Config.counterMax (c + n)

/-- Whether the increase brings a counter from below the maximum to it or past it (R169). -/
def saturates (c n : Nat) : Bool := decide (c < Config.counterMax) && decide (Config.counterMax ≤ c + n)

/-- The live counter `k` increases by `n`; reaching the maximum latches COUNTER_SATURATED (R169). -/
def State.countBy (k : Counter) (n : Nat) (s : State) : State :=
  (s.modLive (Counters.put k (satAdd (s.live.get k) n))).latchIf (saturates (s.live.get k) n) .counterSaturated

/-- The live counter `k` increases by 1 (R173). -/
def State.count (k : Counter) (s : State) : State := s.countBy k 1

/-! ### Zone counters -/

/-- A zone's remainders change by `f`. -/
def State.modRem (z : Nat) (f : Remainders → Remainders) (s : State) : State :=
  s.modZone z fun x => { x with rem := f x.rem }

/-- The record that the ZCU hands the CTU at the end of an evaluation (R79, section 9.2). -/
structure EvalRecord where
  oldLevel : Nat
  dt : Nat
  setpoint : Nat
  gain : Option Nat
  day : Option Nat
  deriving DecidableEq, Repr

/-- The no-daylight level of a record (R170). -/
def noDaylightLevel (setpoint gain : Nat) : Nat := min 1000 (ceilDiv (setpoint * 1000) gain)

/-- What a record adds to the saved remainder (R170). -/
def savedAdd (r : EvalRecord) : Nat :=
  match r.gain with
  | some g => (noDaylightLevel r.setpoint g - r.oldLevel) * r.dt
  | none => 0

/-- What a record adds to the daylit remainder (R171). -/
def daylitAdd (r : EvalRecord) : Nat :=
  match r.day with
  | some d => if 0 < r.setpoint ∧ r.setpoint ≤ d then r.dt else 0
  | none => 0

/-- One evaluation record: ELECTRIC, SAVED and DAYLIT_S and their remainders, in one step (R170, R171). -/
def State.recordEval (z : Nat) (r : EvalRecord) (s : State) : State :=
  match s.zone z with
  | none => s
  | some x =>
    let e := x.rem.electric + r.oldLevel * r.dt
    let v := x.rem.saved + savedAdd r
    let d := x.rem.daylit + daylitAdd r
    (((s.modRem z fun m => { m with electric := e % 1000, saved := v % 1000, daylit := d % 1000 }).countBy
      (.electric z) (e / 1000)).countBy (.saved z) (v / 1000)).countBy (.daylitS z) (d / 1000)

/-- An override accrual: the time since the mark joins the remainder, and the mark becomes `mark` (R172). -/
def State.accrueOverride (z : Nat) (mark : Option Tick) (s : State) : State :=
  match (s.zone z).bind fun x => x.rem.mark.map fun m => x.rem.override + s.tick.since m with
  | none => s
  | some total => (s.modRem z fun m => { m with override := total % 1000, mark := mark }).countBy (.overrideS z) (total / 1000)

/-- A zone enters OVERRIDE: its mark takes the current tick (R172). -/
def State.markOverride (z : Nat) (s : State) : State := s.modRem z fun m => { m with mark := some s.tick }

/-! ### Requests -/

/-- SNAPSHOT's copy of the live set into the shadow set, and its clearing of the live set (R174). -/
def State.takeSnapshot (clear : Bool) (s : State) : State :=
  { s with
    shadow := s.live
    shadowHeader := { snapshotTick := some s.tick, sinceTick := some s.liveSince, cleared := clear }
    live := if clear then Counters.zero else s.live
    liveSince := if clear then s.tick else s.liveSince }

/-- SNAPSHOT (R174). -/
def serveSnapshot (clear : Nat) (s : State) : Served :=
  match flagOf clear with
  | none => refused .outOfRange s
  | some c => accepted (tick32 s.tick ++ flag8 c) (s.takeSnapshot c)

/-- The groups of READ_COUNTERS with the number of instances and the most of one request (R175): ZONE, LINE, SENSOR,
SHADE, PORT in code order. -/
def counterGroup : Nat → Option (Nat × Nat)
  | 0 => some (48, 12) | 1 => some (4, 4) | 2 => some (64, 32) | 3 => some (16, 16) | 4 => some (1, 1) | _ => none

/-- The counters of one instance of a group, in the order of R168. -/
def counterNames (group i : Nat) : List Counter :=
  match group with
  | 0 => [.electric i, .saved i, .daylitS i, .overrideS i]
  | 1 => [.frames i, .retries i, .silentEvents i, .groupFrames i, .deferrals i, .mismatches i]
  | 2 => [.misses i]
  | 3 => [.moves i, .stalls i]
  | _ => [.framingErrors, .busyReplies]

/-- The instances `first` to `first + count − 1` of a group, as a list with its entry count (R175; log 52). -/
def encInstances (c : Counters) (group first count : Nat) : List Byte :=
  listOf (fun i => (counterNames group i).flatMap fun k => u32 (c.get k)) (List.range' first count)

/-- A set's header (R168): 0 is LIVE, 1 is SHADOW. -/
def encHeader (s : State) (set : Nat) : List Byte :=
  if set = 0 then tick32 s.liveSince
  else optTick s.shadowHeader.snapshotTick ++ optTick s.shadowHeader.sinceTick ++ flag8 s.shadowHeader.cleared

/-- READ_COUNTERS (R175). -/
def serveReadCounters (set group first count : Nat) (s : State) : Served :=
  match counterGroup group with
  | none => refused .outOfRange s
  | some (n, most) =>
    checked [(between 0 1 set, .outOfRange), (decide (first < n), .outOfRange), (between 1 most count, .outOfRange),
      (decide (first + count ≤ n), .outOfRange)] s
      (accepted (u8 set ++ u8 group ++ u8 first ++ encHeader s set
        ++ encInstances (if set = 0 then s.live else s.shadow) group first count) s)

/-- SNAPSHOT. -/
def execSnapshot (tag : Byte) (clear : Nat) (s : State) : Answer :=
  .next (reply .direct Kind.snapshot.code tag (whenRunning (serveSnapshot clear) s))

/-- READ_COUNTERS. -/
def execReadCounters (tag : Byte) (set group first count : Nat) (s : State) : Answer :=
  .next (reply .direct Kind.readCounters.code tag (whenRunning (serveReadCounters set group first count) s))

end Sys2Proof.Machine
end

