-- ==== Sys2Proof/Machine/GearLine.lean ====
section
/-! DEFINITION. The Gear Line Controller's core (06_gear_lines_and_transmit_queues.md): values, the transmit queue, the dirty set,
congestion, zone levels, and the states of the lines. -/

namespace Sys2Proof.Machine

/-! ### From level to value -/

/-- The value of a level through a curve's points, a trim and a minimum (R119). -/
def levelValue (points : List Nat) (trim minValue level : Nat) : Nat :=
  if level = 0 then 0
  else
    let i := min 7 (level / 125)
    let p := points.getD i 0
    let q := points.getD (i + 1) 0
    let v := p + roundDiv ((q - p) * (level - 125 * i)) 125
    clamp (max 1 minValue) 254 (roundDiv (v * trim) 256)

/-- A zone's level as the ZCU holds it; an undefined zone contributes none. -/
def State.levelOf (s : State) (z : Nat) : Nat := (s.zone z).elim 0 Zone.level

/-- The value of a DRIVER gear for its zone's level at this moment (R119). -/
def State.ownValue (s : State) (z : Nat) (g : Gear) : Nat :=
  levelValue (s.curve g.cfg.curve) g.cfg.trim g.cfg.minValue (s.levelOf z)

/-- The value of a group frame of a zone: its default curve, trim 256 and min_value 1 (R120). -/
def State.groupValue (s : State) (x : Zone) : Nat := levelValue (s.curve x.cfg.defaultCurve) 256 1 x.level

/-- The line group that a gear's setup gives it on its line (R127). -/
def State.setupGroup (s : State) (g : Gear) : Option Nat :=
  match g.cfg.role with
  | .driver z => (s.zone z).bind fun x => x.cfg.groups.on g.cfg.line
  | .shade _ => none

/-! ### Entries and classes -/

/-- The command classes (R125). -/
inductive CmdClass where
  | level | position | query | setup
  deriving DecidableEq, Repr

/-- The class of a command (R125). -/
def GearCmd.cls : GearCmd → CmdClass
  | .setValue => .level
  | .shadeGoto | .shadeStop => .position
  | .queryValue | .queryStatus | .shadeQuery => .query
  | .setLossLevel | .setGroup => .setup

/-- The target and class by which entries coalesce and supersede (R123, R126); an orphan is no gear's entry (R17). -/
def Entry.sameSlot (t : Target) (c : CmdClass) (e : Entry) : Bool :=
  !e.orphan && decide (e.target = t) && decide (e.cmd.cls = c)

/-- An entry queued and not in flight, of a target and class (R126). -/
def Entry.waits (t : Target) (c : CmdClass) (e : Entry) : Bool := !e.inFlight && e.sameSlot t c

/-- A new entry, as an arrival carries it (R125). -/
def Entry.arrival (target : Target) (cmd : GearCmd) (value : Nat) (group : Option Nat) (origin : Origin) : Entry :=
  { target := target, cmd := cmd, value := value, group := group, origin := origin, attempts := 0, inFlight := false,
    attempting := false, orphan := false }

/-- A queued entry that an arrival of the same target and class coalesces into (R126): a query stands as it is, any other
takes the arrival's command and values, a setup entry from its first stage again, and keeps its place and its attempts_used,
which is 0 for an entry that has not been sent (log 11). -/
def Entry.coalesce (a e : Entry) : Entry :=
  match a.cmd.cls with
  | .query => e
  | .level | .position | .setup => { e with cmd := a.cmd, value := a.value, group := a.group }

/-- A change of the first element that satisfies `p`. -/
def modifyFirst {α : Type} (p : α → Bool) (f : α → α) : List α → List α
  | [] => []
  | x :: rest => if p x then f x :: rest else x :: modifyFirst p f rest

/-- A gear line is UP (R112). -/
def GearLine.isUp (l : GearLine) : Bool := decide (l.state = .up)

/-- Entries of a line's queue that do not satisfy `p` are kept. -/
def State.dropEntries (l : Nat) (p : Entry → Bool) (s : State) : State :=
  s.modGearLine l fun x => { x with queue := x.queue.filter fun e => !p e }

/-! ### Dirty marks (R128) -/

/-- Marks a gear dirty with setup; its waiting value entries leave, so that its value follows its setup (R128). -/
def State.markSetup (i : Nat) (s : State) : State :=
  match s.gearAt i with
  | none => s
  | some g =>
    if (s.gearLine g.cfg.line).isUp && decide (g.state ≠ .silent) then
      (s.modGear i fun g => { g with dirty := .setup }).dropEntries g.cfg.line fun e =>
        !e.inFlight && decide (e.target = .gear i) && (decide (e.cmd = .setValue) || decide (e.cmd = .shadeGoto))
    else s

/-- Marks a gear dirty for its value; SETUP stays SETUP (R128). -/
def State.markValue (i : Nat) (s : State) : State :=
  match s.gearAt i with
  | none => s
  | some g =>
    if (s.gearLine g.cfg.line).isUp && decide (g.state ≠ .silent) && decide (g.dirty = .clear) then
      s.modGear i fun g => { g with dirty := .value }
    else s

/-! ### Arrivals (R126, R130) -/

/-- A line that is not CONGESTED enters CONGESTED when its depth is at or above its high watermark (R130). -/
def State.highCheck (l : Nat) (s : State) : State :=
  s.modGearLine l fun x =>
    { x with congested := x.congested || (x.isUp && decide (x.highWatermark ≤ x.queue.length)) }

/-- The gear's expected_value takes the value of a level or position arrival that was placed (R126); a SHADE_STOP leaves
it, and a group arrival sets it in R131. -/
def State.noteExpected (a : Entry) (s : State) : State :=
  match a.target, a.cmd with
  | .gear i, .setValue => s.modGear i fun g => { g with expected := some a.value }
  | .gear i, .shadeGoto => s.modGear i fun g => { g with expected := some a.value }
  | _, _ => s

/-- An arrival at a full queue, for a gear (R126): a level or position defers through the dirty set, a query is dropped. -/
def State.deferred (l : Nat) (a : Entry) (s : State) : State :=
  match a.target, a.cmd.cls with
  | .gear i, .level | .gear i, .position => (s.markValue i).count (.deferrals l)
  | _, _ => s

/-- Whether an arrival is dropped by order 1 to 3 of R126. -/
def State.dropsArrival (l : Nat) (fromDirty : Bool) (a : Entry) (s : State) : Bool :=
  !(s.gearLine l).isUp
    || (match a.target with
        | .group _ => false
        | .gear i => (s.gearAt i).any fun g =>
            (decide (g.state = .silent) && decide (a.cmd.cls ≠ .query))
              || (decide (g.dirty ≠ .clear) && !fromDirty
                  && (decide (a.cmd.cls = .level) || decide (a.cmd.cls = .position))))

/-- An arrival is offered to a line's queue (R126); for a group's full queue see `handGroup`. -/
def State.offer (l : Nat) (fromDirty : Bool) (a : Entry) (s : State) : State :=
  let q := (s.gearLine l).queue
  if s.dropsArrival l fromDirty a then s
  else if q.any (Entry.waits a.target a.cmd.cls) then
    (s.modGearLine l fun x =>
      { x with queue := modifyFirst (Entry.waits a.target a.cmd.cls) a.coalesce x.queue }).noteExpected a
  else if q.length < Config.txQueueCap then
    ((s.modGearLine l fun x => { x with queue := x.queue ++ [a] }).noteExpected a).highCheck l
  else s.deferred l a

/-! ### Service of the dirty set and congestion (R128, R130, R132) -/

/-- The value entry that a gear's service offers: a DRIVER's value for its zone's level at this moment, a SHADE's target
position when its group has one (R128). -/
def State.valueArrival (i : Nat) (g : Gear) (s : State) : Option Entry :=
  match g.cfg.role with
  | .driver z => some (.arrival (.gear i) .setValue (s.ownValue z g) none .zone)
  | .shade seg => (s.segment seg).target.map fun p => .arrival (.gear i) .shadeGoto p none .shade

/-- The service of one dirty gear: its setup entry when it is SETUP, then its value entry; its dirty field is cleared (R128). -/
def State.serveGear (i : Nat) (s : State) : State :=
  match s.gearAt i with
  | none => s
  | some g =>
    let l := g.cfg.line
    let s := if g.dirty = .setup then
        s.offer l true (.arrival (.gear i) .setLossLevel g.cfg.lossLevel (s.setupGroup g) .setup) else s
    let s := match s.valueArrival i g with
      | some a => s.offer l true a
      | none => s
    s.modGear i fun g => { g with dirty := .clear }

/-- The dirty gear of a line, in ascending index (R128). -/
def State.dirtySet (s : State) (l : Nat) : List Nat :=
  s.gearWhere fun g => decide (g.cfg.line = l) && decide (g.dirty ≠ .clear)

/-- The trim-pending gear of a line, in ascending index (R117). -/
def State.trimSet (s : State) (l : Nat) : List Nat :=
  s.gearWhere fun g => decide (g.cfg.line = l) && g.trimPending

/-- The service of a line's dirty set, lowest index first, while the depth is below the high watermark (R128). -/
def State.serveDirty (l : Nat) (s : State) : State :=
  forEach (s.dirtySet l) (fun i s =>
    if (s.gearLine l).queue.length < (s.gearLine l).highWatermark then s.serveGear i else s) s

/-- A gear whose own value may differ from the group value it received (R132): its curve's points, as they stand, are not those of
its zone's default_curve (R19), or its trim is not 256, or its min_value is above 1. That a gear which is a SHADE by then has no zone to
be tested against, and is not marked whatever its trim and min_value, is a DESIGN CHOICE, unsafe (log 69). -/
def State.needsRestoring (g : Gear) (s : State) : Bool :=
  match g.cfg.role with
  | .shade _ => false
  | .driver z => (s.zone z).any fun x =>
      decide (s.curve g.cfg.curve ≠ s.curve x.cfg.defaultCurve) || decide (g.cfg.trim ≠ 256) || decide (1 < g.cfg.minValue)

/-- One gear of the trim-pending set when its line leaves CONGESTED (R132). -/
def State.restoreGear (i : Nat) (s : State) : State :=
  let s := if (s.gearAt i).any fun g => s.needsRestoring g then s.markValue i else s
  s.modGear i fun g => { g with trimPending := false }

/-- A CONGESTED line whose depth is at or below its low watermark leaves CONGESTED, and its trim-pending gear are
restored (R130, R132). -/
def State.lowCheck (l : Nat) (s : State) : State :=
  let x := s.gearLine l
  if x.congested && decide (x.queue.length ≤ x.lowWatermark) then
    forEach (s.trimSet l) State.restoreGear (s.modGearLine l fun x => { x with congested := false })
  else s

/-- What follows each entry that leaves, each growth of the dirty set and each change of watermarks on a line: the low
watermark's test, then the dirty set's service (R125, R128, R130). -/
def State.tendLine (l : Nat) (s : State) : State := (s.lowCheck l).serveDirty l

/-- `State.tendLine` of each line in turn. -/
def State.tendLines (s : State) : State := forEach (List.range Config.nGearLines) State.tendLine s

/-! ### A zone's new level (R129, R131) -/

/-- A setup entry of the gear is queued or in flight. -/
def GearLine.hasSetup (x : GearLine) (i : Nat) : Bool := x.queue.any (Entry.sameSlot (.gear i) .setup)

/-- A driver that is ready for group frames (R131). -/
def State.groupReady (l i : Nat) (s : State) : Bool :=
  (s.gearAt i).any fun g => decide (g.state ≠ .silent) && decide (g.dirty ≠ .setup) && !(s.gearLine l).hasSetup i

/-- The group step of a congested line for the ready drivers of a zone that holds group `g` there (R131). -/
def State.handGroup (l g value : Nat) (ready : List Nat) (s : State) : State :=
  let s := s.dropEntries l fun e =>
    !e.inFlight && decide (e.cmd = .setValue) && ready.any fun i => decide (e.target = .gear i)
  let s := forEach ready (fun i s => s.modGear i fun x =>
    { x with dirty := .clear, trimPending := true, expected := some value }) s
  let q := (s.gearLine l).queue
  if q.any (Entry.waits (.group g) .level) || decide (q.length < Config.txQueueCap) then
    s.offer l false (.arrival (.group g) .setValue value none .zone)
  else
    (forEach ready (fun i s => (s.modGear i fun x => { x with trimPending := false }).markValue i) s).count (.deferrals l)

/-- One driver is offered its own value (R129). -/
def State.handGear (l z i : Nat) (s : State) : State :=
  match s.gearAt i with
  | none => s
  | some g => s.offer l false (.arrival (.gear i) .setValue (s.ownValue z g) none .zone)

/-- A zone's level on one gear line (R129): by group where the line is CONGESTED and the zone holds a group there, and
individually otherwise, after the group's step and in ascending gear index (log 49). -/
def State.handOnLine (z : Nat) (x : Zone) (l : Nat) (s : State) : State :=
  let drivers := s.gearWhere fun g => g.drives z && decide (g.cfg.line = l)
  let grouped := if (s.gearLine l).congested then x.cfg.groups.on l else none
  let ready := if grouped.isSome then drivers.filter (fun i => s.groupReady l i) else []
  let s1 := match grouped with
    | some g => if ready.isEmpty then s else s.handGroup l g (s.groupValue x) ready
    | none => s
  (forEach (drivers.filter fun i => !ready.contains i) (State.handGear l z) s1).tendLine l

/-- The ZCU hands the GLC the level of a zone (R129). -/
def State.handLevel (z : Nat) (s : State) : State :=
  match s.zone z with
  | none => s
  | some x => forEach (List.range Config.nGearLines) (State.handOnLine z x) s

/-! ### Lost output (R87, R118) -/

/-- The test of R87. -/
def State.outputIsLost (z : Nat) (s : State) : Bool :=
  let drivers := s.gearWhere (Gear.drives z)
  !drivers.isEmpty && drivers.all fun i => (s.gearAt i).all fun g =>
    decide (g.state = .silent) || !(s.gearLine g.cfg.line).isUp

/-- The GLC recomputes a zone's OUTPUT_LOST; a change from clear to set latches OUTPUT_LOST (R87). -/
def State.refreshOutput (z : Nat) (s : State) : State :=
  match s.zone z with
  | none => s
  | some x =>
    let lost := s.outputIsLost z
    (s.modZone z fun x => { x with outputLost := lost }).latchIf (lost && !x.outputLost) .outputLost

/-- The zones with a driver on a line, in ascending index. -/
def State.zonesOnLine (s : State) (l : Nat) : List Nat :=
  indicesWhere s.zones.length fun z => s.gear.any fun g => g.any fun g => g.drives z && decide (g.cfg.line = l)

/-- OUTPUT_LOST of every zone with a driver on a line (R116, R118). -/
def State.refreshLineOutput (l : Nat) (s : State) : State := forEach (s.zonesOnLine l) State.refreshOutput s

/-- The zone that a gear drives. -/
def Gear.zone? (g : Gear) : Option Nat :=
  match g.cfg.role with | .driver z => some z | .shade _ => none

/-- OUTPUT_LOST of the zone of a gear. -/
def State.refreshGearOutput (g : Gear) (s : State) : State :=
  match g.zone? with
  | some z => s.refreshOutput z
  | none => s

/-! ### The states of a line (R112, R115, R116) -/

/-- The forward output GLx_TX of a line (R112, R136): idle low while HELD, the characters of the frame of an attempt of the head
entry while UP (R202), and idle high otherwise. -/
def GearLine.output (x : GearLine) : TxOutput :=
  match x.state with
  | .held => .idleLow
  | .up => if x.queue.head?.any Entry.attempting then .frame (frameLevels x.frameOut) (gearRate x.frameRate) else .idleHigh
  | .off | .starting | .down => .idleHigh

/-- Every defined gear of a line changes by `f`. -/
def State.modLineGear (l : Nat) (f : Gear → Gear) (s : State) : State :=
  { s with gear := s.gear.map (Option.map fun g => if g.cfg.line = l then f g else g) }

/-- A line enters STARTING: its gear become UNKNOWN and the 600 ms settle starts (R115). Its queue is empty, as that of every
line that is not UP (R112, R116). The gear's expected_value, which R115 does not list, is kept: a DESIGN CHOICE, unsafe (log 63). -/
def State.lineStarting (l : Nat) (s : State) : State :=
  (((s.modGearLine l fun x =>
    { x with state := .starting, queue := [], settle := some (s.startTimer 600) }).modLineGear l fun g =>
    { g with state := .unknown, lampFail := false, confirmed := none })).refreshLineOutput l

/-- The GLC's part of a line that leaves UP or STARTING for `dest`, or that goes there from another state: the queue, the
sets and the timers of R116. -/
def State.lineLeaves (l : Nat) (dest : LineState) (s : State) : State :=
  (((s.modGearLine l fun x =>
    { x with state := dest, queue := [], congested := false, settle := none, audit := none }).modLineGear l fun g =>
    { g with dirty := .clear, trimPending := false })).refreshLineOutput l

/-- A line is enabled or released: STARTING when its supply is present, DOWN when not, which latches LINE_DOWN (R113,
R114, R136). -/
def State.lineComesUp (l : Nat) (s : State) : State :=
  if (s.gearLine l).supply then s.lineStarting l
  else ((s.modGearLine l fun x => { x with state := .down, queue := [] }).latch .lineDown).refreshLineOutput l

/-- The audit timer of a line that enters UP (R133). -/
def State.auditTimer (s : State) (interval : Nat) : Option Timer :=
  if interval = 0 then none else some (s.startTimer (interval * 1000))

/-- The end of a line's start-up settle: every gear of the line is marked for setup, the line is UP, and the dirty set is
served (R115). -/
def State.lineUp (l : Nat) (s : State) : State :=
  let s := s.modGearLine l fun x =>
    { x with state := .up, congested := false, settle := none, audit := s.auditTimer x.auditInterval }
  let s := forEach (s.gearWhere fun g => decide (g.cfg.line = l)) State.markSetup s
  (s.refreshLineOutput l).tendLine l

end Sys2Proof.Machine
end

