-- ==== Sys2Proof/Machine/Daylight.lean ====
section
/-! DEFINITION. The Daylight Estimation Unit (03_daylight_estimation.md): estimates and filters, contribution lists, window ratios
and profile bins. -/

namespace Sys2Proof.Machine

/-- A zone with nothing learned (R11, R61). -/
def Learned.empty : Learned :=
  { rho := 0, learnCount := 0, accSum := 0, accCount := 0, bins := List.replicate Config.nBins none }

/-- What a zone has learned changes by `f`. -/
def State.modLearned (z : Nat) (f : Learned → Learned) (s : State) : State :=
  s.modZone z fun x => { x with learned := f x.learned }

/-- ρ and n become 0 (R55). -/
def Learned.forgetRatio (m : Learned) : Learned := { m with rho := 0, learnCount := 0 }

/-- The profile accumulator is cleared (R58, R59). -/
def Learned.clearAcc (m : Learned) : Learned := { m with accSum := 0, accCount := 0 }

/-- Every zone's profile accumulator is cleared (R59). -/
def State.clearAccumulators (s : State) : State :=
  { s with zones := s.zones.map (Option.map fun x => { x with learned := x.learned.clearAcc }) }

/-! ### Contribution lists (R40 to R43) -/

/-- The gain of a zone in a list. -/
def gainIn (l : List Contrib) (z : Nat) : Option Nat := (l.find? fun c => c.zone == z).map Contrib.gain

/-- An entry placed in zone order. -/
def insertContrib (c : Contrib) : List Contrib → List Contrib
  | [] => [c]
  | d :: rest => if c.zone < d.zone then c :: d :: rest else d :: insertContrib c rest

/-- A list without a zone's entry (R13, R41). -/
def removeZone (z : Nat) (l : List Contrib) : List Contrib := l.filter fun c => c.zone != z

/-- A list sorted into ascending zone order (R43). -/
def sortContrib (l : List Contrib) : List Contrib := l.foldl (fun acc c => insertContrib c acc) []

/-- The entry that a full list gives up: the smallest gain, the highest zone among equals (R42). -/
def weakest : List Contrib → Option Contrib
  | [] => none
  | c :: rest =>
    match weakest rest with
    | none => some c
    | some d => if c.gain < d.gain then some c else some d

/-- A measured entry is placed in a list: inserted where there is room, else in place of the weakest entry when it is
strictly greater (R41, R42). The zone has no entry in the list. -/
def placeContrib (c : Contrib) (l : List Contrib) : List Contrib :=
  if l.length < Config.maxContrib then insertContrib c l
  else
    match weakest l with
    | some d => if d.gain < c.gain then insertContrib c (removeZone d.zone l) else l
    | none => insertContrib c l

/-- A sensor's list changes by `f`. -/
def State.modContrib (i : Nat) (f : List Contrib → List Contrib) (s : State) : State :=
  s.modSensor i fun x => { x with contrib := f x.contrib }

/-- Every sensor's list loses a zone's entry (R13, R41). -/
def State.removeFromLists (z : Nat) (s : State) : State :=
  { s with sensors := s.sensors.map (Option.map fun x => { x with contrib := removeZone z x.contrib }) }

/-- A calibration write of a zone: the measured gains by sensor, with the gain floor in force (R41). -/
def State.calibrationWrite (z floor : Nat) (measured : List (Nat × Nat)) (s : State) : State :=
  measured.foldl (fun s m =>
    if floor ≤ m.2 then s.modContrib m.1 (placeContrib ⟨z, min m.2 4095⟩) else s) (s.removeFromLists z)

/-! ### Estimates and the filter (R46 to R50) -/

/-- One zone's electric share (R46). -/
def share (gain level : Nat) : Nat := roundDiv (gain * level) 1000

/-- The sum of the electric shares of a list's entries (R46), or of those of other zones than one (R70). -/
def State.shares (s : State) (l : List Contrib) : Nat := (l.map fun c => share c.gain (s.levelOf c.zone)).sum

/-- The daylight estimate of a reading (R47). -/
def estimate (lux dark shares : Nat) : Nat := min Config.luxMax (lux - dark - shares)

/-- One step of the filter from `f` toward `d` (R50). -/
def filterStep (fall rise f d : Nat) : Nat :=
  if d < f then f - ceilDiv ((f - d) * fall) 16
  else f + ceilDiv ((d - f) * rise) 16

/-- How the SAU hands a reading to the DEU (R32). -/
inductive Hand where
  | prime | step | rePrime
  deriving DecidableEq, Repr

/-- The DEU's treatment of a handed reading of sensor `i`: the estimate and the filter (R46, R47, R49, R50). -/
def State.processReading (i : Nat) (how : Hand) (s : State) : State :=
  match s.sensor i with
  | none => s
  | some x =>
    let d := estimate x.lux x.darkOffset (s.shares x.contrib)
    let f := if how = .step ∧ x.primed then filterStep x.fallCoeff x.riseCoeff x.daylightF d else d
    s.modSensor i fun x => { x with daylight := d, daylightF := f, primed := true }

/-! ### Window ratios (R53, R54) -/

/-- A sixteenth or a quarter of a difference, taken toward zero, and at least 1 while the two differ: the move of ρ toward
its sample (R54) and of a bin toward its mean (R58). -/
def moveToward (d cur goal : Nat) : Nat :=
  if cur < goal then cur + max 1 ((goal - cur) / d)
  else if goal < cur then cur - max 1 ((cur - goal) / d)
  else cur

/-- One learning step with Day and W_f (R54). -/
def Learned.learnRatio (day wf : Nat) (m : Learned) : Learned :=
  { m with rho := moveToward 16 m.rho (min 1023 (day * 1024 / wf)), learnCount := min 64 (m.learnCount + 1) }

/-- The window sensor of a segment, when it names a defined one (R14). -/
def State.windowOf (s : State) (seg : Nat) : Option Sensor := (s.segment seg).cfg.windowSensor.bind s.sensor

/-- The control sensor of a zone, when it has one. -/
def State.controlOf (s : State) (x : Zone) : Option Sensor := x.cfg.controlSensor.bind s.sensor

/-- The window-ratio step of a TRACKING evaluation with Day, when R53's conditions hold. -/
def State.learnRatio (z : Nat) (day : Nat) (s : State) : State :=
  match s.zone z with
  | none => s
  | some x =>
    match s.windowOf x.cfg.segment with
    | none => s
    | some w =>
      if ((s.controlOf x).any fun c => decide (c.health = .ok)) && decide (w.health = .ok)
          && decide (200 ≤ w.daylightF) && !s.sweeping then
        s.modLearned z (Learned.learnRatio day w.daylightF)
      else s

/-! ### The profile table (R57, R58) -/

/-- The accumulator takes one Day (R57). -/
def Learned.accumulate (day : Nat) (m : Learned) : Learned :=
  { m with accSum := satAdd m.accSum day, accCount := satAdd m.accCount 1 }

/-- The accumulation of a TRACKING evaluation with Day, when R57's conditions hold. -/
def State.accumulate (z : Nat) (day : Nat) (s : State) : State :=
  match s.zone z with
  | none => s
  | some x =>
    if ((s.controlOf x).any fun c => decide (c.health = .ok)) && s.clock.valid && !s.sweeping then
      s.modLearned z (Learned.accumulate day)
    else s

/-- A bin's new value from its accumulator at a boundary (R58). -/
def binUpdate (sum count : Nat) (bin : Option Nat) : Option Nat :=
  if count < 10 then bin else some (bin.elim (sum / count) fun b => moveToward 4 b (sum / count))

/-- A zone's part of a half-hour boundary that ends bin `b` (R58). -/
def Learned.boundary (sweeping : Bool) (b : Nat) (m : Learned) : Learned :=
  { (if sweeping then m else { m with bins := m.bins.modify b (binUpdate m.accSum m.accCount) }) with
    accSum := 0, accCount := 0 }

/-- The half-hour boundary event that ends bin `b` (R58). -/
def State.boundary (b : Nat) (s : State) : State :=
  { s with zones := s.zones.map (Option.map fun x => { x with learned := x.learned.boundary s.sweeping b }) }

/-! ### Requests -/

/-- No sweep and no save is in progress (R4, order 1). -/
def State.quiet (s : State) : Bool := !s.saving && !s.sweeping

/-- The zones of a list's entries, each once. -/
def distinct (l : List Nat) : Bool := decide l.Nodup

/-- The reply of WRITE_CONTRIB and READ_CONTRIB: the dark offset and the list (R43, R44). -/
def encContribOf (x : Sensor) : List Byte := u16 x.darkOffset ++ encContrib x.contrib

/-- The reply of a sensor's entry, where it is defined. -/
def State.sensorReply (s : State) (i : Nat) (enc : Sensor → List Byte) : List Byte := (s.sensor i).elim [] enc

/-- WRITE_CONTRIB (R43). -/
def serveWriteContrib (r : WriteContrib) (s : State) : Served :=
  checked [(s.quiet, .conflict), (decide (r.index < Config.nSensors), .outOfRange), ((s.sensor r.index).isSome, .noSuch),
      (decide (r.entries.length ≤ Config.maxContrib)
        && r.entries.all (fun e => decide (e.1 < Config.nZones) && between 1 4095 e.2)
        && distinct (r.entries.map Prod.fst) && optBetween 0 255 r.darkOffset, .outOfRange),
      (r.entries.all fun e => (s.zone e.1).isSome, .noSuch)] s
    (let t := s.modSensor r.index fun x =>
        { x with contrib := sortContrib (r.entries.map fun e => ⟨e.1, e.2⟩), darkOffset := r.darkOffset.getD x.darkOffset }
     accepted (t.sensorReply r.index encContribOf) t)

/-- READ_CONTRIB (R44). -/
def serveReadContrib (i : Nat) (s : State) : Served :=
  checked [(decide (i < Config.nSensors), .outOfRange), ((s.sensor i).isSome, .noSuch)] s
    (accepted (s.sensorReply i encContribOf) s)

/-- READ_PROFILE's reply: the bins, ρ, n, whether n is 16 or more, and the accumulator (R60). That no count
precedes the bins is a DESIGN CHOICE, unsafe (log 74). -/
def encLearned (m : Learned) : List Byte :=
  m.bins.flatMap encBin ++ u16 m.rho ++ u8 m.learnCount ++ flag8 (decide (16 ≤ m.learnCount)) ++ u32 m.accSum
    ++ u32 m.accCount

/-- READ_PROFILE (R60). -/
def serveReadProfile (z : Nat) (s : State) : Served :=
  checked [(decide (z < Config.nZones), .outOfRange), ((s.zone z).isSome, .noSuch)] s
    (accepted ((s.zone z).elim [] fun x => encLearned x.learned) s)

/-- WRITE_CONTRIB. -/
def execWriteContrib (tag : Byte) (r : WriteContrib) (s : State) : Answer :=
  .next (reply .direct Kind.writeContrib.code tag (whenRunning (serveWriteContrib r) s))

/-- READ_CONTRIB. -/
def execReadContrib (tag : Byte) (index : Nat) (s : State) : Answer :=
  .next (reply .direct Kind.readContrib.code tag (whenRunning (serveReadContrib index) s))

/-- READ_PROFILE. -/
def execReadProfile (tag : Byte) (zone : Nat) (s : State) : Answer :=
  .next (reply .direct Kind.readProfile.code tag (whenRunning (serveReadProfile zone) s))

end Sys2Proof.Machine
end

