-- ==== Sys2Proof/Machine/Calendar.lean ====
section
/-! DEFINITION. The Calendar and Schedule Unit (08_calendar_schedule_and_occupancy.md): the clock, the profiles and periods, the
setpoint in force, and occupancy. -/

namespace Sys2Proof.Machine

/-! ### The calendar clock (R154 to R159) -/

/-- A leap year of the range 2000 to 2099 (R154). -/
def isLeap (year : Nat) : Bool := year % 4 == 0

/-- The length of a month (R154). -/
def daysInMonth (year month : Nat) : Nat :=
  match month with
  | 2 => if isLeap year then 29 else 28
  | 4 | 6 | 9 | 11 => 30
  | _ => 31

/-- The days from 2000-01-01 to a date (R157). -/
def daysSince2000 (year month day : Nat) : Nat :=
  365 * (year - 2000) + (year - 2000 + 3) / 4
    + ((List.range' 1 (month - 1)).map (daysInMonth year)).sum + (day - 1)

/-- The weekday of a date, counted from 2000-01-01, SAT; MON is 0 (R157). -/
def weekdayOf (year month day : Nat) : Nat := (5 + daysSince2000 year month day) % 7

/-- The minute of day (R154). -/
def Clock.minuteOfDay (c : Clock) : Nat := 60 * c.hour + c.minute

/-- The half-hour bin that covers the clock's minute (R56). -/
def Clock.bin (c : Clock) : Nat := c.minuteOfDay / 30

/-- The crystal cycles of one second, in thousandths (R154). -/
def secondThousandths : Nat := 32768000

/-- The clock's carry out of its last day of a month (R154). -/
def Clock.nextDay (c : Clock) : Clock :=
  let c := { c with hour := 0, weekday := (c.weekday + 1) % 7 }
  if c.day < daysInMonth c.year c.month then { c with day := c.day + 1 }
  else if c.month < 12 then { c with day := 1, month := c.month + 1 }
  else { c with day := 1, month := 1, year := c.year + 1 }

/-- The advance by one second, other than the end of the range (R154). -/
def Clock.advance (c : Clock) : Clock :=
  if c.second < 59 then { c with second := c.second + 1 }
  else
    let c := { c with second := 0 }
    if c.minute < 59 then { c with minute := c.minute + 1 }
    else
      let c := { c with minute := 0 }
      if c.hour < 23 then { c with hour := c.hour + 1 } else c.nextDay

/-- The last second of the range (R154). -/
def Clock.atEnd (c : Clock) : Bool :=
  decide (c.year = 2099 ∧ c.month = 12 ∧ c.day = 31 ∧ c.hour = 23 ∧ c.minute = 59 ∧ c.second = 59)

/-- The clock becomes invalid: a change from yes clears every accumulator (R155). -/
def State.invalidateClock (s : State) : State :=
  if s.clock.valid then (s.modClock fun c => { c with valid := false }).clearAccumulators else s

/-- The half-hour boundary that the clock stands on, when it is valid and at second 0 of minute 0 or 30 (R159). -/
def State.raiseBoundary (s : State) : State :=
  let c := s.clock
  if c.valid && decide (c.second = 0) && decide (c.minute = 0 ∨ c.minute = 30) then s.boundary ((c.bin + 47) % 48) else s

/-- The clock advances by one second (R154, R159). -/
def State.advanceClock (s : State) : State :=
  let s := s.modClock fun c => { c with subsec := c.subsec - secondThousandths }
  if s.clock.atEnd then
    ((s.modClock fun c => { c with year := 2000, month := 1, day := 1, hour := 0, minute := 0, second := 0, weekday := 5
      }).invalidateClock).latch .clockInvalid
  else (s.modClock Clock.advance).raiseBoundary

/-- CLOCK_SECOND_ADVANCE: the sub-second count completes a second; a stopped crystal completes none (R154, R156). -/
def execClockSecondAdvance (s : State) : Answer := .next (if s.clock.stopped then s else s.advanceClock)

/-- OSCILLATOR_STOP: the clock holds, becomes invalid, and CLOCK_INVALID is latched, once for each stop (R156). -/
def execOscillatorStop (s : State) : Answer :=
  .next (if s.clock.stopped then s
    else ((s.modClock fun c => { c with stopped := true }).invalidateClock).latch .clockInvalid)

/-- OSCILLATOR_RESUME: the clock counts on from the fields it held, and stays invalid (R156). -/
def execOscillatorResume (s : State) : Answer := .next (s.modClock fun c => { c with stopped := false })

/-- The date and time of SET_CLOCK lie in the range (R157). -/
def setClockInRange (r : SetClock) : Bool :=
  between 2000 2099 r.year && between 1 12 r.month && between 1 (daysInMonth r.year r.month) r.day
    && between 0 23 r.hour && between 0 59 r.minute && between 0 59 r.second

/-- The clock that SET_CLOCK makes (R157). -/
def Clock.setTo (r : SetClock) (c : Clock) : Clock :=
  { c with
    year := r.year, month := r.month, day := r.day, hour := r.hour, minute := r.minute, second := r.second
    weekday := weekdayOf r.year r.month r.day, subsec := 0, valid := true }

/-- SET_CLOCK (R157). -/
def serveSetClock (r : SetClock) (s : State) : Served :=
  checked [(setClockInRange r, .outOfRange)] s
    (let t := (s.modClock (Clock.setTo r)).clearAccumulators
     accepted (encDate t.clock) t)

/-- GET_CLOCK (R158). -/
def serveGetClock (s : State) : Served :=
  let c := s.clock
  accepted (encDate c ++ flag8 c.valid ++ flag8 c.stopped ++ u16 c.minuteOfDay ++ u8 c.bin) s

/-! ### Profiles and periods (R160 to R163) -/

/-- SET_PROFILE_DEFAULTS (R160); CONFLICT is checked first (log 17). -/
def serveSetProfileDefaults (p : Nat) (occupied unoccupied : Option Nat) (s : State) : Served :=
  checked [(!s.saving, .conflict), (decide (p < Config.nProfiles), .outOfRange)] s
    (let t := { s with profiles := s.profiles.modify p fun x =>
        { occupiedSp := clampOr 0 5000 x.occupiedSp occupied, unoccupiedSp := clampOr 0 5000 x.unoccupiedSp unoccupied } }
     acceptedAs (clamps 0 5000 occupied || clamps 0 5000 unoccupied) (encProfile (t.profile p)) t)

/-- The fields of a period lie in their ranges, after the clamps (R161, log 15). -/
def periodInRange (r : DefinePeriod) : Bool :=
  decide (r.profile < Config.nProfiles) && between 1 127 r.days && between 0 1435 r.startMin
    && decide (r.startMin % 5 = 0) && between (r.startMin + 5) 1440 r.endMin && decide (r.endMin % 5 = 0)

/-- The period that DEFINE_PERIOD stores (R161). -/
def requestedPeriod (r : DefinePeriod) : Period :=
  { profile := r.profile, days := BitVec.ofNat 7 r.days, startMin := r.startMin, endMin := r.endMin
    occupiedSp := clamp 0 5000 r.occupiedSp, unoccupiedSp := clamp 0 5000 r.unoccupiedSp }

/-- Two periods of one profile that share a weekday and overlap in time (R161). -/
def Period.overlaps (a b : Period) : Bool :=
  decide (a.profile = b.profile) && decide (a.days &&& b.days ≠ 0) && decide (a.startMin < b.endMin)
    && decide (b.startMin < a.endMin)

/-- No other defined period overlaps one at an index (R161). -/
def State.periodFits (i : Nat) (p : Period) (s : State) : Bool :=
  (List.range s.periods.length).all fun j => j == i || (s.period j).all fun q => !q.overlaps p

/-- DEFINE_PERIOD (R161). -/
def serveDefinePeriod (r : DefinePeriod) (s : State) : Served :=
  checked [(!s.saving, .conflict), (decide (r.index < Config.nPeriods) && periodInRange r, .outOfRange),
      (s.periodFits r.index (requestedPeriod r), .overlap)] s
    (acceptedAs (clamps 0 5000 (some r.occupiedSp) || clamps 0 5000 (some r.unoccupiedSp)) (encPeriod (requestedPeriod r))
      { s with periods := s.periods.set r.index (some (requestedPeriod r)) })

/-- DELETE_PERIOD (R162). -/
def serveDeletePeriod (i : Nat) (s : State) : Served :=
  checked [(!s.saving, .conflict), (decide (i < Config.nPeriods), .outOfRange), ((s.period i).isSome, .noSuch)] s
    (accepted [] { s with periods := s.periods.set i none })

/-- The defined periods of a profile, in ascending index (R162). -/
def State.periodsOf (s : State) (p : Nat) : List (Nat × Period) :=
  (List.range s.periods.length).filterMap fun i =>
    match s.period i with
    | some q => if q.profile = p then some (i, q) else none
    | none => none

/-- READ_SCHEDULE (R162). -/
def serveReadSchedule (p : Nat) (s : State) : Served :=
  checked [(decide (p < Config.nProfiles), .outOfRange)] s
    (accepted (encProfile (s.profile p) ++ listOf (fun q => u8 q.1 ++ encPeriod q.2) (s.periodsOf p)) s)

/-- A period covers a weekday and a minute of day (R161). -/
def Period.covers (weekday minute : Nat) (p : Period) : Bool :=
  p.days.getLsbD weekday && decide (p.startMin ≤ minute) && decide (minute < p.endMin)

/-- The setpoint in force of a zone at this moment (R163). -/
def State.setpointOf (s : State) (x : Zone) : Nat :=
  let occupied := decide (x.occupancy ≠ .vacant)
  let covering := if s.clock.valid then
      (s.periodsOf x.cfg.profile).find? fun q => q.2.covers s.clock.weekday s.clock.minuteOfDay
    else none
  match covering with
  | some q => if occupied then q.2.occupiedSp else q.2.unoccupiedSp
  | none => if occupied then (s.profile x.cfg.profile).occupiedSp else (s.profile x.cfg.profile).unoccupiedSp

/-! ### Occupancy (R164, R165) -/

/-- A zone's occupancy derived afresh, its timer stopped (R165). -/
def State.deriveOccupancy (z : Nat) (s : State) : State :=
  s.modZone z fun x =>
    { x with
      vacancy := none
      occupancy := match x.cfg.occInput with
        | none => .occupied
        | some i => if (s.occInput i).active then .occupied else .vacant }

/-- A zone that names an input takes its debounced level (R165). -/
def Zone.takeOcc (active : Bool) (timer : Timer) (x : Zone) : Zone :=
  if active then { x with occupancy := .occupied, vacancy := none }
  else
    match x.occupancy with
    | .occupied => { x with occupancy := .vacancyPending, vacancy := some timer }
    | .vacancyPending | .vacant => x

/-- The debounced level of an input changes to its raw level (R164). -/
def State.takeOccLevel (i : Nat) (s : State) : State :=
  let o := s.occInput i
  let s := (s.modOcc i fun o => { o with active := o.raw, changed := true, debounce := none }).latch .occChange
  { s with zones := s.zones.map (Option.map fun x =>
      if x.cfg.occInput = some i then x.takeOcc o.raw (s.startTimer (o.delay * 60000)) else x) }

/-- OCC_INPUT_CHANGE: a raw change starts the 50 ms afresh, or ends it when the level returns (R164). -/
def execOccInputChange (i : Fin 8) (level : Bool) (s : State) : Answer :=
  .next (if (s.occInput i).raw = level then s
    else s.modOcc i fun o =>
      { o with raw := level, debounce := if level = o.active then none else some (s.startTimer 50) })

/-- OCC_DEBOUNCE_EXPIRY: the raw level has held for 50 ms (R164). -/
def execOccDebounceExpiry (i : Fin 8) (s : State) : Answer :=
  .next (if (s.occInput i).debounce.isSome then s.takeOccLevel i else s)

/-- VACANCY_TIMER_EXPIRY: a VACANCY_PENDING zone becomes VACANT (R165). -/
def execVacancyTimerExpiry (z : Fin 48) (s : State) : Answer :=
  .next (s.modZone z fun x =>
    if x.vacancy.isSome then { x with occupancy := .vacant, vacancy := none } else x)

/-- SET_OCC_INPUT (R164); CONFLICT is checked first (log 17). -/
def serveSetOccInput (i delay : Nat) (s : State) : Served :=
  checked [(!s.saving, .conflict), (decide (i < Config.nOcc), .outOfRange), (between 1 120 delay, .outOfRange)] s
    (accepted (u16 delay) (s.modOcc i fun o => { o with delay := delay }))

/-- An input in READ_OCCUPANCY's reply (R166): the raw pin level is 1 while high, and the debounced level its enumerated value (R201;
log 60). -/
def encOccInput (o : OccInput) : List Byte := flag8 o.raw ++ u8 (occLevelCode o.active) ++ u16 o.delay ++ flag8 o.changed

/-- A zone in READ_OCCUPANCY's reply; the time remaining of a zone that is not VACANCY_PENDING is free (R166, log 21). -/
def encOccZone (s : State) (z input : Nat) (x : Zone) : List Byte :=
  u8 z ++ u8 input ++ u8 x.occupancy.code
    ++ u16 (match x.vacancy with
        | some t => secondsUp (t.remaining s.tick)
        | none => Config.unstated .vacancyRemaining (48 * s.replyCount + z))

/-- The defined zones of a range that name an input (R166). -/
def State.occZones (s : State) (first count : Nat) : List (Nat × Nat × Zone) :=
  (List.range' first count).filterMap fun z =>
    (s.zone z).bind fun x => x.cfg.occInput.map fun i => (z, i, x)

/-- READ_OCCUPANCY (R166): the eight inputs' records, which no count of entries precedes, and the zones' records as a list with its count
(R201): a DESIGN CHOICE, unsafe (log 74). -/
def serveReadOccupancy (first count : Nat) (s : State) : Served :=
  checked [(between 1 24 count, .outOfRange), (decide (first + count ≤ Config.nZones), .outOfRange)] s
    (accepted ((List.range Config.nOcc).flatMap (fun i => encOccInput (s.occInput i))
      ++ listOf (fun e => encOccZone s e.1 e.2.1 e.2.2) (s.occZones first count)) s)

/-! ### The request commands -/

/-- SET_CLOCK. -/
def execSetClock (tag : Byte) (r : SetClock) (s : State) : Answer :=
  .next (reply .direct Kind.setClock.code tag (whenRunning (serveSetClock r) s))

/-- GET_CLOCK. -/
def execGetClock (tag : Byte) (s : State) : Answer :=
  .next (reply .direct Kind.getClock.code tag (whenRunning serveGetClock s))

/-- SET_PROFILE_DEFAULTS. -/
def execSetProfileDefaults (tag : Byte) (p : Nat) (occupied unoccupied : Option Nat) (s : State) : Answer :=
  .next (reply .direct Kind.setProfileDefaults.code tag (whenRunning (serveSetProfileDefaults p occupied unoccupied) s))

/-- DEFINE_PERIOD. -/
def execDefinePeriod (tag : Byte) (r : DefinePeriod) (s : State) : Answer :=
  .next (reply .direct Kind.definePeriod.code tag (whenRunning (serveDefinePeriod r) s))

/-- DELETE_PERIOD. -/
def execDeletePeriod (tag : Byte) (index : Nat) (s : State) : Answer :=
  .next (reply .direct Kind.deletePeriod.code tag (whenRunning (serveDeletePeriod index) s))

/-- READ_SCHEDULE. -/
def execReadSchedule (tag : Byte) (profile : Nat) (s : State) : Answer :=
  .next (reply .direct Kind.readSchedule.code tag (whenRunning (serveReadSchedule profile) s))

/-- SET_OCC_INPUT. -/
def execSetOccInput (tag : Byte) (input delay : Nat) (s : State) : Answer :=
  .next (reply .direct Kind.setOccInput.code tag (whenRunning (serveSetOccInput input delay) s))

/-- READ_OCCUPANCY. -/
def execReadOccupancy (tag : Byte) (first count : Nat) (s : State) : Answer :=
  .next (reply .direct Kind.readOccupancy.code tag (whenRunning (serveReadOccupancy first count) s))

end Sys2Proof.Machine
end

