-- ==== Sys2Proof/Machine/ZoneControl.lean ====
section
/-! DEFINITION. The Zone Control Unit (04_zone_control.md): resolution, evaluation, overrides, holds, calibration levels, enabling
and disabling. -/

namespace Sys2Proof.Machine

/-! ### Resolution (R63 to R66) -/

/-- The gain of a zone at its control sensor, when it has one: its own gain (R70). -/
def State.ownGain (s : State) (z : Nat) (x : Zone) : Option Nat :=
  (s.controlOf x).bind fun c => gainIn c.contrib z

/-- The zone is in the set of a sweep in progress (R63, order 2). -/
def State.inSweep (s : State) (z : Nat) : Bool := s.sweeping && s.sweep.zones.contains z

/-- A hold cause is present (R62). -/
def Zone.held (x : Zone) : Bool := x.holdShade || x.holdCal

/-- The state that the resolution order gives a zone (R63). -/
def State.resolved (s : State) (z : Nat) (x : Zone) : ZoneState :=
  if !x.cfg.enabled then .disabled
  else if s.inSweep z then .calibrating
  else if x.overrideActive then .override
  else if x.held then .hold
  else if ((s.controlOf x).any Sensor.usable) && (s.ownGain z x).isSome then .tracking
  else .fallback

/-- The reason of a zone that resolves to FALLBACK (R66). -/
def State.fallbackReasonOf (s : State) (z : Nat) (x : Zone) : FallbackReason :=
  if x.cfg.controlSensor.isNone then .noSensor
  else if (s.ownGain z x).isNone then .noGain
  else .sensorFailed

/-- The effects on a zone's fields of its entry into a state (R65, R86). -/
def Zone.entered (n : ZoneState) (x : Zone) : Zone :=
  match n with
  | .tracking => { x with state := .tracking, lastEval := none, fallbackSource := .none }
  | .fallback => { x with state := .fallback, lastEval := none }
  | .hold => { x with state := .hold, belowMinSince := none, fallbackSource := .none }
  | .override =>
    { x with state := .override, level := x.overrideLevel, target := x.overrideLevel, belowMinSince := none,
             daylitOff := false, underlit := false, fallbackSource := .none }
  | .calibrating =>
    { x with state := .calibrating, belowMinSince := none, daylitOff := false, underlit := false, fallbackSource := .none }
  | .disabled =>
    { x with state := .disabled, level := 0, target := 0, belowMinSince := none, lastEval := none, daylitOff := false,
             underlit := false, fallbackSource := .none }

/-- An entry into FALLBACK that latches ZONE_FALLBACK (R65). -/
def latchesFallback (old new : ZoneState) : Bool :=
  decide (new = .fallback) && (decide (old = .tracking) || decide (old = .hold) || decide (old = .override)
    || decide (old = .calibrating))

/-- A resolution without the handing of a level: the reason, the entry effects, the override mark and the latch (R63 to
R66, R172). -/
def State.resolveHeld (z : Nat) (s : State) : State :=
  match s.zone z with
  | none => s
  | some x =>
    let n := s.resolved z x
    let s := if n = .fallback then
        s.modZone z fun y => { y with fallbackReason := s.fallbackReasonOf z x } else s
    if n = x.state then s
    else
      let s := if x.state = .override then s.accrueOverride z none else s
      let s := s.modZone z (Zone.entered n)
      let s := if n = .override then s.markOverride z else s
      s.latchIf (latchesFallback x.state n) .zoneFallback

/-- The level is handed to the GLC when it differs from an earlier one (R65, R79). -/
def State.handIfChanged (z old : Nat) (s : State) : State := if s.levelOf z = old then s else s.handLevel z

/-- The ZCU resolves a zone (R63, R64); the level of an entry into OVERRIDE goes to the GLC if it changed (R65). -/
def State.resolve (z : Nat) (s : State) : State := (s.resolveHeld z).handIfChanged z (s.levelOf z)

/-! ### Evaluation (R67 to R81) -/

/-- What an evaluation supplies light for: the need with the own gain, or nothing for a FIXED evaluation (R70, R81). -/
structure Demand where
  need : Int
  gain : Nat
  deriving DecidableEq, Repr

/-- The raw target before its limit: ceiling(Need × 1000 / G), 0 for no positive need (R71). -/
def Demand.raw (d : Demand) : Nat := if 0 < d.need then ceilDiv (d.need.toNat * 1000) d.gain else 0

/-- The target of a positive setpoint from a demand: R71 with R73, R74 or R75. -/
def Zone.aimDemand (now : Tick) (d : Demand) (x : Zone) : Zone :=
  let t0 := min 1000 d.raw
  let under := decide (1000 < d.raw)
  if x.cfg.offDelay = 0 then
    { x with target := max x.cfg.lmin t0, belowMinSince := none, daylitOff := false, underlit := under }
  else if x.daylitOff then
    if (x.cfg.onMargin : Int) < d.need then
      { x with target := max x.cfg.lmin t0, daylitOff := false, underlit := under }
    else { x with target := 0, underlit := false }
  else if x.cfg.lmin ≤ t0 then { x with target := t0, belowMinSince := none, underlit := under }
  else
    match x.belowMinSince with
    | none => { x with target := x.cfg.lmin, belowMinSince := some now, underlit := under }
    | some since =>
      if x.cfg.offDelay * 60000 ≤ now.since since then
        { x with target := 0, belowMinSince := none, daylitOff := true, underlit := false }
      else { x with target := x.cfg.lmin, underlit := under }

/-- The target of an evaluation with setpoint `sp` (R71 to R75, R81). -/
def Zone.aim (now : Tick) (sp : Nat) (d : Option Demand) (x : Zone) : Zone :=
  if sp = 0 then { x with target := 0, belowMinSince := none, underlit := false }
  else
    match d with
    | some d => x.aimDemand now d
    | none => { x with target := x.cfg.fallbackLevel, belowMinSince := none, daylitOff := false, underlit := false }

/-- The time elapsed that an evaluation uses (R77). -/
def State.evalDt (s : State) (line : Nat) (x : Zone) : Nat :=
  match x.lastEval with
  | some t => min 5000 (s.tick.since t)
  | none => (s.sensorLine line).pollInterval

/-- The allowance of a rate code over a time; code 15 reaches every target at once (R77). -/
def allowance (code dt : Nat) : Nat :=
  match rateOf code with
  | some r => max 1 (r * dt / 1000)
  | none => 1000

/-- The new level from a level, a target and the allowances up and down (R76, R78). -/
def slew (lmin deadband up down level target : Nat) : Nat :=
  if target ≠ 0 ∧ level ≠ 0 ∧ target ≤ level + deadband ∧ level ≤ target + deadband then level
  else if target = 0 then if lmin + down ≤ level then level - down else 0
  else if level = 0 then max lmin (min target up)
  else if level < target then min target (level + up)
  else max target (level - down)

/-- The new level of an evaluation whose target stands in the record (R76 to R78). -/
def Zone.newLevel (dt : Nat) (x : Zone) : Nat :=
  slew x.cfg.lmin x.cfg.deadband (allowance x.cfg.upRate dt) (allowance x.cfg.downRate dt) x.level x.target

/-- Cross: the shares of the other zones of the control sensor's list (R70). -/
def State.cross (s : State) (z : Nat) (c : Sensor) : Nat := s.shares (removeZone z c.contrib)

/-- The need and gain for a Day at the control sensor's list (R70, R81). -/
def State.demandFor (s : State) (z : Nat) (x : Zone) (sp day : Nat) : Option Demand :=
  match s.controlOf x with
  | none => none
  | some c => (gainIn c.contrib z).map fun g => { need := (sp : Int) - day - s.cross z c, gain := g }

/-- The window ratio's requirements beyond the reason SENSOR_FAILED (R80). -/
def State.windowDay (s : State) (x : Zone) : Option Nat :=
  match s.windowOf x.cfg.segment with
  | some w => if w.usable && decide (16 ≤ x.learned.learnCount) then some (w.daylightF * x.learned.rho / 1024) else none
  | none => none

/-- The profile source's requirements beyond the reason SENSOR_FAILED (R80). -/
def State.profileDay (s : State) (x : Zone) : Option Nat :=
  if s.clock.valid then (x.learned.bins.getD s.clock.bin none) else none

/-- The fallback source and its Day (R80). -/
def State.fallbackDay (s : State) (x : Zone) : FallbackSource × Option Nat :=
  if x.fallbackReason = .sensorFailed then
    match s.windowDay x with
    | some d => (.windowRatio, some d)
    | none =>
      match s.profileDay x with
      | some d => (.profile, some d)
      | none => (.fixed, none)
  else (.fixed, none)

/-- The source and the Day of an evaluation: the control sensor's filtered daylight in TRACKING (R70), R80 in FALLBACK. -/
def State.dayOf (s : State) (x : Zone) : FallbackSource × Option Nat :=
  if x.state = .tracking then (.none, (s.controlOf x).map Sensor.daylightF) else s.fallbackDay x

/-- One evaluation of a zone in TRACKING or FALLBACK on its evaluation line (R68, R79), with the DEU's learning (R53, R57)
and the CTU's record. -/
def State.evaluate (line z : Nat) (s : State) : State :=
  match s.zone z with
  | none => s
  | some x =>
    let sp := s.setpointOf x
    let src := s.dayOf x
    let demand := src.2.bind fun day => s.demandFor z x sp day
    let dt := s.evalDt line x
    let y := { (x.aim s.tick sp demand) with
      setpoint := sp, fallbackSource := src.1, lastEval := some s.tick }
    let made : EvalRecord :=
      { oldLevel := x.level, dt := dt, setpoint := sp, gain := s.ownGain z x, day := src.2 }
    let s := s.modZone z fun _ => { y with level := y.newLevel dt }
    let s := s.handIfChanged z x.level
    let s := match x.state, src.2 with
      | .tracking, some day => (s.learnRatio z day).accumulate z day
      | _, _ => s
    s.recordEval z made

/-- The zones whose evaluation line is `line`: the line of the control sensor, or SL0 without one (R11, R67). -/
def State.evalLine (s : State) (x : Zone) : Nat := (s.controlOf x).elim 0 Sensor.line

/-- One zone at its line's completion: the resolution, then the evaluation (R67). -/
def State.evalEvent (line z : Nat) (s : State) : State :=
  let s := s.resolve z
  match (s.zone z).map Zone.state with
  | some .tracking => s.evaluate line z
  | some .fallback => s.evaluate line z
  | _ => s

/-- The ZCU's part of a completion: its enabled zones of the line in ascending index (R67). -/
def State.evaluateLine (line : Nat) (s : State) : State :=
  forEach (s.zonesWhere fun x => x.cfg.enabled && decide (s.evalLine x = line)) (State.evalEvent line) s

/-- The CTU's part of a completion: the override time of the line's zones in OVERRIDE (R172). -/
def State.accrueLine (line : Nat) (s : State) : State :=
  forEach (s.zonesWhere fun x => decide (x.state = .override) && decide (s.evalLine x = line))
    (fun z s => s.accrueOverride z (some s.tick)) s

/-! ### Holds, levels and enabling (R84 to R86) -/

/-- The SCU adds or removes SHADE; a change resolves the zone (R84). -/
def State.setShadeHold (z : Nat) (h : Bool) (s : State) : State :=
  match s.zone z with
  | none => s
  | some x => if x.holdShade = h then s else (s.modZone z fun x => { x with holdShade := h }).resolve z

/-- The CSE adds or removes CAL; a change resolves the zone (R84). -/
def State.setCalHold (z : Nat) (h : Bool) (s : State) : State :=
  match s.zone z with
  | none => s
  | some x => if x.holdCal = h then s else (s.modZone z fun x => { x with holdCal := h }).resolve z

/-- The CSE asks for a level; a zone that is not CALIBRATING ignores it (R85). -/
def State.askLevel (z level : Nat) (s : State) : State :=
  match s.zone z with
  | none => s
  | some x =>
    if x.state = .calibrating then
      (s.modZone z fun x => { x with level := level, target := level }).handIfChanged z x.level
    else s

/-- The resolution of a zone that has been enabled or disabled, and the level that is then handed to the GLC (R86). -/
def State.resolveAndHand (z : Nat) (s : State) : State := (s.resolveHeld z).handLevel z

/-- The zones that name a sensor as control sensor are resolved (R7, R34). -/
def State.resolveZonesOf (i : Nat) (s : State) : State :=
  forEach (s.zonesWhere fun x => decide (x.cfg.controlSensor = some i)) State.resolve s

/-! ### Overrides (R82, R83) -/

/-- A level below the minimum is stored as the minimum; 0 stays 0 (R12, R82). -/
def liftLevel (lmin level : Nat) : Nat := if level = 0 then 0 else max lmin level

/-- A zone already in OVERRIDE takes the new level in the same way as on entry (R82). -/
def State.applyOverride (z : Nat) (s : State) : State :=
  match s.zone z with
  | none => s
  | some x => if x.state = .override then
      (s.modZone z fun x => { x with level := x.overrideLevel, target := x.overrideLevel }).handIfChanged z x.level
    else s.resolve z

/-- The override that OVERRIDE_ZONE records in a zone (R82). -/
def Zone.takeOverride (now : Tick) (level duration : Nat) (x : Zone) : Zone :=
  { x with
    overrideActive := true
    overrideLevel := liftLevel x.cfg.lmin level
    overrideExpiry := if duration = 0 then none else some (now.plus (duration * 60000)) }

/-- The level that OVERRIDE_ZONE stores for a zone (R82). -/
def State.storedOverride (s : State) (z level : Nat) : Nat := (s.zone z).elim level fun x => liftLevel x.cfg.lmin level

/-- OVERRIDE_ZONE (R82). -/
def serveOverrideZone (z level duration : Nat) (s : State) : Served :=
  checked [(!s.sweeping, .conflict), (decide (z < Config.nZones), .outOfRange), ((s.zone z).isSome, .noSuch),
      (decide (level ≤ 1000) && decide (duration ≤ 1440), .outOfRange)] s
    (acceptedAs (decide (s.storedOverride z level ≠ level)) (u16 (s.storedOverride z level) ++ u16 duration)
      ((s.modZone z (Zone.takeOverride s.tick level duration)).applyOverride z))

/-- An override ends at a release or an expiry, and the zone is resolved (R83). -/
def State.endOverride (z : Nat) (s : State) : State :=
  (s.modZone z fun x => { x with overrideActive := false, overrideExpiry := none }).resolve z

/-- RELEASE_ZONE (R83). -/
def serveReleaseZone (z : Nat) (s : State) : Served :=
  checked [(decide (z < Config.nZones), .outOfRange), ((s.zone z).isSome, .noSuch)] s
    (let active := (s.zone z).any Zone.overrideActive
     accepted (flag8 active) (if active then s.endOverride z else s))

/-- OVERRIDE_EXPIRY: an override with an expiry ends (R83). -/
def execOverrideExpiry (z : Fin 48) (s : State) : Answer :=
  .next (if (s.zone z).any fun x => x.overrideActive && x.overrideExpiry.isSome then s.endOverride z else s)

/-! ### Reading (R88) -/

/-- The hold causes as the one byte of a set: SHADE bit 0, CAL bit 1, in the order of R62; R201 gives this set no encoding of its own,
DEDUCED, unsafe (log 65). -/
def Zone.causes (x : Zone) : Nat := (if x.holdShade then 1 else 0) + (if x.holdCal then 2 else 0)

/-- The elapsed time of a running below-min period in whole seconds, rounded down; free where none runs (R88, log 21). -/
def State.belowMinElapsed (s : State) (x : Zone) : Nat :=
  match x.belowMinSince with
  | some t => s.tick.since t / 1000
  | none => Config.unstated .belowMinElapsed s.replyCount

/-- READ_ZONE's reply: the fields of R62, then those that R88 adds (log 35). -/
def encZone (s : State) (x : Zone) : List Byte :=
  u8 x.state.code ++ u8 x.causes ++ u16 x.level ++ u16 x.target ++ u16 x.setpoint ++ u8 x.occupancy.code
    ++ u8 x.fallbackSource.code ++ u8 x.fallbackReason.code ++ flag8 x.underlit ++ flag8 x.daylitOff
    ++ flag8 x.outputLost ++ optTick x.belowMinSince ++ u16 x.overrideLevel ++ optTick x.overrideExpiry
    ++ flag8 x.overrideActive ++ optTick x.lastEval
    ++ u8 x.causes ++ u16 x.overrideLevel ++ remaining32 s.tick x.overrideExpiry ++ u16 (s.belowMinElapsed x)
    ++ u8 (s.evalLine x)

/-- READ_ZONE (R88). -/
def serveReadZone (z : Nat) (s : State) : Served :=
  checked [(decide (z < Config.nZones), .outOfRange), ((s.zone z).isSome, .noSuch)] s
    (accepted ((s.zone z).elim [] (encZone s)) s)

/-! ### The request commands -/

/-- OVERRIDE_ZONE. -/
def execOverrideZone (tag : Byte) (zone level duration : Nat) (s : State) : Answer :=
  .next (reply .direct Kind.overrideZone.code tag (whenRunning (serveOverrideZone zone level duration) s))

/-- RELEASE_ZONE. -/
def execReleaseZone (tag : Byte) (zone : Nat) (s : State) : Answer :=
  .next (reply .direct Kind.releaseZone.code tag (whenRunning (serveReleaseZone zone) s))

/-- READ_ZONE. -/
def execReadZone (tag : Byte) (zone : Nat) (s : State) : Answer :=
  .next (reply .direct Kind.readZone.code tag (whenRunning (serveReadZone zone) s))

end Sys2Proof.Machine
end

