-- ==== Sys2Proof/Machine/Shade.lean ====
section
/-! DEFINITION. The Shade Control Unit (07_shades_and_glare.md): travel, stalls and faults, the glare logic, manual control. -/

namespace Sys2Proof.Machine

/-! ### The gear of a group (R137) -/

/-- The gear of a group, in ascending index. -/
def State.groupGear (s : State) (seg : Nat) : List Nat := s.gearWhere (Gear.inGroup seg)

/-- The active gear of a group: those that are not shade_faulted (R137). -/
def State.activeGear (s : State) (seg : Nat) : List Nat := s.gearWhere fun g => g.inGroup seg && !g.shadeFaulted

/-- A position lies within 1 of a target (R137). -/
def nearTarget (target position : Option Nat) : Bool :=
  match target, position with
  | some t, some p => decide (p ≤ t + 1) && decide (t ≤ p + 1)
  | _, _ => false

/-- A gear of a group has arrived (R137); one that joined the group while it was MOVING has not until it reports a position
(R17, R145). -/
def State.hasArrived (s : State) (seg i : Nat) : Bool :=
  (s.gearAt i).any fun g => !g.unreported && nearTarget (s.segment seg).target g.position

/-- The state of a group. -/
def State.shadeState (s : State) (seg : Nat) : ShadeState := (s.segment seg).state

/-- A group is MOVING. -/
def State.moving (s : State) (seg : Nat) : Bool := decide (s.shadeState seg = .moving)

/-- A shade command is offered to a gear, origin SHADE (R126, R139). -/
def State.offerShade (cmd : GearCmd) (value i : Nat) (s : State) : State :=
  match s.gearAt i with
  | none => s
  | some g => s.offer g.cfg.line false (.arrival (.gear i) cmd value none .shade)

/-- SHADE_GOTO with the group's target is offered to a gear; without a target there is nothing to offer. -/
def State.offerGoto (seg i : Nat) (s : State) : State :=
  match (s.segment seg).target with
  | some t => s.offerShade .shadeGoto t i
  | none => s

/-- The SHADE hold cause of every defined zone of a segment (R84). -/
def State.setShadeHolds (seg : Nat) (h : Bool) (s : State) : State :=
  forEach (s.zonesWhere fun x => decide (x.cfg.segment = seg)) (fun z s => s.setShadeHold z h) s

/-! ### Settling and faults (R143, R144) -/

/-- The settle expiry: IDLE, and the zones lose the hold (R144). -/
def State.endSettle (seg : Nat) (s : State) : State :=
  (s.modSegment seg fun g => { g with state := .idle, settle := none }).setShadeHolds seg false

/-- Entry into SETTLING; a settle of 0 expires at once (R144). -/
def State.enterSettling (seg : Nat) (s : State) : State :=
  let s := s.modSegment seg fun g =>
    { g with state := .settling, travel := none, query := none, settle := some (s.startTimer (g.settleInForce * 1000)) }
  if (s.segment seg).settleInForce = 0 then s.endSettle seg else s

/-- The arrival test of a MOVING group (R141). -/
def State.arrivalTest (seg : Nat) (s : State) : State :=
  let active := s.activeGear seg
  if s.moving seg && !active.isEmpty && active.all (s.hasArrived seg) then s.enterSettling seg else s

/-- A group's travel, query and settle timers stop, it takes a state, and its zones lose the hold (R143, R145). -/
def State.endTravel (seg : Nat) (st : ShadeState) (s : State) : State :=
  (s.modSegment seg fun g => { g with state := st, travel := none, query := none, settle := none }).setShadeHolds seg false

/-- The fault test: a group with gear, all of them shade_faulted, enters FAULTED (R143). -/
def State.faultTest (seg : Nat) (s : State) : State :=
  if !(s.groupGear seg).isEmpty && (s.activeGear seg).isEmpty && decide (s.shadeState seg ≠ .faulted) then
    s.endTravel seg .faulted
  else s

/-- The gear become shade_faulted, and SHADE_FAULT is latched for them (R142, R143). -/
def State.faultGear (gear : List Nat) (s : State) : State :=
  (forEach gear (fun i s => s.modGear i fun g => { g with shadeFaulted := true }) s).latchIf (!gear.isEmpty) .shadeFault

/-- Gear of a group become shade_faulted, and the arrival and fault tests are made (R142, R143). -/
def State.faultAndTest (seg : Nat) (gear : List Nat) (s : State) : State :=
  ((s.faultGear gear).arrivalTest seg).faultTest seg

/-! ### Targets and travel (R139, R140) -/

/-- SHADE_GOTO with the target is offered to every active gear (R139, R140), in ascending gear index (log 49). -/
def State.sendTarget (seg : Nat) (s : State) : State := forEach (s.activeGear seg) (State.offerGoto seg) s

/-- A travel starts (R140). -/
def State.startTravel (seg : Nat) (s : State) : State :=
  let s := s.modSegment seg fun g =>
    { g with
      state := .moving
      travelTimeoutInForce := g.cfg.travelTimeout
      settleInForce := g.cfg.settle
      retryLimitInForce := g.cfg.retryLimit
      settle := none
      travel := some (s.startTimer (g.cfg.travelTimeout * 1000))
      query := some (s.startTimer (s.shadeQuery * 1000)) }
  let s := forEach (s.activeGear seg) (fun i s => s.modGear i fun g => { g with unchanged := 0, retriesUsed := 0 }) s
  let s := s.sendTarget seg
  let s := s.setShadeHolds seg true
  (s.count (.moves seg)).arrivalTest seg

/-- An active gear's position differs from the target or is unknown (R139, IDLE). -/
def State.awayFromTarget (seg i : Nat) (s : State) : Bool :=
  (s.gearAt i).any fun g => decide (g.position.isNone ∨ g.position ≠ (s.segment seg).target)

/-- A new target in MOVING (R139). -/
def State.redirect (seg : Nat) (s : State) : State :=
  let s := s.sendTarget seg
  let s := forEach (s.activeGear seg) (fun i s => s.modGear i fun g => { g with unchanged := 0 }) s
  (s.modSegment seg fun g => { g with travel := some (s.startTimer (g.travelTimeoutInForce * 1000)) }).arrivalTest seg

/-- A new target position for a group (R139). -/
def State.setTarget (seg t : Nat) (s : State) : State :=
  let s := s.modSegment seg fun g => { g with target := some t }
  match s.shadeState seg with
  | .idle => if (s.activeGear seg).any fun i => s.awayFromTarget seg i then s.startTravel seg else s
  | .moving => s.redirect seg
  | .settling => if (s.activeGear seg).any fun i => !s.hasArrived seg i then s.startTravel seg else s
  | .faulted => s

/-! ### Answers, stalls and silence (R141 to R143) -/

/-- A gear that has stalled (R142). -/
def State.stall (seg i : Nat) (s : State) : State :=
  let s := s.count (.stalls seg)
  if (s.gearAt i).any fun g => decide (g.retriesUsed < (s.segment seg).retryLimitInForce) then
    (s.offerGoto seg i).modGear i fun g => { g with retriesUsed := g.retriesUsed + 1, unchanged := 0 }
  else s.faultAndTest seg [i]

/-- The count of a SHADE_QUERY answer (R141): the position held before, and the one reported. -/
def State.queryCount (seg i : Nat) (before reported : Option Nat) (s : State) : State :=
  if s.hasArrived seg i then s.modGear i fun g => { g with unchanged := 0 }
  else if before.isSome ∧ before = reported then
    let s := s.modGear i fun g => { g with unchanged := g.unchanged + 1 }
    if (s.gearAt i).any fun g => decide (3 ≤ g.unchanged) then s.stall seg i else s
  else s.modGear i fun g => { g with unchanged := 0 }

/-- The SCU's part of a valid answer of a SHADE gear of a group, with the position held before it (R141). -/
def State.shadeAnswer (seg i : Nat) (cmd : GearCmd) (before : Option Nat) (s : State) : State :=
  match s.gearAt i with
  | none => s
  | some g =>
    if s.moving seg && !g.shadeFaulted then
      let s := match cmd with
        | .shadeGoto => s.modGear i fun g => { g with unchanged := 0 }
        | .shadeQuery => s.queryCount seg i before g.position
        | _ => s
      s.arrivalTest seg
    else s

/-- The SCU's part of a SHADE gear's entry into SILENT (R143). -/
def State.shadeSilent (seg i : Nat) (s : State) : State :=
  if s.moving seg && (s.gearAt i).any fun g => !g.shadeFaulted then s.faultAndTest seg [i] else s

/-- The SCU's part of a line's leaving UP: the unchanged counts of its SHADE gear (R142). -/
def State.shadeLineLeft (l : Nat) (s : State) : State :=
  s.modLineGear l fun g => if g.isShade then { g with unchanged := 0 } else g

/-- The SCU's part of a gear's leaving a group (R145). -/
def State.gearLeftGroup (seg : Nat) (s : State) : State :=
  if (s.groupGear seg).isEmpty then s.endTravel seg .idle else (s.faultTest seg).arrivalTest seg

/-! ### The glare logic (R146 to R148) -/

/-- A group's glare or release timer stops. -/
def Segment.stopGlare (g : Segment) : Segment := { g with glareStart := none }

/-- A group's phase with a timer started now toward `delay` seconds. -/
def Segment.startPhase (p : GlarePhase) (now : Tick) (delay : Nat) (g : Segment) : Segment :=
  { g with phase := p, glareStart := some now, glareLen := delay }

/-- The test of a window reading `w` (R146). -/
def Segment.testGlare (now : Tick) (w : Nat) (g : Segment) : Segment :=
  let c := g.cfg
  match g.phase with
  | .clear =>
    if c.glareThreshold ≤ w then g.startPhase .glarePending now c.glareDelay
    else if g.target = some c.openPosition then g
    else if c.releaseThreshold ≤ w then { g with phase := .glared }
    else g.startPhase .releasePending now c.releaseDelay
  | .glarePending => if c.glareThreshold ≤ w then g else { g.stopGlare with phase := .clear }
  | .glared => if c.releaseThreshold ≤ w then g else g.startPhase .releasePending now c.releaseDelay
  | .releasePending => if c.releaseThreshold ≤ w then { g.stopGlare with phase := .glared } else g

/-- The expiry of a group's glare or release delay (R147). -/
def State.glareExpire (seg : Nat) (s : State) : State :=
  match (s.segment seg).phase with
  | .glarePending =>
    (s.modSegment seg fun g => { g.stopGlare with phase := .glared }).setTarget seg (s.segment seg).cfg.glarePosition
  | .releasePending =>
    (s.modSegment seg fun g => { g.stopGlare with phase := .clear }).setTarget seg (s.segment seg).cfg.openPosition
  | .clear | .glared => s

/-- The delay that a group's phase runs toward, as the segment now stores it (R147). -/
def Segment.delay (g : Segment) : Nat :=
  match g.phase with
  | .releasePending => g.cfg.releaseDelay
  | _ => g.cfg.glareDelay

/-- A changed delay is applied at a reading: the timer expires when its elapsed time reaches the new delay, and otherwise
runs on toward it (R15, R147). -/
def State.applyDelay (seg : Nat) (s : State) : State :=
  let g := s.segment seg
  match g.glareStart with
  | none => s
  | some start =>
    if g.glareLen = g.delay then s
    else
      let s := s.modSegment seg fun g => { g with glareLen := g.delay }
      if g.delay * 1000 ≤ s.tick.since start then s.glareExpire seg else s

/-- A window reading notified for a segment (R146); its value is the window sensor's filtered daylight. -/
def State.windowReading (seg w : Nat) (s : State) : State :=
  if (s.segment seg).manual || s.sweeping then s
  else (s.applyDelay seg).modSegment seg (Segment.testGlare s.tick w)

/-- The segments that name a sensor as their window sensor, in ascending index. -/
def State.segmentsOf (s : State) (i : Nat) : List Nat :=
  indicesWhere s.segments.length fun seg => decide ((s.segment seg).cfg.windowSensor = some i)

/-- The SAU's notice of a new reading of a sensor, to every segment that names it as its window sensor, in
ascending segment index (R32, R146; log 49). -/
def State.noticeWindow (i : Nat) (s : State) : State :=
  match s.sensor i with
  | none => s
  | some x => forEach (s.segmentsOf i) (fun seg s => s.windowReading seg x.daylightF) s

/-- A group's glare phase is recomputed (R148). -/
def State.recomputeGlare (seg : Nat) (s : State) : State :=
  let s := s.modSegment seg fun g => { g.stopGlare with phase := .clear }
  match s.windowOf seg with
  | some w => if w.usable then s.modSegment seg (Segment.testGlare s.tick w.daylightF) else s
  | none => s

/-- The glare logic is suspended: every group's glare and release timers stop (R105). -/
def State.suspendGlare (s : State) : State := { s with segments := s.segments.map Segment.stopGlare }

/-- The glare logic is resumed: every group in AUTO is recomputed (R105, R148). -/
def State.resumeGlare (s : State) : State :=
  forEach (indicesWhere s.segments.length fun seg => !(s.segment seg).manual) State.recomputeGlare s

/-! ### The timers of a group -/

/-- SHADE_QUERY_EXPIRY: SHADE_QUERY is offered to the active gear that have not arrived and whose line is UP, in ascending gear
index (log 49), and the timer restarts (R140). -/
def execShadeQueryExpiry (seg : Fin 16) (s : State) : Answer :=
  .next (if s.moving seg && (s.segment seg).query.isSome then
    let asked := (s.activeGear seg).filter fun i =>
      !s.hasArrived seg i && (s.gearAt i).any fun g => (s.gearLine g.cfg.line).isUp
    (forEach asked (State.offerShade .shadeQuery 0) s).modSegment seg fun g =>
      { g with query := some (s.startTimer (s.shadeQuery * 1000)) }
  else s)

/-- TRAVEL_TIMEOUT: the active gear that have not arrived become shade_faulted (R143). -/
def execTravelTimeout (seg : Fin 16) (s : State) : Answer :=
  .next (if s.moving seg && (s.segment seg).travel.isSome then
    (s.modSegment seg fun g => { g with travel := none, query := none }).faultAndTest seg
      ((s.activeGear seg).filter fun i => !s.hasArrived seg i)
  else s)

/-- SHADE_SETTLE_EXPIRY (R144). -/
def execShadeSettleExpiry (seg : Fin 16) (s : State) : Answer :=
  .next (if (s.segment seg).settle.isSome then s.endSettle seg else s)

/-- GLARE_TIMER_EXPIRY (R147). -/
def execGlareTimerExpiry (seg : Fin 16) (s : State) : Answer :=
  .next (if (s.segment seg).glareStart.isSome && decide ((s.segment seg).phase = .glarePending) then s.glareExpire seg
    else s)

/-- RELEASE_TIMER_EXPIRY (R147). -/
def execReleaseTimerExpiry (seg : Fin 16) (s : State) : Answer :=
  .next (if (s.segment seg).glareStart.isSome && decide ((s.segment seg).phase = .releasePending) then s.glareExpire seg
    else s)

/-- A group returns to AUTO from MANUAL: recomputed at once, or at the glare logic's resumption during a sweep, with its
phase CLEAR and no timer until then (R148, R150). -/
def State.returnToAuto (seg : Nat) (s : State) : State :=
  let s := s.modSegment seg fun g => { g.stopGlare with manual := false, manualExpiry := none, phase := .clear }
  if s.sweeping then s else s.recomputeGlare seg

/-- MANUAL_EXPIRY: a MANUAL period with a duration ends (R150). -/
def execManualExpiry (seg : Fin 16) (s : State) : Answer :=
  .next (if (s.segment seg).manual && (s.segment seg).manualExpiry.isSome then s.returnToAuto seg else s)

/-! ### Requests (R138, R149, R151, R152) -/

/-- The action of SHADE_COMMAND (R149). -/
inductive ShadeAction where
  | goto | stop | auto
  deriving DecidableEq, Repr

/-- The group enters or renews a MANUAL period; any glare or release timer is stopped (R149). -/
def State.takeManual (seg duration : Nat) (s : State) : State :=
  s.modSegment seg fun g =>
    { g.stopGlare with
      manual := true
      manualExpiry := if duration = 0 then none else some (s.tick.plus (duration * 60000)) }

/-- STOP: no target, SHADE_STOP to every active gear, in ascending gear index (log 49), and a MOVING group enters SETTLING
(R149). -/
def State.stopShades (seg : Nat) (s : State) : State :=
  let s := s.modSegment seg fun g => { g with target := none }
  let s := forEach (s.activeGear seg) (State.offerShade .shadeStop 0) s
  if s.moving seg then s.enterSettling seg else s

/-- The effect of an accepted SHADE_COMMAND (R149). -/
def State.shadeAct (seg : Nat) (a : ShadeAction) (position duration : Nat) (s : State) : State :=
  match a with
  | .goto => (s.takeManual seg duration).setTarget seg position
  | .stop => (s.takeManual seg duration).stopShades seg
  | .auto => if (s.segment seg).manual then s.returnToAuto seg else s

/-- The reply of SHADE_COMMAND: mode, state, target_position and glare_phase (R149). -/
def encShadeHead (g : Segment) : List Byte :=
  flag8 g.manual ++ u8 g.state.code ++ opt8 g.target ++ u8 g.phase.code

/-- SHADE_COMMAND; `a` is none for an unknown action (R149, log 18). -/
def serveShadeCommand (seg : Nat) (a : Option ShadeAction) (position duration : Nat) (s : State) : Served :=
  checked [(!s.sweeping, .conflict),
      (decide (seg < Config.nSegments) && a.isSome && decide (position ≤ 100) && decide (duration ≤ 1440), .outOfRange)] s
    (match a with
      | some a =>
        let t := s.shadeAct seg a position duration
        accepted (encShadeHead (t.segment seg)) t
      | none => refused .outOfRange s)

/-- The fields that CLEAR_SHADE_FAULT clears in every gear of a group (R151). -/
def State.clearGroupFaults (seg : Nat) (s : State) : State :=
  forEach (s.groupGear seg)
    (fun i s => s.modGear i fun g => { g with shadeFaulted := false, retriesUsed := 0, unchanged := 0 }) s

/-- A FAULTED group leaves FAULTED, outside a sweep (R151). -/
def State.leaveFaulted (seg : Nat) (s : State) : State :=
  let s := if (s.segment seg).manual then s else s.recomputeGlare seg
  match (s.segment seg).target with
  | some t => s.setTarget seg t
  | none => s

/-- CLEAR_SHADE_FAULT's effect; the gear of a MOVING group are offered the target in ascending index (R151; log 49). -/
def State.clearShadeFault (seg : Nat) (s : State) : State :=
  let faulted := (s.groupGear seg).filter fun i => (s.gearAt i).any Gear.shadeFaulted
  let s := s.clearGroupFaults seg
  match s.shadeState seg with
  | .faulted =>
    let s := s.modSegment seg fun g => { g with state := .idle }
    if s.sweeping then s else s.leaveFaulted seg
  | .moving => forEach faulted (State.offerGoto seg) s
  | .idle | .settling => s

/-- CLEAR_SHADE_FAULT (R151). -/
def serveClearShadeFault (seg : Nat) (s : State) : Served :=
  checked [(decide (seg < Config.nSegments), .outOfRange)] s
    (accepted (flag8 ((s.groupGear seg).any fun i => (s.gearAt i).any Gear.shadeFaulted)) (s.clearShadeFault seg))

/-- SET_SHADE_QUERY (R138); CONFLICT is checked first (log 17). -/
def serveSetShadeQuery (interval : Nat) (s : State) : Served :=
  checked [(!s.saving, .conflict), (between 1 10 interval, .outOfRange)] s
    (accepted (u16 interval) { s with shadeQuery := interval })

/-- A gear of a group in READ_SHADE's reply (R152). -/
def encShadeGear (s : State) (seg i : Nat) : List Byte :=
  match s.gearAt i with
  | none => []
  | some g =>
    u8 i ++ u8 g.cfg.line ++ u8 g.cfg.address ++ u8 g.state.code ++ opt8 g.position ++ flag8 g.atLimit ++ u8 g.unchanged
      ++ u8 g.retriesUsed ++ flag8 g.shadeFaulted ++ flag8 (s.hasArrived seg i)

/-- The elapsed time of a running glare or release delay, rounded down; free where none runs (R152, log 21). -/
def State.glareElapsed (s : State) (g : Segment) : Nat :=
  match g.glareStart with
  | some t => s.tick.since t / 1000
  | none => Config.unstated .glareElapsed s.replyCount

/-- The remaining time of a running travel or settle timer, rounded up; free where none runs (R152, log 21). -/
def State.travelRemaining (s : State) (g : Segment) : Nat :=
  match g.travel.or g.settle with
  | some t => secondsUp (t.remaining s.tick)
  | none => Config.unstated .travelRemaining s.replyCount

/-- READ_SHADE's reply (R152). -/
def encShade (s : State) (seg : Nat) : List Byte :=
  let g := s.segment seg
  encShadeHead g ++ remaining32 s.tick g.manualExpiry ++ u16 (s.glareElapsed g) ++ u16 (s.travelRemaining g)
    ++ u16 g.travelTimeoutInForce ++ u16 g.settleInForce ++ u8 g.retryLimitInForce
    ++ listOf (encShadeGear s seg) (s.groupGear seg) ++ u16 s.shadeQuery

/-- READ_SHADE (R152). -/
def serveReadShade (seg : Nat) (s : State) : Served :=
  checked [(decide (seg < Config.nSegments), .outOfRange)] s (accepted (encShade s seg) s)

/-- SHADE_COMMAND with the action GOTO. -/
def execShadeCommandGoto (tag : Byte) (segment position duration : Nat) (s : State) : Answer :=
  .next (reply .direct Kind.shadeCommand.code tag
    (whenRunning (serveShadeCommand segment (some .goto) position duration) s))

/-- SHADE_COMMAND with the action STOP. -/
def execShadeCommandStop (tag : Byte) (segment position duration : Nat) (s : State) : Answer :=
  .next (reply .direct Kind.shadeCommand.code tag
    (whenRunning (serveShadeCommand segment (some .stop) position duration) s))

/-- SHADE_COMMAND with the action AUTO. -/
def execShadeCommandAuto (tag : Byte) (segment position duration : Nat) (s : State) : Answer :=
  .next (reply .direct Kind.shadeCommand.code tag
    (whenRunning (serveShadeCommand segment (some .auto) position duration) s))

/-- CLEAR_SHADE_FAULT. -/
def execClearShadeFault (tag : Byte) (segment : Nat) (s : State) : Answer :=
  .next (reply .direct Kind.clearShadeFault.code tag (whenRunning (serveClearShadeFault segment) s))

/-- SET_SHADE_QUERY. -/
def execSetShadeQuery (tag : Byte) (interval : Nat) (s : State) : Answer :=
  .next (reply .direct Kind.setShadeQuery.code tag (whenRunning (serveSetShadeQuery interval) s))

/-- READ_SHADE. -/
def execReadShade (tag : Byte) (segment : Nat) (s : State) : Answer :=
  .next (reply .direct Kind.readShade.code tag (whenRunning (serveReadShade segment) s))

end Sys2Proof.Machine
end

