-- ==== Sys2Proof/Machine/Calibration.lean ====
section
/-! DEFINITION. The Calibration Sweep Engine (05_calibration_sweep.md). -/

namespace Sys2Proof.Machine

/-! ### Output settled (R95) -/

/-- One driver's part of the settled test: SILENT, or not dirty with no level entry of its own on its line (R95). -/
def State.gearSettled (s : State) (i : Nat) : Bool :=
  (s.gearAt i).all fun g => decide (g.state = .silent)
    || (decide (g.dirty = .clear) && !(s.gearLine g.cfg.line).queue.any (Entry.sameSlot (.gear i) .level))

/-- No level entry for a line group of the zone is queued or in flight on any line (R95). -/
def State.groupsSettled (s : State) (x : Zone) : Bool :=
  (List.range Config.nGearLines).all fun l =>
    (x.cfg.groups.on l).all fun g => !(s.gearLine l).queue.any (Entry.sameSlot (.group g) .level)

/-- The output of a zone is settled; that of a zone with no defined DRIVER gear always is (R95). -/
def State.zoneSettled (s : State) (z : Nat) : Bool :=
  let drivers := s.gearWhere (Gear.drives z)
  drivers.isEmpty || (drivers.all s.gearSettled && (s.zone z).all s.groupsSettled)

/-- The sweep enters a settle state with its timer (R96). -/
def State.enterSettle (st : SweepState) (s : State) : State :=
  s.modSweep fun w => { w with state := st, settle := some (s.startTimer (w.settleS * 1000)) }

/-- The settled test where the sweep awaits it; when it holds, the settle state follows (R90, R95, R118). -/
def State.settledCheck (s : State) : State :=
  match s.sweep.state with
  | .preparing => if s.sweep.zones.all s.zoneSettled then s.enterSettle .baseSettle else s
  | .stepOn => if s.sweep.current.all s.zoneSettled then s.enterSettle .stepSettle else s
  | .stepOff => if s.sweep.current.all s.zoneSettled then s.enterSettle .restoreSettle else s
  | _ => s

/-! ### The end of a sweep (R104, R107) -/

/-- What the ZCU and the SCU do at the end of a sweep, whose record is IDLE by now (R104, steps 2 and 3). -/
def State.releaseZones (s : State) : State :=
  let s := forEach s.sweep.zones State.resolve s
  (forEach (s.zonesWhere Zone.holdCal) (fun z s => s.setCalHold z false) s).resumeGlare

/-- The sweep record at its end (R90, R104, R107). -/
def Sweep.ended (o : SweepOutcome) (c : AbortCause) (w : Sweep) : Sweep :=
  { w with
    state := .idle, current := none, settle := none, lastOutcome := o, abortCause := c
    measured := w.measured.map fun m => { m with coll := .closed none } }

/-- FINISHING: the end of a sweep that has decided every outcome (R104). -/
def State.finishSweep (s : State) : State :=
  ((s.modSweep (Sweep.ended .finished .absent)).releaseZones).latch .calFinished

/-- The calibration result of the zone in progress at an abort (R107). -/
def CalResult.aborted : CalResult := { CalResult.empty with result := .aborted }

/-- ABORTING: the end of a sweep by HOST or LINE (R107). -/
def State.abortSweep (c : AbortCause) (s : State) : State :=
  let s := match s.sweep.current with
    | some z => s.setCalResult z CalResult.aborted
    | none => s
  ((s.modSweep (Sweep.ended .aborted c)).releaseZones).latch .calFinished

/-- A gear line carries a defined DRIVER gear of a zone of a list (R92, R106). -/
def State.lineServes (s : State) (zones : List Nat) (l : Nat) : Bool :=
  s.gear.any fun g => g.any fun g => decide (g.cfg.line = l) && g.zone?.any zones.contains

/-- The CSE's part of a line's leaving UP (R106). -/
def State.sweepLineLeft (l : Nat) (s : State) : State :=
  if s.sweeping && s.lineServes s.sweep.zones l then s.abortSweep (.line l) else s

/-! ### Measurement (R97, R98) -/

/-- A collection with nothing counted yet (R97). -/
def Collection.fresh : Collection := .opened 0 0 0

/-- Whether a collection has closed. -/
def Collection.isClosed : Collection → Bool
  | .opened .. => false
  | .closed _ => true

/-- The measurement of a collection; one still open has none. -/
def Collection.value : Collection → Option Nat
  | .opened .. => none
  | .closed v => v

/-- A collection takes one completion of its sensor's line, with what the cycle report lists for the sensor (R97). -/
def Collection.take (report : Option Nat) : Collection → Collection
  | .closed v => .closed v
  | .opened cycles good sum =>
    let used := report.filter fun e => decide (e < Config.luxMax)
    let good' := good + (if used.isSome then 1 else 0)
    let sum' := sum + used.getD 0
    if 4 ≤ good' then .closed (some (roundDiv sum' 4))
    else if 8 ≤ cycles + 1 then .closed none
    else .opened (cycles + 1) good' sum'

/-- The sensor of a cycle report. -/
def reported (report : List (Nat × Nat)) (i : Nat) : Option Nat := (report.find? fun r => r.1 == i).map Prod.snd

/-- The dark write: the offsets of the sensors with a valid baseline (R45, R99). -/
def State.darkWrite (s : State) : State :=
  let valid := s.sweep.measured.filterMap fun m => m.base.map fun b => (m.sensor, b)
  (valid.foldl (fun s v => s.modSensor v.1 fun x => { x with darkOffset := min 255 v.2 }) s).modSweep fun w =>
    { w with darkSet := valid.length }

/-- STEP_ON for a zone (R100). -/
def State.stepOn (z : Nat) (s : State) : State :=
  ((s.modSweep fun w => { w with state := .stepOn, current := some z }).askLevel z 1000).settledCheck

/-- STEP_OFF for the current zone (R101). -/
def State.stepOff (s : State) : State :=
  let s := s.modSweep fun w => { w with state := .stepOff }
  (match s.sweep.current with
    | some z => s.askLevel z 0
    | none => s).settledCheck

/-- The end of BASE_READ (R98, R99). -/
def State.endBaseRead (s : State) : State :=
  let s := s.modSweep fun w => { w with measured := w.measured.map fun m => { m with base := m.coll.value } }
  let s := if s.sweep.dark then s.darkWrite else s
  match s.sweep.gains, s.sweep.zones with
  | true, z :: _ => s.stepOn z
  | _, _ => s.finishSweep

/-- The end of STEP_READ (R98). -/
def State.endStepRead (s : State) : State :=
  (s.modSweep fun w => { w with measured := w.measured.map fun m => { m with step := m.coll.value } }).stepOff

/-- The measured gain of a sensor at the end of RESTORE_READ (R102). -/
def Measured.gain (m : Measured) : Option Int :=
  match m.base, m.step, m.coll.value with
  | some b, some on, some b' => some ((on : Int) - roundDiv (b + b') 2)
  | _, _, _ => none

/-- The drift of a sensor, where both baselines are valid (R103). -/
def Measured.drift (m : Measured) : Option Int :=
  match m.base, m.coll.value with
  | some b, some b' => some ((b' : Int) - b)
  | _, _ => none

/-- A zone's outcome by its control sensor's drift and gain (R103); `control` is whether the zone has a control sensor. -/
def outcomeOf (control : Bool) (drift gain : Option Int) (limit floor : Nat) : CalKind :=
  if !control then .ok
  else
    match drift with
    | none => .drift
    | some d =>
      if limit < d.natAbs then .drift
      else
        match gain with
        | none => .weak
        | some k => if k < floor then .weak else .ok

/-- The sensors whose list holds an entry for a zone. -/
def State.listedBy (s : State) (z : Nat) : List Nat := s.sensorsWhere fun x => (gainIn x.contrib z).isSome

/-- The outcome of the current zone, its calibration write and its result (R103). -/
def State.decideZone (z : Nat) (s : State) : State :=
  let w := s.sweep
  let control := (s.zone z).bind fun x => x.cfg.controlSensor
  let at? := control.bind fun c => w.measured.find? fun m => m.sensor == c
  let drift := at?.bind Measured.drift
  let gain := at?.bind Measured.gain
  let kind := outcomeOf control.isSome drift gain w.driftLimit w.gainFloor
  if kind = .drift then
    s.setCalResult z { result := .drift, ownGain := gain, drift := drift, written := 0, discarded := 0 }
  else
    let found := w.measured.filterMap fun m =>
      (m.gain.filter fun k => decide ((w.gainFloor : Int) ≤ k)).map fun k => (m.sensor, k.toNat)
    let s := s.calibrationWrite z w.gainFloor found
    let written := (s.listedBy z).length
    s.setCalResult z
      { result := kind, ownGain := gain, drift := drift, written := written, discarded := found.length - written }

/-- The end of RESTORE_READ: the outcome, the next baselines and the next zone (R102, R103). -/
def State.endRestoreRead (s : State) : State :=
  match s.sweep.current with
  | none => s.finishSweep
  | some z =>
    let s := (s.decideZone z).modSweep fun w =>
      { w with zonesDone := w.zonesDone + 1, measured := w.measured.map fun m => { m with base := m.coll.value } }
    match s.sweep.zones.find? fun y => decide (z < y) with
    | some y => s.stepOn y
    | none => s.finishSweep

/-- A read phase ends when every collection has closed (R98). -/
def State.readCheck (s : State) : State :=
  if s.sweep.measured.all fun m => m.coll.isClosed then
    match s.sweep.state with
    | .baseRead => s.endBaseRead
    | .stepRead => s.endStepRead
    | .restoreRead => s.endRestoreRead
    | _ => s
  else s

/-- A read phase is entered: a collection is opened for every measured sensor (R97). -/
def State.enterRead (st : SweepState) (s : State) : State :=
  (s.modSweep fun w =>
    { w with
      state := st, settle := none
      measured := w.measured.map fun m => { m with coll := Collection.fresh } }).readCheck

/-- The CSE's part of a completion: the open collections of the line's sensors take the cycle report (R97). -/
def State.takeReport (line : Nat) (report : List (Nat × Nat)) (s : State) : State :=
  (s.modSweep fun w =>
    { w with
      measured := w.measured.map fun m =>
        if (s.sensor m.sensor).any fun x => decide (x.line = line) then
          { m with coll := m.coll.take (reported report m.sensor) }
        else m }).readCheck

/-- CAL_SETTLE_EXPIRY (R96). -/
def execCalSettleExpiry (s : State) : Answer :=
  .next (if s.sweep.settle.isSome then
    match s.sweep.state with
    | .baseSettle => s.enterRead .baseRead
    | .stepSettle => s.enterRead .stepRead
    | .restoreSettle => s.enterRead .restoreRead
    | _ => s
  else s)

/-! ### Starting a sweep (R92, R93) -/

/-- The parts set DARK in bit 0, GAINS in bit 1 (R201). -/
def partsOf (dark gains : Bool) : Nat := (if dark then 1 else 0) + (if gains then 2 else 0)

/-- The set of a request, in ascending zone order (R93). -/
def sortedZones (l : List Nat) : List Nat := indicesWhere Config.nZones fun z => l.contains z

/-- START_CALIBRATION's fields lie in their ranges (R92, order 2; log 15). -/
def startInRange (r : StartCalibration) : Bool :=
  between 1 3 r.parts && between 1 48 r.zones.length && r.zones.all (fun z => decide (z < Config.nZones))
    && distinct r.zones && optBetween 5 120 r.settle && optBetween 1 100 r.gainFloor && optBetween 1 100 r.driftLimit

/-- A sweep of these zones may start, by order 3 to 8 of R92. -/
def startChecks (r : StartCalibration) (s : State) : List (Bool × Result) :=
  [(r.zones.all fun z => (s.zone z).isSome, .noSuch),
   (r.zones.all fun z => (s.zone z).any fun x => x.cfg.enabled, .conflict),
   (!Nat.testBit r.parts 0 || (s.zonesWhere fun x => x.cfg.enabled).all r.zones.contains, .conflict),
   ((s.zonesWhere fun x => x.cfg.enabled && decide (x.state = .override)).isEmpty, .conflict),
   (s.segments.all fun g => decide (g.state ≠ .moving) && decide (g.state ≠ .settling), .conflict),
   ((List.range Config.nGearLines).all fun l => (s.gearLine l).isUp || !s.lineServes r.zones l, .conflict)]

/-- The sweep record that an accepted START_CALIBRATION makes (R93). -/
def sweepOf (r : StartCalibration) (s : State) : Sweep :=
  { state := .preparing, dark := Nat.testBit r.parts 0, gains := Nat.testBit r.parts 1, zones := sortedZones r.zones
    current := none, zonesDone := 0, settleS := r.settle.getD 30, gainFloor := r.gainFloor.getD 5
    driftLimit := r.driftLimit.getD 10
    measured := (s.sensorsWhere fun x => x.enabled).map fun i =>
      { sensor := i, base := none, step := none, coll := .closed none }
    startTick := s.tick, lastOutcome := .none, abortCause := .absent, darkSet := 0, settle := none }

/-- An accepted START_CALIBRATION; level 0 is asked for in ascending zone order (R93; log 49). -/
def State.startSweep (r : StartCalibration) (s : State) : State :=
  let s := s.modSweep fun _ => sweepOf r s
  let zones := s.sweep.zones
  let s := forEach zones (fun z s => s.setCalResult z CalResult.empty) s
  let s := forEach zones State.resolve s
  let others := (s.zonesWhere fun x => x.cfg.enabled).filter fun z => !zones.contains z
  let s := forEach others (fun z s => s.setCalHold z true) s
  let s := s.suspendGlare
  (forEach zones (fun z s => s.askLevel z 0) s).settledCheck

/-- The parts, set and parameters of a sweep (R92). -/
def encSweepHead (w : Sweep) : List Byte := u8 (partsOf w.dark w.gains) ++ listOf u8 w.zones

/-- The parameters of a sweep (R92). -/
def encSweepParams (w : Sweep) : List Byte := u16 w.settleS ++ u16 w.gainFloor ++ u16 w.driftLimit

/-- START_CALIBRATION (R92, R93). -/
def serveStartCalibration (r : StartCalibration) (s : State) : Served :=
  checked ((s.quiet, .conflict) :: (startInRange r, .outOfRange) :: startChecks r s) s
    (accepted (encSweepHead (sweepOf r s) ++ encSweepParams (sweepOf r s)) (s.startSweep r))

/-- ABORT_CALIBRATION (R106). -/
def serveAbortCalibration (s : State) : Served :=
  accepted (flag8 s.sweeping) (if s.sweeping then s.abortSweep .host else s)

/-! ### Reading the sweep (R109) -/

/-- A zone's calibration result; an undefined zone's reads NONE (R109). -/
def State.resultOf (s : State) (z : Nat) : CalResult := if (s.zone z).isSome then s.calResult z else CalResult.empty

/-- The abort cause and its line: absent 0xFF, HOST 0, LINE 1; the line 0xFF where there is none (log 33). -/
def AbortCause.bytes : AbortCause → List Byte
  | .absent => u8 0xFF ++ u8 0xFF
  | .host => u8 0 ++ u8 0xFF
  | .line l => u8 1 ++ u8 l

/-- READ_CALIBRATION's reply: the sweep record and the results at the positions named (R109). -/
def encSweep (s : State) (first count : Nat) : List Byte :=
  let w := s.sweep
  u8 w.state.code ++ encSweepHead w ++ opt8 w.current ++ u8 w.zonesDone ++ encSweepParams w ++ tick32 w.startTick
    ++ u8 w.lastOutcome.code ++ w.abortCause.bytes ++ u8 w.darkSet
    ++ listOf (fun z => encCalResult (s.resultOf z)) ((w.zones.drop first).take count)

/-- READ_CALIBRATION (R109). -/
def serveReadCalibration (first count : Nat) (zone : Option Nat) (s : State) : Served :=
  match zone with
  | some z => checked [(decide (z < Config.nZones), .outOfRange)] s (accepted (encCalResult (s.resultOf z)) s)
  | none =>
    checked [(between 1 12 count, .outOfRange), (decide (first ≤ 47), .outOfRange)] s (accepted (encSweep s first count) s)

/-- START_CALIBRATION. -/
def execStartCalibration (tag : Byte) (r : StartCalibration) (s : State) : Answer :=
  .next (reply .direct Kind.startCalibration.code tag (whenRunning (serveStartCalibration r) s))

/-- ABORT_CALIBRATION. -/
def execAbortCalibration (tag : Byte) (s : State) : Answer :=
  .next (reply .direct Kind.abortCalibration.code tag (whenRunning serveAbortCalibration s))

/-- READ_CALIBRATION. -/
def execReadCalibration (tag : Byte) (first count : Nat) (zone : Option Nat) (s : State) : Answer :=
  .next (reply .direct Kind.readCalibration.code tag (whenRunning (serveReadCalibration first count zone) s))

end Sys2Proof.Machine
end

