-- ==== Sys2Proof/Machine/GearEvents.lean ====
section
/-! DEFINITION. The events and requests of the gear lines (06_gear_lines_and_transmit_queues.md): supply, frames and answers, the audit,
the lines' parameters and control. -/

namespace Sys2Proof.Machine

/-! ### Lines leaving and entering service (R112 to R116) -/

/-- A line goes to OFF, DOWN or HELD, with what the SCU, the CSE and the BLP make of it (R113, R114, R116). -/
def State.lineOut (l : Nat) (dest : LineState) (s : State) : State :=
  let wasUp := (s.gearLine l).isUp
  let s := (s.lineLeaves l dest).latchIf (decide (dest = .down)) .lineDown
  if wasUp then (s.shadeLineLeft l).sweepLineLeft l else s

/-- A debounced level of the power monitor reaches the line (R113). -/
def State.takeSupply (l : Nat) (s : State) : State :=
  let present := (s.gearLine l).supplyRaw
  let s := s.modGearLine l fun x => { x with supply := present, supplyDebounce := none }
  match (s.gearLine l).state, present with
  | .starting, false => s.lineOut l .down
  | .up, false => s.lineOut l .down
  | .held, false => s.lineOut l .down
  | .down, true => s.lineStarting l
  | _, _ => s

/-- LPWR_INPUT_CHANGE: a raw change starts the 20 ms afresh, or ends it when the level returns (R112). -/
def execLpwrInputChange (l : Fin 4) (level : Bool) (s : State) : Answer :=
  .next (if (s.gearLine l).supplyRaw = level then s
    else s.modGearLine l fun x =>
      { x with supplyRaw := level, supplyDebounce := if level = x.supply then none else some (s.startTimer 20) })

/-- LINE_POWER_CHANGE: the raw level has held for 20 ms (R112, R113). -/
def execLinePowerChange (l : Fin 4) (s : State) : Answer :=
  .next (if (s.gearLine l).supplyDebounce.isSome then (s.takeSupply l).settledCheck else s)

/-- START_SETTLE_EXPIRY (R115). -/
def execStartSettleExpiry (l : Fin 4) (s : State) : Answer :=
  .next (if (s.gearLine l).settle.isSome && decide ((s.gearLine l).state = .starting) then s.lineUp l else s)

/-! ### Frames (R121, R202) -/

/-- The address byte of an entry's frame: the gear's address, or 0x40 + g (R202). -/
def State.frameAddress (s : State) (e : Entry) : Nat :=
  match e.target with
  | .gear i => (s.gearAt i).elim 0 fun g => g.cfg.address
  | .group g => 0x40 + g

/-- The value byte of an entry's frame (R202): the group is 0xFF for NONE, and a command without a value sends 0x00. -/
def Entry.wireValue (e : Entry) : Nat :=
  match e.cmd with
  | .setValue | .setLossLevel | .shadeGoto => e.value
  | .setGroup => e.group.getD 0xFF
  | .queryValue | .queryStatus | .shadeStop | .shadeQuery => 0

/-- The four bytes of an entry's forward frame (R202). -/
def State.forwardFrame (s : State) (e : Entry) : List Byte :=
  let body := u8 (s.frameAddress e) ++ u8 e.cmd.wire ++ u8 e.wireValue
  body ++ [sumCheck body]

/-- Whether an entry is a group's. -/
def Target.isGroup : Target → Bool
  | .group _ => true
  | .gear _ => false

/-- The counts of a forward frame (R121, R173): a resend after a failed attempt also counts in RETRIES (log 12). -/
def State.countFrame (l : Nat) (e : Entry) (s : State) : State :=
  let s := s.count (.frames l)
  let s := if e.target.isGroup then s.count (.groupFrames l) else s
  if 0 < e.attempts then s.count (.retries l) else s

/-- The head of a line's queue. -/
def GearLine.head? (x : GearLine) : Option Entry := x.queue.head?

/-- The head of a line's queue, while an attempt at it is under way (R121). -/
def State.inFlight (s : State) (l : Nat) : Option Entry := (s.gearLine l).head?.filter Entry.attempting

/-- The head entry changes by `f`. -/
def State.modHead (l : Nat) (f : Entry → Entry) (s : State) : State :=
  s.modGearLine l fun x => { x with queue := x.queue.modifyHead f }

/-- The head entry leaves (R123, R125). -/
def State.popHead (l : Nat) (s : State) : State := s.modGearLine l fun x => { x with queue := x.queue.tail }

/-- FORWARD_FRAME_START: a line that is UP sends its head entry when no frame is in flight; the entry is in flight from now on
(R121). -/
def execForwardFrameStart (l : Fin 4) (s : State) : Answer :=
  .next (match (s.gearLine l).head? with
    | some e =>
      if (s.gearLine l).isUp && !e.attempting then
        let bytes := s.forwardFrame e
        ((s.modHead l fun e => { e with inFlight := true, attempting := true }).modGearLine l fun x =>
          { x with frameOut := bytes, frameRate := x.rateCode }).countFrame l e
      else s
    | none => s)

/-- What follows an event that may have changed a line's queue: the line is tended and the settled test made (R125). -/
def State.afterEvent (l : Nat) (s : State) : State := (s.tendLine l).settledCheck

/-- GROUP_FRAME_SENT: a group frame's entry leaves at the end of the frame (R121). -/
def execGroupFrameSent (l : Fin 4) (s : State) : Answer :=
  .next (match s.inFlight l with
    | some e => if e.target.isGroup then (s.popHead l).afterEvent l else s
    | none => s)

/-! ### Failed attempts and silence (R117, R123) -/

/-- The SCU's part of a gear's entry into SILENT. -/
def State.silentShade (i : Nat) (g : Gear) (s : State) : State :=
  match g.cfg.role with
  | .driver _ => s
  | .shade seg => s.shadeSilent seg i

/-- A gear whose entry exhausts its attempts (R117, R123): its waiting entries leave, its marks are cleared, and an entry
into SILENT is latched and counted. -/
def State.goSilent (i : Nat) (s : State) : State :=
  match s.gearAt i with
  | none => s
  | some g =>
    let l := g.cfg.line
    let s := s.dropEntries l fun e => !e.inFlight && decide (e.target = .gear i)
    let s := s.modGear i fun g => { g with state := .silent, dirty := .clear, trimPending := false }
    if g.state = .silent then s
    else (((s.latch .gearSilent).count (.silentEvents l)).refreshGearOutput g).silentShade i g

/-- A failed attempt of the head entry (R123); while it waits for its resend it is still in flight (log 11). -/
def State.failHead (l : Nat) (e : Entry) (s : State) : State :=
  let x := s.gearLine l
  if e.orphan || x.queue.tail.any (Entry.sameSlot e.target e.cmd.cls) then s.popHead l
  else if e.attempts + 1 < x.attemptLimit then
    s.modHead l fun e => { e with attempts := e.attempts + 1, attempting := false }
  else
    match e.target with
    | .gear i => (s.popHead l).goSilent i
    | .group _ => s.popHead l

/-- The attempt in flight ends without a valid answer (R122). -/
def State.attemptLost (l : Nat) (s : State) : State :=
  match s.inFlight l with
  | some e => if e.target.isGroup then s else (s.failHead l e).afterEvent l
  | none => s

/-- REPLY_WINDOW_END: no answer within the window (R121, R122). -/
def execReplyWindowEnd (l : Fin 4) (s : State) : Answer := .next (s.attemptLost l)

/-- BACKWARD_FRAME_TIMEOUT: the answer's characters have not all arrived, which is an answer whose check does not agree
(R203). -/
def execBackwardFrameTimeout (l : Fin 4) (s : State) : Answer := .next (s.attemptLost l)

/-! ### Answers (R122, R124, R134) -/

/-- The commands whose answer reports a SHADE gear's position (R124). -/
def GearCmd.reportsPosition : GearCmd → Bool
  | .shadeStop | .shadeQuery | .queryStatus => true
  | _ => false

/-- The commands whose answer reports the value a driver applies (R124). -/
def GearCmd.reportsValue : GearCmd → Bool
  | .setValue | .queryValue | .queryStatus => true
  | _ => false

/-- The commands whose answer must report the value sent (R122). -/
def GearCmd.carriesValue : GearCmd → Bool
  | .setValue | .shadeGoto | .setLossLevel | .setGroup => true
  | _ => false

/-- An answer is valid: no stop-bit error, its check agrees, and a SHADE's position is at most 100 (R203, log 19). -/
def validAnswer (g : Gear) (cmd : GearCmd) (data status check : Byte) (stopError : Bool) : Bool :=
  !stopError && check == sumCheck [data, status]
    && !(g.isShade && cmd.reportsPosition && decide (100 < data.toNat))

/-- A gear's record after a valid answer, but for its state (R124). -/
def Gear.answered (cmd : GearCmd) (data status : Byte) (g : Gear) : Gear :=
  if g.isDriver then
    { g with lampFail := status.getLsbD 0, confirmed := if cmd.reportsValue then some data.toNat else g.confirmed }
  else if cmd.reportsPosition then
    { g with position := some data.toNat, atLimit := status.getLsbD 1, unreported := false }
  else g

/-- The state of a gear that answers: PRESENT; a return from SILENT marks it for setup (R117, R124). -/
def State.answering (i : Nat) (g : Gear) (s : State) : State :=
  let s := s.modGear i fun g => { g with state := .present }
  let s := if g.state = .silent then s.markSetup i else s
  if g.state = .present then s else s.refreshGearOutput g

/-- The audit's comparison applies (R134): an expected value, no dirty mark, and no SET_VALUE for the gear or for its
zone's group on this line queued or in flight. -/
def State.auditApplies (s : State) (l i : Nat) (g : Gear) : Bool :=
  let group := s.setupGroup g
  g.expected.isSome && decide (g.dirty = .clear) && !(s.gearLine l).queue.any fun e =>
    e.sameSlot (.gear i) .level || group.any fun k => e.sameSlot (.group k) .level

/-- An audit answer of a driver is compared with what is expected (R134). -/
def State.auditCompare (l i : Nat) (data : Byte) (s : State) : State :=
  match s.gearAt i with
  | none => s
  | some g =>
    if g.isDriver && s.auditApplies l i g && decide (g.expected ≠ some data.toNat) then
      (s.count (.mismatches l)).markValue i
    else s

/-- A valid answer acts on the gear's record, and is handed to the SCU for a SHADE (R124). -/
def State.takeAnswer (l i : Nat) (g : Gear) (e : Entry) (data status : Byte) (s : State) : State :=
  let s := s.answering i g
  let s := s.modGear i (Gear.answered e.cmd data status)
  let s := s.latchIf (g.isDriver && status.getLsbD 0 && !g.lampFail) .lampFail
  let s := match g.cfg.role with
    | .driver _ => s
    | .shade seg => s.shadeAnswer seg i e.cmd g.position
  if e.cmd = .queryValue ∧ e.origin = .audit then s.auditCompare l i data else s

/-- The head entry succeeds: it leaves, or a setup entry advances to its second stage (R123, R127), in flight also between the
two stages, so that a newer setup of the gear waits behind it (log 11). -/
def State.succeedHead (l : Nat) (e : Entry) (s : State) : State :=
  match e.cmd with
  | .setLossLevel => s.modHead l fun e => { e with cmd := .setGroup, attempts := 0, inFlight := true, attempting := false }
  | _ => s.popHead l

/-- The end of an attempt by an answer (R122, R123). The SCU acts on the answer of a SHADE before the answered entry leaves the queue
(R124, R142): a DESIGN CHOICE, unsafe (log 64). An answer whose value differs acts on the gear's record before the attempt fails, so that a
gear whose entry it exhausts ends SILENT (R123, R124): a DESIGN CHOICE, unsafe (log 68). -/
def State.endAttempt (l i : Nat) (g : Gear) (e : Entry) (data status check : Byte) (stopError : Bool) (s : State) : State :=
  if validAnswer g e.cmd data status check stopError then
    let s := s.takeAnswer l i g e data status
    if e.cmd.carriesValue && decide (data.toNat ≠ e.wireValue) then (s.count (.mismatches l)).failHead l e
    else s.succeedHead l e
  else s.failHead l e

/-- GEAR_ANSWER_RECEIVED: a backward frame within the reply window (R121 to R124), its bytes as `answerCommand` reads them; an orphan's answer is discarded and
its entry leaves (R17). -/
def execGearAnswerReceived (l : Fin 4) (data status check : Byte) (stopError : Bool) (s : State) : Answer :=
  .next (match s.inFlight l with
    | none => s
    | some e =>
      match e.target with
      | .group _ => s
      | .gear i =>
        if e.orphan then (s.failHead l e).afterEvent l
        else
          match s.gearAt i with
          | none => (s.failHead l e).afterEvent l
          | some g => (s.endAttempt l i g e data status check stopError).afterEvent l)

/-! ### The audit (R133) -/

/-- The gear that the audit visits next: the lowest index of the line above the position, or the lowest of all. -/
def State.auditNext (s : State) (l : Nat) : Option Nat :=
  let here := s.gearWhere fun g => decide (g.cfg.line = l)
  match (s.gearLine l).auditPos with
  | some p => (here.find? fun i => decide (p < i)).or here.head?
  | none => here.head?

/-- The query of a visit (R133). -/
def Gear.auditQuery (g : Gear) : GearCmd :=
  match g.state, g.cfg.role with
  | .present, .driver _ => .queryValue
  | .present, .shade _ => .shadeQuery
  | _, _ => .queryStatus

/-- One visit of the audit (R133). -/
def State.auditVisit (l : Nat) (s : State) : State :=
  match s.auditNext l with
  | none => s
  | some i =>
    match s.gearAt i with
    | none => s
    | some g =>
      (s.modGearLine l fun x => { x with auditPos := some i }).offer l false
        (.arrival (.gear i) g.auditQuery 0 none .audit)

/-- AUDIT_TIMER_EXPIRY: the timer restarts, and a line that is not CONGESTED makes a visit (R133). -/
def execAuditTimerExpiry (l : Fin 4) (s : State) : Answer :=
  .next (if (s.gearLine l).isUp && (s.gearLine l).audit.isSome then
    let t := s.modGearLine l fun x => { x with audit := s.auditTimer x.auditInterval }
    if (s.gearLine l).congested then t else t.auditVisit l
  else s)

/-! ### Requests (R111, R114, R135) -/

/-- The high watermark that SET_GEAR_LINE leaves stored (R111). -/
def newHigh (r : SetGearLine) (x : GearLine) : Nat := clampOr 8 31 x.highWatermark r.highWatermark

/-- The low watermark that SET_GEAR_LINE leaves stored, below the high one (R111). -/
def newLow (r : SetGearLine) (x : GearLine) : Nat := clamp 1 (newHigh r x - 1) (r.lowWatermark.getD x.lowWatermark)

/-- The parameters of a line after SET_GEAR_LINE (R111). -/
def GearLine.takeParams (r : SetGearLine) (x : GearLine) : GearLine :=
  { x with
    rateCode := (r.rateCode.map storedRateCode).getD x.rateCode
    attemptLimit := r.attemptLimit.getD x.attemptLimit
    highWatermark := newHigh r x
    lowWatermark := newLow r x
    auditInterval := r.auditInterval.getD x.auditInterval }

/-- Whether SET_GEAR_LINE stores a value other than the one given (R111). -/
def gearLineAdjusted (r : SetGearLine) (x : GearLine) : Bool :=
  (r.rateCode.any fun c => decide (storedRateCode c ≠ c)) || clamps 8 31 r.highWatermark
    || decide (newLow r x ≠ r.lowWatermark.getD x.lowWatermark)

/-- The audit timer after a change of the interval (R111). -/
def State.newAudit (s : State) (old : Nat) (x : GearLine) : Option Timer :=
  if x.auditInterval = 0 then none
  else if old = 0 ∧ x.state = .up then s.auditTimer x.auditInterval
  else x.audit

/-- An accepted SET_GEAR_LINE (R111, R130). -/
def State.setGearLineParams (r : SetGearLine) (s : State) : State :=
  let old := (s.gearLine r.line).auditInterval
  let s := s.modGearLine r.line fun x =>
    { (x.takeParams r) with audit := s.newAudit old (x.takeParams r) }
  (s.highCheck r.line).tendLine r.line

/-- SET_GEAR_LINE (R111); CONFLICT is checked first (log 17). The reply carries every stored parameter, enabled the first (log
57). -/
def serveSetGearLine (r : SetGearLine) (s : State) : Served :=
  checked [(s.quiet, .conflict), (decide (r.line < Config.nGearLines), .outOfRange),
      (optBetween 0 7 r.rateCode && optBetween 1 7 r.attemptLimit && optBetween 0 60 r.auditInterval, .outOfRange)] s
    (let t := s.setGearLineParams r
     acceptedAs (gearLineAdjusted r (s.gearLine r.line))
       (flag8 (t.gearLine r.line).enabled ++ encGearLine (t.gearLine r.line) ++ u8 (t.gearLine r.line).state.code) t)

/-- The actions of LINE_CONTROL, in code order (R114). -/
inductive LineAction where
  | enable | disable | hold | release
  deriving DecidableEq, Repr

/-- The effect of an accepted LINE_CONTROL (R114); the settled test follows a change of the line (R95). -/
def State.controlLine (l : Nat) (a : LineAction) (s : State) : State :=
  match a, (s.gearLine l).state with
  | .enable, .off => ((s.modGearLine l fun x => { x with enabled := true }).lineComesUp l).settledCheck
  | .enable, _ => s
  | .disable, .off => s
  | .disable, _ => ((s.modGearLine l fun x => { x with enabled := false }).lineOut l .off).settledCheck
  | .hold, .off => s
  | .hold, .held => s
  | .hold, _ => (s.lineOut l .held).settledCheck
  | .release, .held => (s.lineComesUp l).settledCheck
  | .release, _ => s

/-- LINE_CONTROL (R114). -/
def serveLineControl (l : Nat) (a : LineAction) (s : State) : Served :=
  checked [(decide (l < Config.nGearLines), .outOfRange),
      (!(decide (a = .hold) && decide ((s.gearLine l).state = .off)), .conflict)] s
    (let t := s.controlLine l a
     accepted (u8 (t.gearLine l).state.code) t)

/-- READ_GEAR_LINE's reply (R135). -/
def encGearLineStatus (s : State) (l first count : Nat) : List Byte :=
  let x := s.gearLine l
  flag8 x.enabled ++ encGearLine x ++ u8 x.state.code ++ flag8 x.congested ++ flag8 x.supply ++ u8 x.queue.length
    ++ listOf encEntry ((x.queue.drop first).take count) ++ u8 (s.dirtySet l).length ++ u8 (s.trimSet l).length
    ++ opt8 x.auditPos

/-- READ_GEAR_LINE (R135). -/
def serveReadGearLine (l first count : Nat) (s : State) : Served :=
  checked [(decide (l < Config.nGearLines), .outOfRange), (decide (first ≤ 31), .outOfRange),
      (between 1 16 count, .outOfRange)] s
    (accepted (encGearLineStatus s l first count) s)

/-- An entry for a gear is queued or in flight (R135). -/
def State.hasEntry (s : State) (i : Nat) (g : Gear) : Bool :=
  (s.gearLine g.cfg.line).queue.any fun e => !e.orphan && decide (e.target = .gear i)

/-- READ_GEAR's reply (R135). -/
def encGearStatus (s : State) (i : Nat) (g : Gear) : List Byte :=
  u8 g.state.code ++ flag8 g.lampFail ++ opt8 g.expected ++ opt8 g.confirmed ++ u8 g.dirty.code ++ flag8 g.trimPending
    ++ opt8 g.position ++ flag8 g.atLimit ++ encGearDef g.cfg ++ flag8 (s.hasEntry i g)

/-- READ_GEAR (R135). -/
def serveReadGear (i : Nat) (s : State) : Served :=
  checked [(decide (i < Config.nGear), .outOfRange), ((s.gearAt i).isSome, .noSuch)] s
    (accepted ((s.gearAt i).elim [] (encGearStatus s i)) s)

/-- SET_GEAR_LINE. -/
def execSetGearLine (tag : Byte) (r : SetGearLine) (s : State) : Answer :=
  .next (reply .direct Kind.setGearLine.code tag (whenRunning (serveSetGearLine r) s))

/-- LINE_CONTROL with the action ENABLE. -/
def execLineControlEnable (tag : Byte) (line : Nat) (s : State) : Answer :=
  .next (reply .direct Kind.lineControl.code tag (whenRunning (serveLineControl line .enable) s))

/-- LINE_CONTROL with the action DISABLE. -/
def execLineControlDisable (tag : Byte) (line : Nat) (s : State) : Answer :=
  .next (reply .direct Kind.lineControl.code tag (whenRunning (serveLineControl line .disable) s))

/-- LINE_CONTROL with the action HOLD. -/
def execLineControlHold (tag : Byte) (line : Nat) (s : State) : Answer :=
  .next (reply .direct Kind.lineControl.code tag (whenRunning (serveLineControl line .hold) s))

/-- LINE_CONTROL with the action RELEASE. -/
def execLineControlRelease (tag : Byte) (line : Nat) (s : State) : Answer :=
  .next (reply .direct Kind.lineControl.code tag (whenRunning (serveLineControl line .release) s))

/-- READ_GEAR_LINE. -/
def execReadGearLine (tag : Byte) (line first count : Nat) (s : State) : Answer :=
  .next (reply .direct Kind.readGearLine.code tag (whenRunning (serveReadGearLine line first count) s))

/-- READ_GEAR. -/
def execReadGear (tag : Byte) (index : Nat) (s : State) : Answer :=
  .next (reply .direct Kind.readGear.code tag (whenRunning (serveReadGear index) s))

end Sys2Proof.Machine
end

