-- ==== Sys2Proof/Machine/Acquisition.lean ====
section
/-! DEFINITION. The Sensor Acquisition Unit (02_photosensor_acquisition.md): poll cycles, transactions, sensor health, and the sharing
of SL0. -/

namespace Sys2Proof.Machine

/-! ### The poll cycle (R24 to R27) -/

/-- The next sensor to visit on a line (R25). -/
def State.nextSensor (s : State) (l : Nat) : Option Nat :=
  (s.sensorsWhere fun x => decide (x.line = l) && x.enabled).find? fun i =>
    (s.sensorLine l).lastVisited.all fun v => decide (v < i)

/-- The address byte of a sensor's transaction: the bus address in bits 7 to 1, and bit 0 set for the read direction (R204). -/
def readAddress (address : Nat) : Byte := BitVec.ofNat 8 (2 * address + 1)

/-- A transaction with a sensor begins with its address byte (R25, R28, R204). -/
def State.beginTxn (l i : Nat) (s : State) : State :=
  let sent := (s.sensor i).elim 0 fun x => readAddress x.address
  s.modSensorLine l fun x =>
    { x with
      lastVisited := some i
      txn := some { sensor := i, sent := sent, speed := x.speed, start := s.tick, discard := false } }

/-- A cycle opens: steps 1 to 3 of R24, and SCANNING. -/
def State.openCycle (l : Nat) (s : State) : State :=
  s.modSensorLine l fun x =>
    { x with
      cycleOpen := true, lastVisited := none, startPending := false, cycleStart := some s.tick
      interval := some (s.startTimer x.pollInterval), scan := .scanning, report := [] }

/-- A cycle completes: the completion is delivered to the ZCU, the CTU and the CSE (R27). -/
def State.completeCycle (l : Nat) (s : State) : State :=
  let report := (s.sensorLine l).report
  let s := s.modSensorLine l fun x =>
    { x with lastCompletion := some s.tick, cycleOpen := false, scan := .waiting, report := [] }
  ((s.evaluateLine l).accrueLine l).takeReport l report

/-- The start of a cycle on a line: its first sensor, or an empty cycle's completion at its start (R24, R25). -/
def State.startCycle (l : Nat) (s : State) : State :=
  let s := s.openCycle l
  match s.nextSensor l with
  | some i => s.beginTxn l i
  | none => s.completeCycle l

/-- The next sensor of an open cycle, or its completion; a pending start follows at once (R25, R27). -/
def State.continueCycle (l : Nat) (s : State) : State :=
  match s.nextSensor l with
  | some i => s.beginTxn l i
  | none =>
    let s := s.completeCycle l
    if (s.sensorLine l).startPending then s.startCycle l else s

/-- POLL_INTERVAL_EXPIRY (R24, R26, R37): a cycle starts, or a start is pending; while SCANNING it is an overrun. -/
def execPollIntervalExpiry (l : Fin 2) (s : State) : Answer :=
  .next (if (s.sensorLine l).interval.isSome then
    let s := s.modSensorLine l fun x => { x with interval := none }
    match (s.sensorLine l).scan with
    | .waiting => s.startCycle l
    | .scanning => (s.modSensorLine l fun x => { x with startPending := true }).latch .sensorLineOverrun
    | .paused => s.modSensorLine l fun x => { x with startPending := true }
    | .stopped => s
  else s)

/-! ### Sharing SL0 (R36, R37) -/

/-- A save waits for SL0. -/
def State.wantsSL0 (s : State) : Bool := s.loader.save.any fun j => decide (j.phase = .waitGrant)

/-- The grant of SL0 to the IML: the scanner pauses, and the save begins to write (R36, R197). -/
def State.grantSL0 (s : State) : State :=
  (s.modSensorLine 0 fun x => if x.scan = .stopped then x else { x with scan := .paused }).modLoader fun k =>
    { k with save := k.save.map fun j => { j with phase := .writing } }

/-- The IML releases SL0 (R37). -/
def State.releaseSL0 (s : State) : State :=
  let x := s.sensorLine 0
  if x.scan = .paused then
    if x.cycleOpen then (s.modSensorLine 0 fun x => { x with scan := .scanning }).continueCycle 0
    else if x.startPending then s.startCycle 0
    else s.modSensorLine 0 fun x => { x with scan := .waiting }
  else s

/-- The scanner after the end of a transaction: SL0 goes to a save that waits for it, and otherwise the cycle goes on
(R25, R36). The grant comes first also where the transaction was the open cycle's last, so that the cycle completes at the release:
a DESIGN CHOICE, unsafe (log 62). -/
def State.afterTxn (l : Nat) (s : State) : State :=
  if l = 0 ∧ s.wantsSL0 then s.grantSL0 else s.continueCycle l

/-! ### Readings and health (R28 to R34, R204, R205) -/

/-- The outcome of a transaction (R28). -/
inductive TxnOutcome where
  | good (range count : Nat) (overrange : Bool)
  | notReady | badCheck | noAck
  deriving DecidableEq, Repr

/-- The classification of an answer; the check is tested first (R205). -/
def classify : Option SensorReply → TxnOutcome
  | none => .noAck
  | some r =>
    if crc8 [r.status, r.countHigh, r.countLow] ≠ r.check then .badCheck
    else if !r.status.getLsbD 0 then .notReady
    else .good ((r.status.toNat / 16) % 4) (256 * r.countHigh.toNat + r.countLow.toNat) (r.status.getLsbD 1)

/-- The lux value of a count, a range and a scale (R30). -/
def toLux (scale range count : Nat) : Nat := min Config.luxMax ((count * 4 ^ range * scale + 1024) / 2048)

/-- The reading fields after a good outcome (R30). -/
def Sensor.takeReading (now : Tick) (range count : Nat) (ovr : Bool) (x : Sensor) : Sensor :=
  { x with
    lastCount := count, lastRange := range, overrange := ovr
    lux := if ovr then Config.luxMax else toLux x.scale range count
    timestamp := now }

/-- What a good reading in a health state hands to the DEU: nothing for the first of a FAILED sensor (R32). -/
def Sensor.handing (x : Sensor) : Option Hand :=
  match x.health with
  | .absent => some .prime
  | .ok | .suspect => some .step
  | .failed => if x.recoverCount = 0 then none else some .rePrime
  | .disabled => none

/-- The state and counts after a good reading (R32). -/
def Sensor.goodState (x : Sensor) : Sensor :=
  if x.health = .failed ∧ x.recoverCount = 0 then { x with missCount := 0, recoverCount := 1 }
  else { x with health := .ok, missCount := 0, recoverCount := 0 }

/-- A good reading: the fields, the cycle report, and what is handed to the DEU and the SCU (R30, R32). -/
def State.goodReading (l i : Nat) (x : Sensor) (range count : Nat) (ovr : Bool) (s : State) : State :=
  let s := s.modSensor i fun x => (x.takeReading s.tick range count ovr).goodState
  let s := match s.sensor i with
    | some y => s.modSensorLine l fun n => { n with report := n.report ++ [(i, y.lux)] }
    | none => s
  match x.handing with
  | none => s
  | some h =>
    let s := s.processReading i h
    if x.kind = .window then s.noticeWindow i else s

/-- The state and counts after a miss (R33). -/
def Sensor.missed (limit : Nat) (x : Sensor) : Sensor :=
  let m := min 15 (x.missCount + 1)
  match x.health with
  | .absent => { x with missCount := m, health := if limit ≤ m then .failed else .absent }
  | .ok | .suspect => { x with missCount := m, health := if limit ≤ m then .failed else .suspect }
  | .failed => { x with missCount := m, recoverCount := 0 }
  | .disabled => x

/-- A miss: MISSES, the health, and an entry into FAILED with its latch and its zones' resolution (R33, R34). The limit is the line's as it
stands at the transaction's end, also where it was set during the transaction: R22 and R28 say so, and R29 lets the new parameters
apply from the next transaction. A DESIGN CHOICE, unsafe (log 73). -/
def State.miss (l i : Nat) (x : Sensor) (s : State) : State :=
  let y := x.missed (s.sensorLine l).missLimit
  let s := (s.modSensor i fun _ => y).count (.misses i)
  if y.health = .failed ∧ x.health ≠ .failed then (s.latch .sensorFault).resolveZonesOf i else s

/-- An outcome is applied to a sensor (R28). -/
def State.applyOutcome (l i : Nat) (o : TxnOutcome) (s : State) : State :=
  match s.sensor i with
  | none => s
  | some x =>
    match o with
    | .good r c v => s.goodReading l i x r c v
    | .notReady | .badCheck | .noAck => s.miss l i x

/-- The end of the transaction in progress on a line; a discarded outcome changes nothing (R28, R29). -/
def State.endTxn (l : Nat) (o : TxnOutcome) (s : State) : State :=
  match (s.sensorLine l).txn with
  | none => s
  | some t =>
    let s := s.modSensorLine l fun x => { x with txn := none }
    (if t.discard then s else s.applyOutcome l t.sensor o).afterTxn l

/-- SENSOR_TRANSACTION_END (R28, R205). -/
def execSensorTransactionEnd (l : Fin 2) (r : Option SensorReply) (s : State) : Answer := .next (s.endTxn l (classify r))

/-- SENSOR_TRANSACTION_TIMEOUT: 25 ms after its start a transaction ends as NO_ACK (R28). -/
def execSensorTransactionTimeout (l : Fin 2) (s : State) : Answer := .next (s.endTxn l .noAck)

/-- The transaction in progress with a sensor, on either line, is to be discarded at its end (R29). -/
def State.discardTxn (i : Nat) (s : State) : State :=
  { s with sensorLines := s.sensorLines.map fun x =>
      { x with txn := x.txn.map fun t => if t.sensor = i then { t with discard := true } else t } }

/-- A scanner leaves STOPPED at the entry into RUNNING (R38). -/
def State.startScanner (l : Nat) (s : State) : State :=
  if (s.sensorLine l).scan = .stopped then s.startCycle l else s

/-! ### Requests (R22, R23, R35, R52) -/

/-- The parameters of a sensor line after SET_SENSOR_LINE (R22). -/
def SensorLine.takeParams (r : SetSensorLine) (x : SensorLine) : SensorLine :=
  { x with
    speed := (r.speed.bind Speed.ofCode).getD x.speed
    pollInterval := r.pollInterval.getD x.pollInterval
    missLimit := r.missLimit.getD x.missLimit }

/-- SET_SENSOR_LINE (R22); CONFLICT is checked first (log 17). -/
def serveSetSensorLine (r : SetSensorLine) (s : State) : Served :=
  checked [(s.quiet, .conflict), (decide (r.line < 2), .outOfRange),
      ((r.speed.all fun v => (Speed.ofCode v).isSome) && optBetween 100 5000 r.pollInterval
        && optBetween 1 15 r.missLimit, .outOfRange)] s
    (let t := s.modSensorLine r.line (SensorLine.takeParams r)
     accepted (encSensorLine (t.sensorLine r.line)) t)

/-- READ_SENSOR_LINE's reply (R23). -/
def encScanner (x : SensorLine) : List Byte :=
  encSensorLine x ++ u8 x.scan.code ++ flag8 x.cycleOpen ++ opt8 x.lastVisited ++ flag8 x.startPending
    ++ optTick x.cycleStart ++ optTick x.lastCompletion

/-- READ_SENSOR_LINE (R23); a line other than SL0 or SL1 is out of range (log 36). -/
def serveReadSensorLine (l : Nat) (s : State) : Served :=
  checked [(decide (l < 2), .outOfRange)] s (accepted (encScanner (s.sensorLine l)) s)

/-- READ_SENSOR's reply: the SAU's fields, then the DEU's (R35, R52). -/
def encSensor (x : Sensor) : List Byte :=
  u8 x.health.code ++ u8 x.missCount ++ u8 x.recoverCount ++ u16 x.lastCount ++ u8 x.lastRange ++ flag8 x.overrange
    ++ u16 x.lux ++ tick32 x.timestamp ++ u16 x.darkOffset ++ u16 x.daylight ++ u16 x.daylightF ++ flag8 x.primed
    ++ u8 x.contrib.length

/-- READ_SENSOR (R35). -/
def serveReadSensor (i : Nat) (s : State) : Served :=
  checked [(decide (i < Config.nSensors), .outOfRange), ((s.sensor i).isSome, .noSuch)] s
    (accepted (s.sensorReply i encSensor) s)

/-- SET_SENSOR_LINE. -/
def execSetSensorLine (tag : Byte) (r : SetSensorLine) (s : State) : Answer :=
  .next (reply .direct Kind.setSensorLine.code tag (whenRunning (serveSetSensorLine r) s))

/-- READ_SENSOR_LINE. -/
def execReadSensorLine (tag : Byte) (line : Nat) (s : State) : Answer :=
  .next (reply .direct Kind.readSensorLine.code tag (whenRunning (serveReadSensorLine line) s))

/-- READ_SENSOR. -/
def execReadSensor (tag : Byte) (index : Nat) (s : State) : Answer :=
  .next (reply .direct Kind.readSensor.code tag (whenRunning (serveReadSensor index) s))

end Sys2Proof.Machine
end

