-- ==== Sys2Proof/Machine/FloorModel.lean ====
section
/-! DEFINITION. The floor model's requests (01_floor_model_zones_segments_sensors_gear_and_curv.md): their checks, the records they store
and what each change hands to the blocks that depend on it. -/

namespace Sys2Proof.Machine

/-! ### Sensors (R5 to R8) -/

/-- A sensor entry with its runtime and estimation fields as a new entry's (R7, R38). -/
def Sensor.fresh (kind : SensorKind) (line address : Nat) (enabled : Bool) (scale fall rise : Nat) : Sensor :=
  { kind := kind, line := line, address := address, enabled := enabled, scale := scale, fallCoeff := fall
    riseCoeff := rise, health := if enabled then .absent else .disabled, missCount := 0, recoverCount := 0
    lastCount := 0, lastRange := 0, overrange := false, lux := 0, timestamp := 0, darkOffset := 0, contrib := []
    daylight := 0, daylightF := 0, primed := false }

/-- A line and address that a sensor may have (R5). -/
def sensorAddressOk (line address : Nat) : Bool :=
  between 0x08 0x77 address && !(line == 0 && address == Config.memoryAddress)

/-- Two sensors of one identity (R7). -/
def Sensor.sameIdentity (x y : Sensor) : Bool :=
  decide (x.kind = y.kind) && decide (x.line = y.line) && decide (x.address = y.address)

/-- The entry that a definition leaves: a new entry's fields, or the stored runtime with what a change of enabled does (R7). -/
def Sensor.redefine (old : Option Sensor) (new : Sensor) : Sensor :=
  match old with
  | none => new
  | some x =>
    if !x.sameIdentity new then new
    else
      let y := { x with enabled := new.enabled, scale := new.scale, fallCoeff := new.fallCoeff, riseCoeff := new.riseCoeff }
      match x.enabled, new.enabled with
      | false, true => { y with health := .absent, missCount := 0, recoverCount := 0, primed := false }
      | true, false => { y with health := .disabled }
      | _, _ => y

/-- An accepted definition of a sensor: the entry, the transaction in progress, and the zones it reaches (R7). -/
def State.storeSensor (i : Nat) (new : Sensor) (s : State) : State :=
  match s.sensor i with
  | none => s.setSensor i (some new)
  | some x =>
    let changed := !x.sameIdentity new
    let t := s.setSensor i (some (Sensor.redefine (some x) new))
    let t := if changed || (x.enabled && !new.enabled) then t.discardTxn i else t
    if changed || decide (x.enabled ≠ new.enabled) then t.resolveZonesOf i else t

/-- The sensors other than `i` of a line. -/
def State.othersOnLine (s : State) (i line : Nat) : List Nat :=
  (s.sensorsWhere fun x => decide (x.line = line)).filter fun j => j != i

/-- A zone names the sensor as its control sensor. -/
def State.isControl (s : State) (i : Nat) : Bool :=
  !(s.zonesWhere fun x => decide (x.cfg.controlSensor = some i)).isEmpty

/-- A segment names the sensor as its window sensor. -/
def State.isWindow (s : State) (i : Nat) : Bool := !(s.segmentsOf i).isEmpty

/-- The kind of a referenced sensor may not change against its references (R6). -/
def State.kindFree (s : State) (i : Nat) (kind : SensorKind) : Bool :=
  match kind with
  | .window => !s.isControl i
  | .ceiling => !s.isWindow i

/-- The ranges of the optional fields of a sensor (R5). -/
def sensorFieldsOk (enabled scale : Option Nat) : Bool := optFlag enabled && optBetween 64 1023 scale

/-- A clamp of a sensor's coefficients applied (R5). -/
def coeffsClamped (fall rise : Option Nat) : Bool := clamps 1 16 fall || clamps 1 16 rise

/-- The sensor that DEFINE_SENSOR describes, as a new entry (R5). -/
def requestedSensor (r : DefineSensor) : Option Sensor :=
  (SensorKind.ofCode r.kind).map fun k =>
    Sensor.fresh k r.line r.address (flagOr true r.enabled) (r.scale.getD 256) (clampOr 1 16 12 r.fallCoeff)
      (clampOr 1 16 2 r.riseCoeff)

/-- DEFINE_SENSOR (R4 to R7). -/
def serveDefineSensor (r : DefineSensor) (s : State) : Served :=
  match requestedSensor r with
  | none => checked [(s.quiet, .conflict)] s (refused .outOfRange s)
  | some new =>
    let others := s.othersOnLine r.index r.line
    checked [(s.quiet, .conflict), (decide (r.index < Config.nSensors), .outOfRange),
        (decide (r.line < 2) && sensorAddressOk r.line r.address && sensorFieldsOk r.enabled r.scale, .outOfRange),
        (!(others.any fun j => (s.sensor j).any fun y => decide (y.address = r.address))
          && s.kindFree r.index new.kind, .inUse),
        (decide (others.length < Config.maxSensorsPerLine), .tableFull)] s
      (let t := s.storeSensor r.index new
       acceptedAs (coeffsClamped r.fallCoeff r.riseCoeff) (t.sensorReply r.index encSensorDef) t)

/-- The entry that SET_SENSOR leaves: the stored fields with those it carries (R5). -/
def Sensor.withFields (r : SetSensor) (x : Sensor) : Sensor :=
  { x with
    enabled := flagOr x.enabled r.enabled
    scale := r.scale.getD x.scale
    fallCoeff := clampOr 1 16 x.fallCoeff r.fallCoeff
    riseCoeff := clampOr 1 16 x.riseCoeff r.riseCoeff }

/-- SET_SENSOR (R4, R5, R7). -/
def serveSetSensor (r : SetSensor) (s : State) : Served :=
  checked [(s.quiet, .conflict), (decide (r.index < Config.nSensors), .outOfRange), ((s.sensor r.index).isSome, .noSuch),
      (sensorFieldsOk r.enabled r.scale, .outOfRange)] s
    (let t := match s.sensor r.index with
        | some x => s.storeSensor r.index (x.withFields r)
        | none => s
     acceptedAs (coeffsClamped r.fallCoeff r.riseCoeff) (t.sensorReply r.index encSensorDef) t)

/-- DELETE_SENSOR (R8). -/
def serveDeleteSensor (i : Nat) (s : State) : Served :=
  checked [(s.quiet, .conflict), (decide (i < Config.nSensors), .outOfRange), ((s.sensor i).isSome, .noSuch),
      (!s.isControl i && !s.isWindow i, .inUse)] s
    (accepted [] ((s.setSensor i none).discardTxn i))

/-! ### Zones (R9 to R13) -/

/-- A zone's static fields at their defaults (R9). -/
def ZoneDef.defaults (segment : Nat) (band : Band) : ZoneDef :=
  { segment := segment, band := band, controlSensor := none, groups := ⟨none, none, none, none⟩, defaultCurve := 0
    lmin := 100, fallbackLevel := 700, profile := 0, occInput := none, upRate := 8, downRate := 6, deadband := 20
    offDelay := 10, onMargin := 50, enabled := true }

/-- The static fields that a request leaves, over those it starts from; fallback_level is checked against the lmin that the
entry will hold (R9, R12). -/
def ZoneDef.withFields (f : ZoneFields) (d : ZoneDef) : ZoneDef :=
  let lmin := f.lmin.getD d.lmin
  { d with
    controlSensor := refOr d.controlSensor f.controlSensor
    groups := ⟨refOr d.groups.g0 f.group0, refOr d.groups.g1 f.group1, refOr d.groups.g2 f.group2,
      refOr d.groups.g3 f.group3⟩
    defaultCurve := f.defaultCurve.getD d.defaultCurve
    lmin := lmin
    fallbackLevel := liftLevel lmin (f.fallbackLevel.getD d.fallbackLevel)
    profile := f.profile.getD d.profile
    occInput := refOr d.occInput f.occInput
    upRate := clampOr 0 15 d.upRate f.upRate
    downRate := clampOr 0 15 d.downRate f.downRate
    deadband := clampOr 0 200 d.deadband f.deadband
    offDelay := f.offDelay.getD d.offDelay
    onMargin := f.onMargin.getD d.onMargin
    enabled := flagOr d.enabled f.enabled }

/-- A stored field differs from the value given, by a clamp or a raise (R9, R12). -/
def zoneAdjusted (f : ZoneFields) (old new : ZoneDef) : Bool :=
  clamps 0 15 f.upRate || clamps 0 15 f.downRate || clamps 0 200 f.deadband
    || decide (new.fallbackLevel ≠ f.fallbackLevel.getD old.fallbackLevel)

/-- The ranges of a zone's optional fields, after the clamps they allow (R9). -/
def zoneFieldsOk (f : ZoneFields) : Bool :=
  optRef Config.nSensors f.controlSensor && optRef 16 f.group0 && optRef 16 f.group1 && optRef 16 f.group2
    && optRef 16 f.group3 && optBetween 0 3 f.defaultCurve && optBetween 1 500 f.lmin && optBetween 0 1000 f.fallbackLevel
    && optBetween 0 3 f.profile && optRef Config.nOcc f.occInput && optBetween 0 60 f.offDelay
    && optBetween 0 500 f.onMargin && optFlag f.enabled

/-- The sensor that a control_sensor field names. -/
def namedSensor (o : Option Nat) : Option Nat := o.bind refOf

/-- No other zone holds a group that the request carries, on the same line (R10). -/
def State.groupsFree (s : State) (z : Nat) (f : ZoneFields) : Bool :=
  (([f.group0, f.group1, f.group2, f.group3].zipIdx).all fun (p : Option Nat × Nat) =>
    (p.1.bind refOf).all fun g =>
      ((s.zonesWhere fun x => decide (x.cfg.groups.on p.2 = some g)).filter fun y => y != z).isEmpty)

/-- Another zone has the segment and band (R10). -/
def State.bandTaken (s : State) (z segment : Nat) (band : Band) : Bool :=
  ((s.zonesWhere fun x => decide (x.cfg.segment = segment) && decide (x.cfg.band = band)).any fun y => y != z)

/-- The checks of order 5 and 6 on a control sensor (R4, R10). -/
def State.controlChecks (s : State) (f : ZoneFields) : List (Bool × Result) :=
  [((namedSensor f.controlSensor).all fun i => (s.sensor i).isSome, .noSuch),
   ((namedSensor f.controlSensor).all fun i => (s.sensor i).all fun x => decide (x.kind = .ceiling), .outOfRange)]

/-- A segment's shade group is MOVING or SETTLING (R11, R144). -/
def State.shading (s : State) (seg : Nat) : Bool :=
  decide (s.shadeState seg = .moving) || decide (s.shadeState seg = .settling)

/-- A zone's record as a new zone's, before its occupancy is derived and its state resolved (R11, R89). -/
def Zone.fresh (d : ZoneDef) (shade : Bool) : Zone :=
  let l := if d.enabled then d.fallbackLevel else 0
  { cfg := d, state := .disabled, holdShade := shade, holdCal := false, level := l, target := l, setpoint := 0
    occupancy := .occupied, vacancy := none, fallbackSource := .none, fallbackReason := .noSensor, underlit := false
    daylitOff := false, outputLost := false, belowMinSince := none, overrideLevel := 0, overrideExpiry := none
    overrideActive := false, lastEval := none, learned := Learned.empty, rem := ⟨0, 0, 0, 0, none⟩ }

/-- A new zone is stored, derived and resolved (R11). -/
def State.storeNewZone (z : Nat) (d : ZoneDef) (s : State) : State :=
  (((s.setZone z (some (Zone.fresh d (s.shading d.segment)))).deriveOccupancy z).resolveHeld z).handLevel z

/-- The record's part of a redefinition: the static fields, what a zone takes that it disables or enables (R86), the raises
of R12, the ratio and the accumulator (R11, R12). -/
def Zone.redefine (d : ZoneDef) (shade : Bool) (x : Zone) : Zone :=
  let raised := decide (x.cfg.lmin < d.lmin)
  let moved := decide (x.cfg.segment ≠ d.segment)
  let control := decide (x.cfg.controlSensor ≠ d.controlSensor)
  let m := if moved || control then x.learned.forgetRatio else x.learned
  { x with
    cfg := d
    level :=
      if !d.enabled then 0
      else if !x.cfg.enabled then d.fallbackLevel
      else if raised then liftLevel d.lmin x.level
      else x.level
    target := if !x.cfg.enabled && d.enabled then d.fallbackLevel else x.target
    lastEval := if !x.cfg.enabled && d.enabled then none else x.lastEval
    overrideLevel := if raised && x.overrideActive then liftLevel d.lmin x.overrideLevel else x.overrideLevel
    holdShade := if moved then shade else x.holdShade
    learned := if control then m.clearAcc else m }

/-- The drivers of a zone on a line whose group changed are marked for setup, and lose trim_pending where the line is
CONGESTED (R11). -/
def State.regroupLine (z l : Nat) (s : State) : State :=
  let drivers := s.gearWhere fun g => g.drives z && decide (g.cfg.line = l)
  let s := if (s.gearLine l).congested then
      forEach drivers (fun i s => s.modGear i fun g => { g with trimPending := false }) s else s
  (forEach drivers State.markSetup s).tendLine l

/-- The lines on which a zone's group changes (R11). -/
def groupChanges (old new : ZoneDef) : List Nat :=
  indicesWhere Config.nGearLines fun l => decide (old.groups.on l ≠ new.groups.on l)

/-- A redefinition of a zone, with each changed field handed to the block that depends on it (R11, R12). Where one request changes a
line group and the zone's level, the regrouped drivers are marked and the dirty set is served before the level is handed, so that
on a CONGESTED line they are not ready for the group's frame: a DESIGN CHOICE, unsafe (log 61). -/
def State.storeOldZone (z : Nat) (x : Zone) (d : ZoneDef) (s : State) : State :=
  let s := s.modZone z (Zone.redefine d (s.shading d.segment))
  let s := if x.cfg.occInput ≠ d.occInput then s.deriveOccupancy z else s
  let s := forEach (groupChanges x.cfg d) (State.regroupLine z) s
  if x.cfg.enabled ≠ d.enabled then s.resolveAndHand z
  else
    (if x.cfg.controlSensor ≠ d.controlSensor ∨ x.cfg.segment ≠ d.segment then s.resolveHeld z else s).handIfChanged z
      x.level

/-- A zone's definition is stored (R11). -/
def State.storeZone (z : Nat) (d : ZoneDef) (s : State) : State :=
  match s.zone z with
  | none => s.storeNewZone z d
  | some x => s.storeOldZone z x d

/-- The reply of a zone's definition. -/
def State.zoneReply (s : State) (z : Nat) : List Byte := (s.zone z).elim [] fun x => encZoneDef x.cfg

/-- DEFINE_ZONE (R4, R9 to R12). -/
def serveDefineZone (r : DefineZone) (s : State) : Served :=
  match Band.ofCode r.band with
  | none => checked [(s.quiet, .conflict)] s (refused .outOfRange s)
  | some band =>
    let base := ZoneDef.defaults r.segment band
    let d := base.withFields r.fields
    checked ([(s.quiet, .conflict), (decide (r.index < Config.nZones), .outOfRange),
        (decide (r.segment < Config.nSegments) && zoneFieldsOk r.fields, .outOfRange)] ++ s.controlChecks r.fields
        ++ [(!s.bandTaken r.index r.segment band, .inUse), (s.groupsFree r.index r.fields, .conflict)]) s
      (let t := s.storeZone r.index d
       acceptedAs (zoneAdjusted r.fields base d) (t.zoneReply r.index) t)

/-- SET_ZONE (R4, R9 to R12). -/
def serveSetZone (r : SetZone) (s : State) : Served :=
  checked ([(s.quiet, .conflict), (decide (r.index < Config.nZones), .outOfRange), ((s.zone r.index).isSome, .noSuch),
      (zoneFieldsOk r.fields, .outOfRange)] ++ s.controlChecks r.fields ++ [(s.groupsFree r.index r.fields, .conflict)]) s
    (match s.zone r.index with
      | none => refused .noSuch s
      | some x =>
        let d := x.cfg.withFields r.fields
        let t := s.storeZone r.index d
        acceptedAs (zoneAdjusted r.fields x.cfg d) (t.zoneReply r.index) t)

/-- An accepted DELETE_ZONE (R13, R91, R172). -/
def State.deleteZone (z : Nat) (s : State) : State :=
  ((((s.accrueOverride z none).setZone z none).removeFromLists z).setCalResult z CalResult.empty)

/-- DELETE_ZONE (R13). -/
def serveDeleteZone (z : Nat) (s : State) : Served :=
  checked [(s.quiet, .conflict), (decide (z < Config.nZones), .outOfRange), ((s.zone z).isSome, .noSuch),
      ((s.gearWhere (Gear.drives z)).isEmpty, .inUse)] s
    (accepted [] (s.deleteZone z))

/-! ### Segments (R14, R15) -/

/-- The static fields that DEFINE_SEGMENT leaves (R14). -/
def requestedSegment (r : DefineSegment) : SegmentDef :=
  let d := SegmentDef.factory
  { windowSensor := namedSensor r.windowSensor
    glareThreshold := r.glareThreshold.getD d.glareThreshold
    releaseThreshold := r.releaseThreshold.getD d.releaseThreshold
    glareDelay := r.glareDelay.getD d.glareDelay
    releaseDelay := r.releaseDelay.getD d.releaseDelay
    glarePosition := r.glarePosition.getD d.glarePosition
    openPosition := r.openPosition.getD d.openPosition
    settle := r.settle.getD d.settle
    travelTimeout := r.travelTimeout.getD d.travelTimeout
    retryLimit := r.retryLimit.getD d.retryLimit }

/-- A segment's static fields lie in their ranges (R14). -/
def SegmentDef.inRange (d : SegmentDef) : Bool :=
  d.windowSensor.all (fun i => decide (i < Config.nSensors)) && between 1000 60000 d.glareThreshold
    && between 1 (d.glareThreshold - 1) d.releaseThreshold && between 5 600 d.glareDelay && between 60 3600 d.releaseDelay
    && between 0 100 d.glarePosition && between 0 100 d.openPosition && between 0 120 d.settle
    && between 5 255 d.travelTimeout && between 0 5 d.retryLimit

/-- An accepted DEFINE_SEGMENT (R15). -/
def State.storeSegment (seg : Nat) (d : SegmentDef) (s : State) : State :=
  if (s.segment seg).cfg.windowSensor = d.windowSensor then s.modSegment seg fun g => { g with cfg := d }
  else
    forEach (s.zonesWhere fun x => decide (x.cfg.segment = seg)) (fun z s => s.modLearned z Learned.forgetRatio)
      (s.modSegment seg fun g => { g.stopGlare with cfg := d, phase := .clear })

/-- DEFINE_SEGMENT (R14, R15). -/
def serveDefineSegment (r : DefineSegment) (s : State) : Served :=
  let d := requestedSegment r
  checked [(s.quiet, .conflict), (decide (r.index < Config.nSegments), .outOfRange), (d.inRange, .outOfRange),
      (d.windowSensor.all fun i => (s.sensor i).isSome, .noSuch),
      (d.windowSensor.all fun i => (s.sensor i).all fun x => decide (x.kind = .window), .outOfRange)] s
    (accepted (encSegmentDef d) (s.storeSegment r.index d))

/-! ### Gear (R16 to R18) -/

/-- A gear's record as a new entry's (R17, R138). -/
def Gear.fresh (d : GearDef) : Gear :=
  { cfg := d, state := .unknown, lampFail := false, expected := none, confirmed := none, dirty := .clear
    trimPending := false, position := none, atLimit := false, unreported := false, unchanged := 0, retriesUsed := 0
    shadeFaulted := false }

/-- The static fields that DEFINE_GEAR describes (R16). -/
def requestedGear (r : DefineGear) : Option GearDef :=
  (GearRole.ofCode r.kind r.owner).map fun role =>
    { line := r.line, address := r.address, role := role, curve := r.curve.getD 0, trim := r.trim.getD 256
      minValue := r.minValue.getD 1, lossLevel := r.lossLevel.getD 254 }

/-- The zone or segment of a gear lies in its table. -/
def GearRole.inRange : GearRole → Bool
  | .driver z => decide (z < Config.nZones)
  | .shade g => decide (g < Config.nSegments)

/-- A gear's static fields lie in their ranges (R16). -/
def GearDef.inRange (d : GearDef) : Bool :=
  decide (d.line < Config.nGearLines) && between 0 47 d.address && d.role.inRange && between 0 3 d.curve
    && between 128 256 d.trim && between 1 254 d.minValue && between 0 254 d.lossLevel

/-- A queue whose entries for a gear have left it, but for one with an attempt under way, which becomes an orphan (R17, R18;
log 42). -/
def abandonQueue (i : Nat) (q : List Entry) : List Entry :=
  (q.filter fun e => decide (e.target ≠ .gear i) || e.attempting).map fun e =>
    if e.target = .gear i then { e with orphan := true } else e

/-- The entries addressed to a gear leave its line's queue, and one with an attempt under way becomes an orphan (R17, R18). -/
def State.abandonEntries (l i : Nat) (s : State) : State :=
  s.modGearLine l fun x => { x with queue := abandonQueue i x.queue }

/-- The segment of a SHADE gear. -/
def Gear.segment? (g : Gear) : Option Nat :=
  match g.cfg.role with
  | .shade seg => some seg
  | .driver _ => none

/-- The runtime fields of a gear whose line and address are kept: a change of kind resets the shade fields, and a move to
another segment the SCU's, where `moving` says that the gear joins a MOVING group, whose arrival test waits for its first
position answer (R17, R145; log 48). -/
def Gear.rekind (d : GearDef) (moving : Bool) (g : Gear) : Gear :=
  let new := { g with cfg := d }
  if g.isShade ≠ new.isShade then
    { new with
      position := none, atLimit := false, unreported := false, unchanged := 0, retriesUsed := 0, shadeFaulted := false }
  else if g.segment? ≠ new.segment? then
    { new with unreported := moving, unchanged := 0, retriesUsed := 0, shadeFaulted := false }
  else new

/-- The group that a gear with these static fields belongs to is MOVING. -/
def State.joinsMoving (d : GearDef) (s : State) : Bool :=
  match d.role with
  | .driver _ => false
  | .shade seg => s.moving seg

/-- OUTPUT_LOST of the zones that a gear left and joined, and the group that it left (R17, R118, R145). -/
def State.regroupGear (old : Option Gear) (new : Option Gear) (s : State) : State :=
  let s := match old with
    | some g => s.refreshGearOutput g
    | none => s
  let s := match new with
    | some g => s.refreshGearOutput g
    | none => s
  match old.bind Gear.segment? with
  | some seg => if new.bind Gear.segment? = some seg then s else s.gearLeftGroup seg
  | none => s

/-- A gear with the identity it had: its runtime kept, and the mark that its changes ask for (R17). -/
def State.storeSameGear (i : Nat) (g : Gear) (d : GearDef) (s : State) : State :=
  let new := g.rekind d (s.joinsMoving d)
  let s := (s.setGear i (some new)).regroupGear (some g) (some new)
  if g.cfg.role ≠ d.role ∨ g.cfg.lossLevel ≠ d.lossLevel then (s.markSetup i).tendLine d.line
  else if g.cfg ≠ d then (s.markValue i).tendLine d.line
  else s

/-- An accepted DEFINE_GEAR (R17). -/
def State.storeGear (i : Nat) (d : GearDef) (s : State) : State :=
  let new := Gear.fresh d
  match s.gearAt i with
  | none => (((s.setGear i (some new)).regroupGear none (some new)).markSetup i).tendLine d.line
  | some g =>
    if g.cfg.line = d.line ∧ g.cfg.address = d.address then s.storeSameGear i g d
    else
      let s := (s.abandonEntries g.cfg.line i).setGear i (some new)
      (((s.regroupGear (some g) (some new)).markSetup i).tendLine g.cfg.line).tendLine d.line

/-- Another gear has the line and address (R16). -/
def State.gearAddressTaken (s : State) (i : Nat) (d : GearDef) : Bool :=
  (s.gearWhere fun g => decide (g.cfg.line = d.line) && decide (g.cfg.address = d.address)).any fun j => j != i

/-- The capacity of a segment's shade group, the entry itself left out (R16). -/
def State.shadeRoom (s : State) (i : Nat) (d : GearDef) : Bool :=
  match d.role with
  | .driver _ => true
  | .shade seg => decide (((s.groupGear seg).filter fun j => j != i).length < Config.maxShadesPerSegment)

/-- A DRIVER names a defined zone (R16). -/
def State.gearZoneDefined (s : State) (d : GearDef) : Bool :=
  match d.role with
  | .driver z => (s.zone z).isSome
  | .shade _ => true

/-- DEFINE_GEAR (R4, R16, R17). -/
def serveDefineGear (r : DefineGear) (s : State) : Served :=
  match requestedGear r with
  | none => checked [(s.quiet, .conflict)] s (refused .outOfRange s)
  | some d =>
    checked [(s.quiet, .conflict), (decide (r.index < Config.nGear), .outOfRange), (d.inRange, .outOfRange),
        (s.gearZoneDefined d, .noSuch), (!s.gearAddressTaken r.index d, .inUse), (s.shadeRoom r.index d, .tableFull)] s
      (accepted (encGearDef d) (s.storeGear r.index d))

/-- An accepted DELETE_GEAR (R18). -/
def State.deleteGear (i : Nat) (s : State) : State :=
  match s.gearAt i with
  | none => s
  | some g => (((s.abandonEntries g.cfg.line i).setGear i none).regroupGear (some g) none).tendLine g.cfg.line

/-- DELETE_GEAR (R18). -/
def serveDeleteGear (i : Nat) (s : State) : Served :=
  checked [(s.quiet, .conflict), (decide (i < Config.nGear), .outOfRange), ((s.gearAt i).isSome, .noSuch)] s
    (accepted [] (s.deleteGear i))

/-! ### Curves (R19) -/

/-- A curve's points are at most 254 and non-decreasing (R19). -/
def curveOk (l : List Nat) : Bool := l.all (between 0 254) && decide (l.Pairwise (· ≤ ·))

/-- One driver of a redefined curve is marked for its value, unless it is trim-pending on a CONGESTED line (R19). -/
def State.remarkCurve (i : Nat) (s : State) : State :=
  match s.gearAt i with
  | none => s
  | some g => if (s.gearLine g.cfg.line).congested && g.trimPending then s else s.markValue i

/-- An accepted DEFINE_CURVE (R19). -/
def State.storeCurve (c : Nat) (points : List Nat) (s : State) : State :=
  let s := { s with curves := s.curves.set c points }
  (forEach (s.gearWhere fun g => g.isDriver && decide (g.cfg.curve = c)) State.remarkCurve s).tendLines

/-- DEFINE_CURVE (R4, R19). -/
def serveDefineCurve (c : Nat) (points : List Nat) (s : State) : Served :=
  checked [(s.quiet, .conflict), (decide (c < Config.nCurves), .outOfRange), (curveOk points, .outOfRange)] s
    (accepted (encCurve points) (s.storeCurve c points))

/-! ### Reads (R20) -/

/-- READ_SENSOR_DEF (R20). -/
def serveReadSensorDef (i : Nat) (s : State) : Served :=
  checked [(decide (i < Config.nSensors), .outOfRange), ((s.sensor i).isSome, .noSuch)] s
    (accepted (s.sensorReply i encSensorDef) s)

/-- READ_ZONE_DEF (R20). -/
def serveReadZoneDef (z : Nat) (s : State) : Served :=
  checked [(decide (z < Config.nZones), .outOfRange), ((s.zone z).isSome, .noSuch)] s (accepted (s.zoneReply z) s)

/-- READ_SEGMENT_DEF (R20). -/
def serveReadSegmentDef (seg : Nat) (s : State) : Served :=
  checked [(decide (seg < Config.nSegments), .outOfRange)] s (accepted (encSegmentDef (s.segment seg).cfg) s)

/-- READ_GEAR_DEF (R20). -/
def serveReadGearDef (i : Nat) (s : State) : Served :=
  checked [(decide (i < Config.nGear), .outOfRange), ((s.gearAt i).isSome, .noSuch)] s
    (accepted ((s.gearAt i).elim [] fun g => encGearDef g.cfg) s)

/-- READ_CURVE (R20). -/
def serveReadCurve (c : Nat) (s : State) : Served :=
  checked [(decide (c < Config.nCurves), .outOfRange)] s (accepted (encCurve (s.curve c)) s)

/-! ### The request commands -/

/-- DEFINE_SENSOR. -/
def execDefineSensor (tag : Byte) (r : DefineSensor) (s : State) : Answer :=
  .next (reply .direct Kind.defineSensor.code tag (whenRunning (serveDefineSensor r) s))
/-- SET_SENSOR. -/
def execSetSensor (tag : Byte) (r : SetSensor) (s : State) : Answer :=
  .next (reply .direct Kind.setSensor.code tag (whenRunning (serveSetSensor r) s))
/-- DELETE_SENSOR. -/
def execDeleteSensor (tag : Byte) (index : Nat) (s : State) : Answer :=
  .next (reply .direct Kind.deleteSensor.code tag (whenRunning (serveDeleteSensor index) s))
/-- DEFINE_ZONE. -/
def execDefineZone (tag : Byte) (r : DefineZone) (s : State) : Answer :=
  .next (reply .direct Kind.defineZone.code tag (whenRunning (serveDefineZone r) s))
/-- SET_ZONE. -/
def execSetZone (tag : Byte) (r : SetZone) (s : State) : Answer :=
  .next (reply .direct Kind.setZone.code tag (whenRunning (serveSetZone r) s))
/-- DELETE_ZONE. -/
def execDeleteZone (tag : Byte) (index : Nat) (s : State) : Answer :=
  .next (reply .direct Kind.deleteZone.code tag (whenRunning (serveDeleteZone index) s))
/-- DEFINE_SEGMENT. -/
def execDefineSegment (tag : Byte) (r : DefineSegment) (s : State) : Answer :=
  .next (reply .direct Kind.defineSegment.code tag (whenRunning (serveDefineSegment r) s))
/-- DEFINE_GEAR. -/
def execDefineGear (tag : Byte) (r : DefineGear) (s : State) : Answer :=
  .next (reply .direct Kind.defineGear.code tag (whenRunning (serveDefineGear r) s))
/-- DELETE_GEAR. -/
def execDeleteGear (tag : Byte) (index : Nat) (s : State) : Answer :=
  .next (reply .direct Kind.deleteGear.code tag (whenRunning (serveDeleteGear index) s))
/-- DEFINE_CURVE; one that does not carry nine points has a wrong length, which is tested before the device state (R180, R183). -/
def execDefineCurve (tag : Byte) (index : Nat) (points : List Nat) (s : State) : Answer :=
  .next (reply .direct Kind.defineCurve.code tag
    (if points.length = 9 then whenRunning (serveDefineCurve index points) s else refused .badLength s))
/-- READ_SENSOR_DEF. -/
def execReadSensorDef (tag : Byte) (index : Nat) (s : State) : Answer :=
  .next (reply .direct Kind.readSensorDef.code tag (whenRunning (serveReadSensorDef index) s))
/-- READ_ZONE_DEF. -/
def execReadZoneDef (tag : Byte) (index : Nat) (s : State) : Answer :=
  .next (reply .direct Kind.readZoneDef.code tag (whenRunning (serveReadZoneDef index) s))
/-- READ_SEGMENT_DEF. -/
def execReadSegmentDef (tag : Byte) (index : Nat) (s : State) : Answer :=
  .next (reply .direct Kind.readSegmentDef.code tag (whenRunning (serveReadSegmentDef index) s))
/-- READ_GEAR_DEF. -/
def execReadGearDef (tag : Byte) (index : Nat) (s : State) : Answer :=
  .next (reply .direct Kind.readGearDef.code tag (whenRunning (serveReadGearDef index) s))
/-- READ_CURVE. -/
def execReadCurve (tag : Byte) (index : Nat) (s : State) : Answer :=
  .next (reply .direct Kind.readCurve.code tag (whenRunning (serveReadCurve index) s))

end Sys2Proof.Machine
end

