-- ==== Sys2Proof/Machine/Reader.lean ====
section
/-! DEFINITION. Reading encoded fields (R201): the fields of request payloads and of image records, as raw numbers. -/

namespace Sys2Proof.Machine

/-- A reader takes bytes from the front, or fails. -/
abbrev Reader (α : Type) := StateT (List Byte) Option α

/-- A one-byte value. -/
def read8 : Reader Nat := fun l =>
  match l with
  | b :: rest => some (b.toNat, rest)
  | [] => none

/-- A two-byte value. -/
def read16 : Reader Nat := fun l =>
  match l with
  | a :: b :: rest => some (256 * a.toNat + b.toNat, rest)
  | _ => none

/-- A field that stands only where the condition holds. -/
def readIf {α : Type} (present : Bool) (r : Reader α) : Reader (Option α) := fun l =>
  if present then (r l).map fun p => (some p.1, p.2) else some (none, l)

/-- `n` things, one after the other. -/
def readN {α : Type} (n : Nat) (r : Reader α) : Reader (List α) := fun l =>
  match n with
  | 0 => some ([], l)
  | k + 1 =>
    match r l with
    | none => none
    | some (x, rest) => (readN k r rest).map fun p => (x :: p.1, p.2)

/-- A list: an entry count, then the entries. -/
def readList {α : Type} (r : Reader α) : Reader (List α) := fun l =>
  match l with
  | b :: rest => readN b.toNat r rest
  | [] => none

/-- Records until the bytes run out; `fuel` bounds their number. -/
def readAll {α : Type} (r : Reader α) : Nat → List Byte → Option (List α)
  | _, [] => some []
  | 0, _ :: _ => none
  | fuel + 1, l =>
    match r l with
    | none => none
    | some (x, rest) => (readAll r fuel rest).map fun xs => x :: xs

/-- A reader that must take every byte. -/
def readWhole {α : Type} (r : Reader α) (l : List Byte) : Option α :=
  match r l with
  | some (x, []) => some x
  | _ => none

/-- The presence bit `k` of a presence byte, least significant first (R201; log 56). -/
def bit (presence k : Nat) : Bool := Nat.testBit presence k

/-! ### The fields of the model's records, where `present k` says whether optional field `k` stands -/

/-- DEFINE_SENSOR's fields after the index and the key fields are read with them (R5). -/
def readSensorFields (keys : Reader (Nat × Nat × Nat × Nat)) (presence : Reader (Nat → Bool)) : Reader DefineSensor := do
  let (index, kind, line, address) ← keys
  let present ← presence
  let enabled ← readIf (present 0) read8
  let scale ← readIf (present 1) read16
  let fall ← readIf (present 2) read8
  let rise ← readIf (present 3) read8
  return { index := index, kind := kind, line := line, address := address, enabled := enabled, scale := scale
           fallCoeff := fall, riseCoeff := rise }

/-- The four key fields of DEFINE_SENSOR. -/
def readSensorKeys : Reader (Nat × Nat × Nat × Nat) := do
  let index ← read8
  let kind ← read8
  let line ← read8
  let address ← read8
  return (index, kind, line, address)

/-- The optional fields of DEFINE_ZONE and SET_ZONE, in catalogue order (R9). -/
def readZoneFields (present : Nat → Bool) : Reader ZoneFields := do
  let control ← readIf (present 0) read8
  let g0 ← readIf (present 1) read8
  let g1 ← readIf (present 2) read8
  let g2 ← readIf (present 3) read8
  let g3 ← readIf (present 4) read8
  let curve ← readIf (present 5) read8
  let lmin ← readIf (present 6) read16
  let fallback ← readIf (present 7) read16
  let profile ← readIf (present 8) read8
  let occ ← readIf (present 9) read8
  let up ← readIf (present 10) read8
  let down ← readIf (present 11) read8
  let deadband ← readIf (present 12) read16
  let offDelay ← readIf (present 13) read16
  let onMargin ← readIf (present 14) read16
  let enabled ← readIf (present 15) read8
  return { controlSensor := control, group0 := g0, group1 := g1, group2 := g2, group3 := g3, defaultCurve := curve
           lmin := lmin, fallbackLevel := fallback, profile := profile, occInput := occ, upRate := up, downRate := down
           deadband := deadband, offDelay := offDelay, onMargin := onMargin, enabled := enabled }

/-- DEFINE_SEGMENT's fields (R14). -/
def readSegmentFields (index : Nat) (present : Nat → Bool) : Reader DefineSegment := do
  let window ← readIf (present 0) read8
  let glare ← readIf (present 1) read16
  let release ← readIf (present 2) read16
  let glareDelay ← readIf (present 3) read16
  let releaseDelay ← readIf (present 4) read16
  let glarePos ← readIf (present 5) read8
  let openPos ← readIf (present 6) read8
  let settle ← readIf (present 7) read16
  let travel ← readIf (present 8) read16
  let retry ← readIf (present 9) read8
  return { index := index, windowSensor := window, glareThreshold := glare, releaseThreshold := release
           glareDelay := glareDelay, releaseDelay := releaseDelay, glarePosition := glarePos, openPosition := openPos
           settle := settle, travelTimeout := travel, retryLimit := retry }

/-- DEFINE_GEAR's key fields with no optional field yet (R16). -/
def readGearKeys : Reader DefineGear := do
  let index ← read8
  let line ← read8
  let address ← read8
  let kind ← read8
  let owner ← read8
  return { index := index, line := line, address := address, kind := kind, owner := owner }

/-- DEFINE_GEAR's optional fields (R16). -/
def readGearFields (g : DefineGear) (present : Nat → Bool) : Reader DefineGear := do
  let curve ← readIf (present 0) read8
  let trim ← readIf (present 1) read16
  let minValue ← readIf (present 2) read8
  let loss ← readIf (present 3) read8
  return { g with curve := curve, trim := trim, minValue := minValue, lossLevel := loss }

/-- SET_SENSOR_LINE's fields (R22). -/
def readSensorLineFields (line : Nat) (present : Nat → Bool) : Reader SetSensorLine := do
  let speed ← readIf (present 0) read8
  let poll ← readIf (present 1) read16
  let miss ← readIf (present 2) read8
  return { line := line, speed := speed, pollInterval := poll, missLimit := miss }

/-- SET_GEAR_LINE's fields (R111). -/
def readGearLineFields (line : Nat) (present : Nat → Bool) : Reader SetGearLine := do
  let rate ← readIf (present 0) read8
  let limit ← readIf (present 1) read8
  let high ← readIf (present 2) read8
  let low ← readIf (present 3) read8
  let audit ← readIf (present 4) read16
  return { line := line, rateCode := rate, attemptLimit := limit, highWatermark := high, lowWatermark := low
           auditInterval := audit }

/-- DEFINE_PERIOD's fields (R161). -/
def readPeriod : Reader DefinePeriod := do
  let index ← read8
  let profile ← read8
  let days ← read8
  let startMin ← read16
  let endMin ← read16
  let occupied ← read16
  let unoccupied ← read16
  return { index := index, profile := profile, days := days, startMin := startMin, endMin := endMin
           occupiedSp := occupied, unoccupiedSp := unoccupied }

/-- An entry of a contribution list (R40). -/
def readContribEntry : Reader (Nat × Nat) := do
  let zone ← read8
  let gain ← read16
  return (zone, gain)

end Sys2Proof.Machine
end

