-- ==== Sys2Proof/Machine/Image.lean ====
section
/-! DEFINITION. The configuration image (R191, R193, R206, R207): the body composed from the state, its header and pages, and the
decoding and content checks of a body. -/

namespace Sys2Proof.Machine

/-! ### Composing (R206) -/

/-- A section: its code, its length and its records. -/
def imageSection (code : Nat) (records : List Byte) : List Byte := u8 code ++ u16 records.length ++ records

/-- A sensor's image record: its static fields, its dark offset and its list. -/
def imgSensor (i : Nat) (x : Sensor) : List Byte := u8 i ++ encSensorDef x ++ u16 x.darkOffset ++ encContrib x.contrib

/-- A zone's image record: its static fields, ρ, n and the bins. -/
def imgZone (z : Nat) (x : Zone) : List Byte :=
  u8 z ++ encZoneDef x.cfg ++ u16 x.learned.rho ++ u8 x.learned.learnCount ++ x.learned.bins.flatMap encBin

/-- The records of a table's defined entries, in ascending index. -/
def records {α : Type} (l : List (Option α)) (enc : Nat → α → List Byte) : List Byte :=
  l.zipIdx.flatMap fun e => e.1.elim [] (enc e.2)

/-- The records of a table without undefined entries. -/
def recordsAll {α : Type} (l : List α) (enc : α → List Byte) : List Byte := l.zipIdx.flatMap fun e => u8 e.2 ++ enc e.1

/-- The image body of a state, in the sections of R191 (R196, R206). -/
def State.imageBody (s : State) : List Byte :=
  imageSection 1 (records s.sensors imgSensor)
    ++ imageSection 2 (records s.zones imgZone)
    ++ imageSection 3 (recordsAll s.segments fun g => encSegmentDef g.cfg)
    ++ imageSection 4 (records s.gear fun i g => u8 i ++ encGearDef g.cfg)
    ++ imageSection 5 (recordsAll s.curves encCurve)
    ++ imageSection 6 (recordsAll s.sensorLines encSensorLine)
    ++ imageSection 7 (recordsAll s.gearLines fun x => encGearLine x ++ flag8 x.enabled)
    ++ imageSection 8 (u16 s.shadeQuery)
    ++ imageSection 9 (recordsAll s.profiles encProfile ++ records s.periods fun i p => u8 i ++ encPeriod p)
    ++ imageSection 10 (recordsAll s.occ fun o => u16 o.delay)

/-- The marker of a written slot (R206). -/
def imageMarker : List Byte := [0x4D, 0x4A, 0x49, 0x47]

/-- A header page (R206). -/
def headerPage (generation : Nat) (body : List Byte) : List Byte :=
  imageMarker ++ u8 Config.familyCode ++ u8 Config.partCode ++ u8 Config.imageVersion ++ u32 generation
    ++ u16 body.length ++ u16 (crc16 body).toNat ++ List.replicate 49 0

/-- The bytes as pages of 64, the last padded with 0x00 (R206); `fuel` bounds their number. -/
def pagesOf : Nat → List Byte → List (List Byte)
  | 0, _ => []
  | _, [] => []
  | fuel + 1, b :: l =>
    let page := (b :: l).take Config.pageBytes
    (page ++ List.replicate (Config.pageBytes - page.length) 0) :: pagesOf fuel ((b :: l).drop Config.pageBytes)

/-! ### The header of a slot (R207) -/

/-- The bytes `start` to `start + n − 1` as one number. -/
def fieldAt (l : List Byte) (start n : Nat) : Nat := beNat ((l.drop start).take n)

/-- The classification of a readable header page (R207). -/
def classifyHeader (page : List Byte) : SlotFinding :=
  let generation := fieldAt page 7 4
  let length := fieldAt page 11 2
  if page.take 4 ≠ imageMarker then .blank
  else if fieldAt page 4 1 = Config.familyCode ∧ fieldAt page 5 1 = Config.partCode
      ∧ fieldAt page 6 1 = Config.imageVersion ∧ generation ≠ 0 ∧ 1 ≤ length ∧ length ≤ Config.maxBody then
    .candidate generation length (fieldAt page 13 2)
  else .damaged

/-- Generation `g` is newer than `h` (R191). -/
def newerGen (g h : Nat) : Bool :=
  let d := (g + 2 ^ 32 - h % 2 ^ 32) % 2 ^ 32
  decide (1 ≤ d) && decide (d ≤ 2 ^ 31 - 1)

/-! ### Decoding a body (R206, R207) -/

/-- A zone's image record: the fields as a request would carry them, and what was learned. -/
structure ZoneImage where
  fields : DefineZone
  rho : Nat
  learnCount : Nat
  bins : List (Option Nat)
  deriving DecidableEq, Repr

/-- A sensor's image record. -/
structure SensorImage where
  fields : DefineSensor
  dark : Nat
  entries : List (Nat × Nat)
  deriving DecidableEq, Repr

/-- A body as it decodes, before the content checks. -/
structure RawImage where
  sensors : List SensorImage
  zones : List ZoneImage
  segments : List DefineSegment
  gear : List DefineGear
  curves : List (Nat × List Nat)
  sensorLines : List SetSensorLine
  gearLines : List (SetGearLine × Nat)
  shadeQuery : Nat
  profiles : List (Nat × Nat × Nat)
  periods : List DefinePeriod
  occ : List (Nat × Nat)
  deriving DecidableEq, Repr

/-- Every optional field stands in an image record. -/
def allPresent : Nat → Bool := fun _ => true

/-- A profile bin: a marker of 0x00 or 0x01, and the value (R206, R207). A marker of 0x00 is an empty bin whatever its value
bytes hold (log 55). -/
def readBin : Reader (Option Nat) := fun l =>
  match read8 l with
  | some (m, rest) =>
    match read16 rest with
    | some (v, rest) => if m = 0 then some (none, rest) else if m = 1 then some (some v, rest) else none
    | none => none
  | none => none

/-- A sensor's record. -/
def readSensorImage : Reader SensorImage := do
  let f ← readSensorFields readSensorKeys (pure allPresent)
  let dark ← read16
  let entries ← readList readContribEntry
  return { fields := f, dark := dark, entries := entries }

/-- A zone's record. -/
def readZoneImage : Reader ZoneImage := do
  let index ← read8
  let segment ← read8
  let band ← read8
  let f ← readZoneFields allPresent
  let rho ← read16
  let n ← read8
  let bins ← readN Config.nBins readBin
  return { fields := { index := index, segment := segment, band := band, fields := f }, rho := rho, learnCount := n
           bins := bins }

/-- A segment's record. -/
def readSegmentImage : Reader DefineSegment := do
  let index ← read8
  readSegmentFields index allPresent

/-- A gear's record. -/
def readGearImage : Reader DefineGear := do
  let g ← readGearKeys
  readGearFields g allPresent

/-- A curve's record. -/
def readCurveImage : Reader (Nat × List Nat) := do
  let index ← read8
  let points ← readN 9 read8
  return (index, points)

/-- A sensor line's record. -/
def readSensorLineImage : Reader SetSensorLine := do
  let line ← read8
  readSensorLineFields line allPresent

/-- A gear line's record: the fields of SET_GEAR_LINE and enabled. -/
def readGearLineImage : Reader (SetGearLine × Nat) := do
  let line ← read8
  let f ← readGearLineFields line allPresent
  let enabled ← read8
  return (f, enabled)

/-- A profile's record. -/
def readProfileImage : Reader (Nat × Nat × Nat) := do
  let index ← read8
  let occupied ← read16
  let unoccupied ← read16
  return (index, occupied, unoccupied)

/-- An occupancy input's record. -/
def readOccImage : Reader (Nat × Nat) := do
  let index ← read8
  let delay ← read16
  return (index, delay)

/-- The bytes of the next section, whose code must be `code` (R207). -/
def readSection (code : Nat) : Reader (List Byte) := fun l =>
  match l with
  | c :: hi :: lo :: rest =>
    let n := 256 * hi.toNat + lo.toNat
    if c.toNat = code ∧ n ≤ rest.length then some (rest.take n, rest.drop n) else none
  | _ => none

/-- The records of a section, which must match its length (R207). -/
def readRecords {α : Type} (code : Nat) (r : Reader α) : Reader (List α) := fun l =>
  match readSection code l with
  | some (bytes, rest) => (readAll r bytes.length bytes).map fun xs => (xs, rest)
  | none => none

/-- The schedule section: the four profiles, then the periods (R206). -/
def readSchedule : Reader (List (Nat × Nat × Nat) × List DefinePeriod) := fun l =>
  match readSection 9 l with
  | some (bytes, rest) =>
    match readN Config.nProfiles readProfileImage bytes with
    | some (ps, more) => (readAll readPeriod more.length more).map fun qs => ((ps, qs), rest)
    | none => none
  | none => none

/-- The shades section: the query interval (log 20). -/
def readShades : Reader Nat := fun l =>
  match readSection 8 l with
  | some (bytes, rest) => (readWhole read16 bytes).map fun n => (n, rest)
  | none => none

/-- A body's ten sections, in the order given, filling the body exactly (R207). -/
def readBody : Reader RawImage := do
  let sensors ← readRecords 1 readSensorImage
  let zones ← readRecords 2 readZoneImage
  let segments ← readRecords 3 readSegmentImage
  let gear ← readRecords 4 readGearImage
  let curves ← readRecords 5 readCurveImage
  let sensorLines ← readRecords 6 readSensorLineImage
  let gearLines ← readRecords 7 readGearLineImage
  let shades ← readShades
  let (profiles, periods) ← readSchedule
  let occ ← readRecords 10 readOccImage
  return { sensors := sensors, zones := zones, segments := segments, gear := gear, curves := curves
           sensorLines := sensorLines, gearLines := gearLines, shadeQuery := shades, profiles := profiles
           periods := periods, occ := occ }

/-! ### The content checks (R193): each record by itself -/

/-- The indices of a section ascend strictly and lie in their table (log 20). -/
def indicesOk (n : Nat) (l : List Nat) : Bool := decide (l.Pairwise (· < ·)) && l.all fun i => decide (i < n)

/-- The indices of a section are all of its table, in order (log 20). -/
def indicesAll (n : Nat) (l : List Nat) : Bool := decide (l = List.range n)

/-- A sensor's record holds values in their stored form, and a list that obeys R40. -/
def SensorImage.ok (x : SensorImage) : Bool :=
  let r := x.fields
  (SensorKind.ofCode r.kind).isSome && decide (r.line < 2) && sensorAddressOk r.line r.address
    && sensorFieldsOk r.enabled r.scale && !coeffsClamped r.fallCoeff r.riseCoeff && decide (x.dark ≤ 255)
    && decide (x.entries.length ≤ Config.maxContrib) && x.entries.all (fun e => between 1 4095 e.2)
    && decide ((x.entries.map Prod.fst).Pairwise (· < ·))

/-- A zone's definition, where its band is one. -/
def zoneDefOf (r : DefineZone) : Option ZoneDef :=
  (Band.ofCode r.band).map fun band => (ZoneDef.defaults r.segment band).withFields r.fields

/-- A zone's record holds values in their stored form. -/
def ZoneImage.ok (x : ZoneImage) : Bool :=
  let r := x.fields
  (Band.ofCode r.band).any (fun band =>
      let base := ZoneDef.defaults r.segment band
      !zoneAdjusted r.fields base (base.withFields r.fields))
    && decide (r.segment < Config.nSegments) && zoneFieldsOk r.fields && decide (x.rho ≤ 1023)
    && decide (x.learnCount ≤ 64)

/-- A gear line's record holds values in their stored form. -/
def gearLineImageOk (r : SetGearLine) (enabled : Nat) : Bool :=
  optBetween 0 7 r.rateCode && optBetween 1 7 r.attemptLimit && optBetween 0 60 r.auditInterval
    && !gearLineAdjusted r (GearLine.factory false) && (flagOf enabled).isSome

/-- A sensor line's record holds values in range. -/
def sensorLineImageOk (r : SetSensorLine) : Bool :=
  (r.speed.all fun v => (Speed.ofCode v).isSome) && optBetween 100 5000 r.pollInterval && optBetween 1 15 r.missLimit

/-- A period's record holds values in their stored form. -/
def periodImageOk (r : DefinePeriod) : Bool :=
  periodInRange r && decide (r.occupiedSp ≤ 5000) && decide (r.unoccupiedSp ≤ 5000)

/-- The content checks of each record by itself. -/
def RawImage.recordsOk (m : RawImage) : Bool :=
  indicesOk Config.nSensors (m.sensors.map fun x => x.fields.index) && m.sensors.all SensorImage.ok
    && indicesOk Config.nZones (m.zones.map fun x => x.fields.index) && m.zones.all ZoneImage.ok
    && indicesAll Config.nSegments (m.segments.map fun x => x.index) && m.segments.all (fun r => (requestedSegment r).inRange)
    && indicesOk Config.nGear (m.gear.map fun x => x.index) && m.gear.all (fun r => (requestedGear r).any GearDef.inRange)
    && indicesAll Config.nCurves (m.curves.map Prod.fst) && m.curves.all (fun c => curveOk c.2)
    && indicesAll 2 (m.sensorLines.map fun x => x.line) && m.sensorLines.all sensorLineImageOk
    && indicesAll Config.nGearLines (m.gearLines.map fun x => x.1.line) && m.gearLines.all (fun x => gearLineImageOk x.1 x.2)
    && between 1 10 m.shadeQuery
    && indicesAll Config.nProfiles (m.profiles.map Prod.fst)
    && m.profiles.all (fun p => decide (p.2.1 ≤ 5000) && decide (p.2.2 ≤ 5000))
    && indicesOk Config.nPeriods (m.periods.map fun x => x.index) && m.periods.all periodImageOk
    && indicesAll Config.nOcc (m.occ.map Prod.fst) && m.occ.all (fun o => between 1 120 o.2)

/-! ### The model of an image (R195) -/

/-- A table filled from records. -/
def tableOf {α : Type} (n : Nat) (l : List (Nat × α)) : List (Option α) :=
  (List.range n).map fun i => (l.find? fun e => e.1 == i).map Prod.snd

/-- The sensor of a record, with its runtime fields at reset (R38, R61). -/
def SensorImage.sensor (x : SensorImage) : Option Sensor :=
  (requestedSensor x.fields).map fun y =>
    { y with darkOffset := x.dark, contrib := x.entries.map fun e => ⟨e.1, e.2⟩ }

/-- The zone of a record, with its runtime fields at reset (R61, R89). -/
def ZoneImage.zone (x : ZoneImage) : Option Zone :=
  (zoneDefOf x.fields).map fun d =>
    { Zone.fresh d false with
      learned := { Learned.empty with rho := x.rho, learnCount := x.learnCount, bins := x.bins } }

/-- The records of a section that make an entry. -/
def entries {α β : Type} (l : List α) (index : α → Nat) (f : α → Option β) : List (Nat × β) :=
  l.filterMap fun x => (f x).map fun y => (index x, y)

/-- The static fields, lists, learned state and parameters of an image, applied to the blocks (R195). -/
def State.withImage (m : RawImage) (s : State) : State :=
  { s with
    sensors := tableOf Config.nSensors (entries m.sensors (fun x => x.fields.index) SensorImage.sensor)
    zones := tableOf Config.nZones (entries m.zones (fun x => x.fields.index) ZoneImage.zone)
    segments := m.segments.map fun r => Segment.atReset (requestedSegment r)
    gear := tableOf Config.nGear (entries m.gear (fun x => x.index) fun r => (requestedGear r).map Gear.fresh)
    curves := m.curves.map Prod.snd
    sensorLines := (s.sensorLines.zip m.sensorLines).map fun p => p.1.takeParams p.2
    gearLines := (s.gearLines.zip m.gearLines).map fun p =>
      { (p.1.takeParams p.2.1) with enabled := flagOr true (some p.2.2) }
    shadeQuery := m.shadeQuery
    profiles := m.profiles.map fun p => ⟨p.2.1, p.2.2⟩
    periods := tableOf Config.nPeriods (m.periods.map fun r => (r.index, requestedPeriod r))
    occ := (s.occ.zip m.occ).map fun p => { p.1 with delay := p.2.2 } }

/-! ### The content checks (R193): the records together, on the model they make -/

/-- A sensor's place in its line and its list. -/
def State.sensorConsistent (s : State) (i : Nat) (x : Sensor) : Bool :=
  let others := s.othersOnLine i x.line
  !(others.any fun j => (s.sensor j).any fun y => decide (y.address = x.address))
    && decide (others.length < Config.maxSensorsPerLine) && x.contrib.all fun c => (s.zone c.zone).isSome

/-- Another zone holds one of a zone's line groups on the same line. -/
def State.groupClash (s : State) (z : Nat) (x : Zone) : Bool :=
  (List.range Config.nGearLines).any fun l =>
    (x.cfg.groups.on l).any fun g =>
      (s.zonesWhere fun y => decide (y.cfg.groups.on l = some g)).any fun y => y != z

/-- A zone's control sensor, segment and band, and groups. -/
def State.zoneConsistent (s : State) (z : Nat) (x : Zone) : Bool :=
  (x.cfg.controlSensor.all fun i => (s.sensor i).any fun y => decide (y.kind = .ceiling))
    && !s.bandTaken z x.cfg.segment x.cfg.band && !s.groupClash z x

/-- A gear's address, zone and shade group. -/
def State.gearConsistent (s : State) (i : Nat) (g : Gear) : Bool :=
  !s.gearAddressTaken i g.cfg && s.gearZoneDefined g.cfg && s.shadeRoom i g.cfg

/-- The records together describe a model that the requests could have built (R193). -/
def State.consistent (s : State) : Bool :=
  (s.sensors.zipIdx.all fun e => e.1.all (s.sensorConsistent e.2))
    && (s.zones.zipIdx.all fun e => e.1.all (s.zoneConsistent e.2))
    && (s.segments.all fun g => g.cfg.windowSensor.all fun i => (s.sensor i).any fun y => decide (y.kind = .window))
    && (s.gear.zipIdx.all fun e => e.1.all (s.gearConsistent e.2))
    && (s.periods.zipIdx.all fun e => e.1.all (s.periodFits e.2))

/-- The image of a body whose sections decode and which passes the content checks, for a part in state `s` (R193, R207). -/
def imageOf (s : State) (body : List Byte) : Option RawImage :=
  match readWhole readBody body with
  | some m => if m.recordsOk && (s.withImage m).consistent then some m else none
  | none => none

end Sys2Proof.Machine
end

