-- ==== Sys2Proof/Machine/Loader.lean ====
section
/-! DEFINITION. The Image Loader (11_configuration_image_and_start_up.md): start-up, the autoload, saves, and LOAD_DEFAULTS. -/

namespace Sys2Proof.Machine

/-! ### Entry into RUNNING (R195) -/

/-- OUTPUT_LOST takes its first value, which latches nothing (R87, R136). -/
def State.firstOutput (s : State) : State :=
  forEach (s.zonesWhere fun _ => true) (fun z s => s.modZone z fun x => { x with outputLost := s.outputIsLost z }) s

/-- What the entry into RUNNING does in the blocks (R38, R89, R136, R167, R195). That SL0's scanner starts before SL1's, and so completes
a cycle with nothing to visit first, is a DESIGN CHOICE, unsafe (log 67). -/
def State.enterRunning (s : State) : State :=
  let s := s.modLoader fun k => { k with device := .running }
  let zones := s.zonesWhere fun _ => true
  let s := forEach zones State.deriveOccupancy s
  let s := s.firstOutput
  let s := forEach zones State.resolveHeld s
  let s := forEach (indicesWhere Config.nGearLines fun l => (s.gearLine l).enabled) State.lineComesUp s
  (s.startScanner 0).startScanner 1

/-- The flags of a load's outcome (R194). -/
def State.latchOutcome (o : LoadOutcome) (s : State) : State :=
  match o with
  | .loaded => s
  | .loadedOlder => s.latch .storeError
  | .defaultsBlank => s.latch .configDefaults
  | .defaultsDamaged => (s.latch .configDefaults).latch .storeError
  | .defaultsNoMemory => (s.latch .configDefaults).latch .storeError

/-- The end of a load with the factory state (R194, R195): the tables still hold it from the reset. -/
def State.endWithDefaults (o : LoadOutcome) (s : State) : State :=
  ((s.modLoader fun k => { k with load := none, loadReport := some o, knownSlot := none, knownGen := 0 }).latchOutcome
    o).enterRunning

/-- The end of a load with a slot's image (R194, R195). -/
def State.endWithImage (o : LoadOutcome) (slot generation : Nat) (m : RawImage) (s : State) : State :=
  (((s.withImage m).modLoader fun k =>
    { k with load := none, loadReport := some o, knownSlot := some slot, knownGen := generation }).latchOutcome
    o).enterRunning

/-! ### The autoload (R193) -/

/-- The transaction timer of a page read (R193). -/
def State.pageTimer (s : State) : Option Timer := some (s.startTimer 25)

/-- The start of the autoload: the header page of slot 0 (R192, R193). -/
def LoadJob.first (t : Option Timer) : LoadJob :=
  { slot := 0, page := 0, attempts := 0, addressed := false, finding0 := .unread, finding1 := .unread, body := []
    later := [], second := false, txn := t }

/-- STARTUP_DELAY_EXPIRY: the grant of SL0, LOADING, and the autoload (R192). -/
def execStartupDelayExpiry (s : State) : Answer :=
  .next (if s.loader.startup.isSome && decide (s.loader.device = .starting) then
    s.modLoader fun k =>
      { k with device := .loading, startup := none, load := some (LoadJob.first s.pageTimer) }
  else s)

/-- The next page of a load is read. -/
def State.readPage (slot page : Nat) (j : LoadJob) (s : State) : State :=
  s.modLoader fun k =>
    { k with load := some { j with slot := slot, page := page, attempts := 0, addressed := false, txn := s.pageTimer } }

/-- What was found of a slot. -/
def LoadJob.finding (j : LoadJob) (slot : Nat) : SlotFinding := if slot = 0 then j.finding0 else j.finding1

/-- The candidates in the order in which they are taken (R193, step 2). -/
def candidates (f0 f1 : SlotFinding) : List Nat :=
  match f0, f1 with
  | .candidate g0 _ _, .candidate g1 _ _ => if newerGen g1 g0 then [1, 0] else [0, 1]
  | .candidate .., _ => [0]
  | _, .candidate .. => [1]
  | _, _ => []

/-- The outcome of a load without a candidate (R193, R194). -/
def outcomeWithout (f0 f1 : SlotFinding) : LoadOutcome :=
  if f0 = .noMemory ∧ f1 = .noMemory then .defaultsNoMemory
  else if f0 = .blank ∧ f1 = .blank then .defaultsBlank
  else .defaultsDamaged

/-- Both headers have been read: the first candidate's body follows, or the load ends (R193). -/
def State.chooseSlot (j : LoadJob) (s : State) : State :=
  match candidates j.finding0 j.finding1 with
  | [] => s.endWithDefaults (outcomeWithout j.finding0 j.finding1)
  | c :: rest => s.readPage c 1 { j with later := rest, second := false, body := [] }

/-- A header page's finding (R193, step 1). -/
def State.headerFound (f : SlotFinding) (j : LoadJob) (s : State) : State :=
  if j.slot = 0 then s.readPage 1 0 { j with finding0 := f } else s.chooseSlot { j with finding1 := f }

/-- The slot being read is damaged: the other candidate follows, or the load ends (R193, steps 3 and 4). -/
def State.slotDamaged (j : LoadJob) (s : State) : State :=
  match j.later with
  | [] => s.endWithDefaults .defaultsDamaged
  | c :: rest => s.readPage c 1 { j with later := rest, second := true, body := [] }

/-- A slot's body has been read in full: its check and its content decide (R193, steps 3 and 4). -/
def State.bodyRead (j : LoadJob) (generation check : Nat) (body : List Byte) (s : State) : State :=
  if (crc16 body).toNat ≠ check then s.slotDamaged j
  else
    match imageOf s body with
    | none => s.slotDamaged j
    | some m => s.endWithImage (if j.second then .loadedOlder else .loaded) j.slot generation m

/-- A page of the slot being read has been read. -/
def State.pageRead (bytes : List Byte) (j : LoadJob) (s : State) : State :=
  if j.page = 0 then s.headerFound (classifyHeader bytes) j
  else
    match j.finding j.slot with
    | .candidate generation length check =>
      let body := j.body ++ bytes
      if length ≤ body.length then s.bodyRead j generation check (body.take length)
      else s.readPage j.slot (j.page + 1) { j with body := body }
    | _ => s.slotDamaged j

/-- A page is unreadable after its third failed attempt (R193). -/
def State.pageUnreadable (addressed : Bool) (j : LoadJob) (s : State) : State :=
  if j.page = 0 then s.headerFound (if addressed then .damaged else .noMemory) j else s.slotDamaged j

/-- An attempt at a page failed; `acked` is whether its address byte was acknowledged (R193). -/
def State.pageFailed (acked : Bool) (j : LoadJob) (s : State) : State :=
  if j.attempts + 1 < 3 then
    let again := { j with attempts := j.attempts + 1, addressed := j.addressed || acked, txn := s.pageTimer }
    s.modLoader fun k => { k with load := some again }
  else s.pageUnreadable (j.addressed || acked) j

/-- AUTOLOAD_PAGE_READ_END (R193, R208); a read that does not deliver the page's 64 bytes is one not acknowledged
throughout. -/
def execAutoloadPageReadEnd (r : MemoryRead) (s : State) : Answer :=
  .next (match s.loader.load with
    | none => s
    | some j =>
      match r with
      | .data bytes => if bytes.length = Config.pageBytes then s.pageRead bytes j else s.pageFailed true j
      | .noAddressAck => s.pageFailed false j
      | .noLaterAck => s.pageFailed true j)

/-- Whether the memory had acknowledged the address byte of the page read that is abandoned now: a free value (log 40). -/
def State.timeoutAcked (s : State) (j : LoadJob) : Bool := Config.addressAcked s.tick.toNat j.slot j.page j.attempts

/-- MEMORY_TRANSACTION_TIMEOUT: a page read that has not ended after 25 ms is a failed attempt (R193); whether its address byte was
acknowledged is free (log 40). -/
def execMemoryTransactionTimeout (s : State) : Answer :=
  .next (match s.loader.load with
    | none => s
    | some j => s.pageFailed (s.timeoutAcked j) j)

/-! ### Saving (R196 to R198) -/

/-- The slot that the next save writes (R197). -/
def Loader.nextSlot (k : Loader) : Nat := k.knownSlot.elim 0 fun n => 1 - n

/-- The generation that the next save writes: one more, with 0 skipped to 1 (R197). -/
def Loader.nextGen (k : Loader) : Nat := max 1 ((k.knownGen + 1) % 2 ^ 32)

/-- The captured pages of a save: the body pages in order, then the header page (R197). -/
def savePages (generation : Nat) (body : List Byte) : List (List Byte) :=
  pagesOf body.length body ++ [headerPage generation body]

/-- The save that an accepted SAVE_CONFIG begins (R196). -/
def State.newSave (s : State) : SaveJob :=
  { phase := .waitGrant, slot := s.loader.nextSlot, generation := s.loader.nextGen
    pages := savePages s.loader.nextGen s.imageBody, page := 0, attempts := 0, addressed := false, poll := none }

/-- The bytes of the page that a save has reached. -/
def SaveJob.bytes (j : SaveJob) : List Byte := j.pages.getD j.page []

/-- The memory address of the page that a save has reached (R191, R206): the header page is the slot's first. -/
def SaveJob.address (j : SaveJob) : Nat :=
  Config.slotBytes * j.slot + (if j.page + 1 = j.pages.length then 0 else Config.pageBytes * (j.page + 1))

/-- The memory address of the page that a load reads (R191, R206). -/
def LoadJob.address (j : LoadJob) : Nat := Config.slotBytes * j.slot + Config.pageBytes * j.page

/-- The memory's address byte for the write direction (R208). -/
def memoryWriteByte : Byte := BitVec.ofNat 8 (2 * Config.memoryAddress)

/-- The memory's address byte for the read direction (R208). -/
def memoryReadByte : Byte := BitVec.ofNat 8 (2 * Config.memoryAddress + 1)

/-- What the IML sends in a page read: the write address byte and the page's first address after the start, and the read address
byte after the repeated start (R208). -/
def pageReadBytes (address : Nat) : List (List Byte) := [memoryWriteByte :: u16 address, [memoryReadByte]]

/-- What the IML sends in the transaction of a save's phase: nothing while it waits for SL0, the page in a write, its address byte
in an acknowledge poll, and the page's address in a read-back (R197, R208). -/
def SaveJob.busBytes (j : SaveJob) : List (List Byte) :=
  match j.phase with
  | .waitGrant => []
  | .writing => [memoryWriteByte :: u16 j.address ++ j.bytes]
  | .polling => [[memoryWriteByte]]
  | .readback => pageReadBytes j.address

/-- What the part sends on a sensor line in the transaction in progress, as the bytes after each start condition (R204, R208):
on SL0 that of a load or of a save that has been granted the line, and else the address byte of a sensor's read. -/
def State.busBytes (s : State) (l : Nat) : List (List Byte) :=
  let memory := match s.loader.load, s.loader.save with
    | some j, _ => pageReadBytes j.address
    | none, some j => j.busBytes
    | none, none => []
  match (s.sensorLine l).txn with
  | some t => [[t.sent]]
  | none => if l = 0 then memory else []

/-- How many bytes the part reads in the transaction in progress on a sensor line: a sensor's four, or a page of the memory (R204, R208). -/
def State.busReads (s : State) (l : Nat) : Nat :=
  match (s.sensorLine l).txn with
  | some _ => 4
  | none =>
    if l = 0 ∧ (s.loader.load.isSome ∨ s.loader.save.any fun j => decide (j.phase = .readback)) then Config.pageBytes else 0

/-- What the part does on a sensor line in the transaction in progress, condition by condition and clock by clock, where its partner
acknowledges every byte that the part sends (R204, R208); an acknowledge poll that is answered at its first address byte. A transaction
that is not acknowledged ends at the byte that is not (log 71). -/
def State.busSignals (s : State) (l : Nat) : List BusSignal :=
  if s.busBytes l = [] then [] else transaction (s.busBytes l) (s.busReads l)

/-- The memory's grant where no sensor transaction is in progress on SL0 (R36). -/
def State.requestSL0 (s : State) : State := if (s.sensorLine 0).txn.isNone then s.grantSL0 else s

/-- SAVE_CONFIG (R196). -/
def serveSaveConfig (s : State) : Served :=
  checked [(s.quiet, .conflict)] s
    (accepted [] ((s.modLoader fun k => { k with save := some s.newSave }).requestSL0))

/-- The save's job changes. -/
def State.modSave (f : SaveJob → SaveJob) (s : State) : State := s.modLoader fun k => { k with save := k.save.map f }

/-- The end of a save with its report (R198). -/
def State.endSave (r : SaveReport) (s : State) : State :=
  ((s.modLoader fun k => { k with save := none, saveReport := r }).releaseSL0).latch .saveFinished

/-- The header page is verified: the save has succeeded (R198). -/
def State.saveSucceeds (j : SaveJob) (s : State) : State :=
  (s.modLoader fun k => { k with knownSlot := some j.slot, knownGen := j.generation }).endSave (.ok j.slot j.generation)

/-- The cause of a failed save (R198). -/
def saveCause (j : SaveJob) (addressed : Bool) (c : SaveFailure) : SaveFailure :=
  if j.page = 0 ∧ ¬ addressed then .noMemory else c

/-- An attempt at a page failed (R197, R198); `acked` is whether its address byte was acknowledged. -/
def State.saveFailed (acked : Bool) (c : SaveFailure) (j : SaveJob) (s : State) : State :=
  let addressed := j.addressed || acked
  if j.attempts + 1 < 3 then
    s.modSave fun j => { j with phase := .writing, attempts := j.attempts + 1, addressed := addressed, poll := none }
  else (s.endSave (.failed (saveCause j addressed c))).latch .storeError

/-- A page is verified: the next page is written, or the save has succeeded (R197). -/
def State.pageVerified (j : SaveJob) (s : State) : State :=
  if j.page + 1 < j.pages.length then
    s.modSave fun j => { j with phase := .writing, page := j.page + 1, attempts := 0, addressed := false, poll := none }
  else s.saveSucceeds j

/-- The save in progress, when it is in a phase. -/
def State.saveIn (s : State) (p : SavePhase) : Option SaveJob := s.loader.save.filter fun j => decide (j.phase = p)

/-- SAVE_PAGE_WRITE_END (R197, R208). -/
def execSavePageWriteEnd (r : MemoryWrite) (s : State) : Answer :=
  .next (match s.saveIn .writing with
    | none => s
    | some j =>
      match r with
      | .acknowledged => s.modSave fun j => { j with phase := .polling, addressed := true, poll := some (s.startTimer 10) }
      | .noAddressAck => s.saveFailed false .writeFailed j
      | .noLaterAck => s.saveFailed true .writeFailed j)

/-- ACK_POLL_ANSWERED: the memory acknowledges, and the page is read back (R197). -/
def execAckPollAnswered (s : State) : Answer :=
  .next (match s.saveIn .polling with
    | none => s
    | some _ => s.modSave fun j => { j with phase := .readback, poll := none })

/-- ACK_POLL_TIMEOUT: no acknowledgement within 10 ms (R197). -/
def execAckPollTimeout (s : State) : Answer :=
  .next (match s.saveIn .polling with
    | none => s
    | some j => s.saveFailed true .writeFailed j)

/-- SAVE_READBACK_END (R197, R198). -/
def execSaveReadbackEnd (r : MemoryRead) (s : State) : Answer :=
  .next (match s.saveIn .readback with
    | none => s
    | some j =>
      match r with
      | .data bytes => if bytes = j.bytes then s.pageVerified j else s.saveFailed true .verifyFailed j
      | .noAddressAck => s.saveFailed false .writeFailed j
      | .noLaterAck => s.saveFailed true .writeFailed j)

/-! ### Returning to factory state (R199) -/

/-- A sensor line at its factory parameters; its transaction in progress is discarded at its end (R39). -/
def SensorLine.toDefaults (x : SensorLine) : SensorLine :=
  { x with
    speed := SensorLine.factory.speed, pollInterval := SensorLine.factory.pollInterval
    missLimit := SensorLine.factory.missLimit, txn := x.txn.map fun t => { t with discard := true } }

/-- A gear line at its factory parameters: its entries leave but for one with a frame under way, a gear's entry then becoming an
orphan, and the audit position is absent (R136). That an entry which waits for its resend or between its setup stages leaves too is
DEDUCED, unsafe (log 42). -/
def GearLine.toDefaults (x : GearLine) : GearLine :=
  { x with
    enabled := true, rateCode := 5, attemptLimit := 3, highWatermark := 24, lowWatermark := 8, auditInterval := 10
    queue := (x.queue.filter Entry.attempting).map fun e => { e with orphan := !e.target.isGroup }, auditPos := none }

/-- One gear line's part of LOAD_DEFAULTS: its parameters with their effects (R111), and its enabling when it is OFF (R114,
R136; log 24). -/
def State.defaultLine (l : Nat) (s : State) : State :=
  let old := (s.gearLine l).auditInterval
  let s := s.modGearLine l fun x => { x.toDefaults with audit := s.newAudit old x.toDefaults }
  let s := (s.highCheck l).tendLine l
  if (s.gearLine l).state = .off then s.lineComesUp l else s

/-- Every table and imaged parameter but the gear lines' in its factory state, with the runtime that goes with it (R199). -/
def State.defaultTables (s : State) : State :=
  { s with
    sensors := List.replicate Config.nSensors none
    sensorLines := s.sensorLines.map SensorLine.toDefaults
    zones := List.replicate Config.nZones none
    segments := List.replicate Config.nSegments (Segment.atReset SegmentDef.factory)
    gear := List.replicate Config.nGear none
    curves := List.replicate Config.nCurves factoryCurve
    calResults := List.replicate Config.nZones CalResult.empty
    sweep := { s.sweep with lastOutcome := .none }
    shadeQuery := 2
    profiles := List.replicate Config.nProfiles Profile.factory
    periods := List.replicate Config.nPeriods none
    occ := s.occ.map fun o => { o with delay := 15 } }

/-- LOAD_DEFAULTS (R199). -/
def serveLoadDefaults (s : State) : Served :=
  checked [(s.quiet, .conflict)] s
    (accepted [] ((forEach (List.range Config.nGearLines) State.defaultLine s.defaultTables).latch .configDefaults))

/-- SAVE_CONFIG. -/
def execSaveConfig (tag : Byte) (s : State) : Answer :=
  .next (reply .direct Kind.saveConfig.code tag (whenRunning serveSaveConfig s))

/-- LOAD_DEFAULTS. -/
def execLoadDefaults (tag : Byte) (s : State) : Answer :=
  .next (reply .direct Kind.loadDefaults.code tag (whenRunning serveLoadDefaults s))

end Sys2Proof.Machine
end

