-- ==== Sys2Proof/Machine/Requests.lean ====
section
/-! DEFINITION. The payloads of the requests (10.8, R201): which fields each kind's payload carries and the owner's service of them.
A payload that its kind's layout does not allow is `none`: BAD_LENGTH (R180, order 2). -/

namespace Sys2Proof.Machine

/-- A kind's presence byte: optional field `k` stands where bit `k` is set, the least significant bit being the first field's
(R201; log 56). -/
def presence8 : Reader (Nat → Bool) := do
  let p ← read8
  return bit p

/-- The two presence bytes of a kind with more than eight optional fields, the first of them for the first eight (R201; log
56). -/
def presence16 : Reader (Nat → Bool) := do
  let p ← read8
  let q ← read8
  return fun k => if k < 8 then bit p k else bit q (k - 8)

/-- A service of the requests of one kind: what the owner does with the payload, when the layout allows the payload. -/
abbrev Service := List Byte → Option (State → Served)

/-- The service of a kind without fields. -/
def serve0 (f : State → Served) : Service := fun l => if l.isEmpty then some f else none

/-- The service of a kind whose fields `r` reads. -/
def serveBy {α : Type} (r : Reader α) (f : α → State → Served) : Service := fun l => (readWhole r l).map f

/-- The service of a kind with one one-byte field. -/
def serve1 (f : Nat → State → Served) : Service := serveBy read8 f

/-! ### The fields of the kinds that carry more than one -/

/-- DEFINE_SENSOR's fields. -/
def readDefineSensor : Reader DefineSensor := readSensorFields readSensorKeys presence8

/-- SET_SENSOR's fields. -/
def readSetSensor : Reader SetSensor := do
  let index ← read8
  let present ← presence8
  let enabled ← readIf (present 0) read8
  let scale ← readIf (present 1) read16
  let fall ← readIf (present 2) read8
  let rise ← readIf (present 3) read8
  return { index := index, enabled := enabled, scale := scale, fallCoeff := fall, riseCoeff := rise }

/-- DEFINE_ZONE's fields. -/
def readDefineZone : Reader DefineZone := do
  let index ← read8
  let segment ← read8
  let band ← read8
  let present ← presence16
  let fields ← readZoneFields present
  return { index := index, segment := segment, band := band, fields := fields }

/-- SET_ZONE's fields. -/
def readSetZone : Reader SetZone := do
  let index ← read8
  let present ← presence16
  let fields ← readZoneFields present
  return { index := index, fields := fields }

/-- DEFINE_SEGMENT's fields. -/
def readDefineSegment : Reader DefineSegment := do
  let index ← read8
  let present ← presence16
  readSegmentFields index present

/-- DEFINE_GEAR's fields. -/
def readDefineGear : Reader DefineGear := do
  let keys ← readGearKeys
  let present ← presence8
  readGearFields keys present

/-- DEFINE_CURVE's fields. -/
def readDefineCurve : Reader (Nat × List Nat) := do
  let index ← read8
  let points ← readN 9 read8
  return (index, points)

/-- SET_SENSOR_LINE's fields. -/
def readSetSensorLine : Reader SetSensorLine := do
  let line ← read8
  let present ← presence8
  readSensorLineFields line present

/-- SET_GEAR_LINE's fields. -/
def readSetGearLine : Reader SetGearLine := do
  let line ← read8
  let present ← presence8
  readGearLineFields line present

/-- WRITE_CONTRIB's fields. -/
def readWriteContrib : Reader WriteContrib := do
  let index ← read8
  let present ← presence8
  let dark ← readIf (present 0) read16
  let entries ← readList readContribEntry
  return { index := index, darkOffset := dark, entries := entries }

/-- START_CALIBRATION's fields. -/
def readStartCalibration : Reader StartCalibration := do
  let parts ← read8
  let zones ← readList read8
  let present ← presence8
  let settle ← readIf (present 0) read16
  let floor ← readIf (present 1) read16
  let limit ← readIf (present 2) read16
  return { parts := parts, zones := zones, settle := settle, gainFloor := floor, driftLimit := limit }

/-- SET_CLOCK's fields; each but the year is one byte (R201; log 13). -/
def readSetClock : Reader SetClock := do
  let year ← read16
  let month ← read8
  let day ← read8
  let hour ← read8
  let minute ← read8
  let second ← read8
  return { year := year, month := month, day := day, hour := hour, minute := minute, second := second }

/-- OVERRIDE_ZONE's fields. -/
def serveOverrideFields : Service :=
  serveBy (do
    let zone ← read8
    let level ← read16
    let duration ← read16
    return (zone, level, duration)) fun p => serveOverrideZone p.1 p.2.1 p.2.2

/-- READ_CALIBRATION's fields. -/
def serveCalibrationFields : Service :=
  serveBy (do
    let first ← read8
    let count ← read8
    let present ← presence8
    let zone ← readIf (present 0) read8
    return (first, count, zone)) fun p => serveReadCalibration p.1 p.2.1 p.2.2

/-- The action of a LINE_CONTROL; any other code is out of range (R114, R201). -/
def LineAction.ofCode : Nat → Option LineAction
  | 0 => some .enable | 1 => some .disable | 2 => some .hold | 3 => some .release | _ => none

/-- LINE_CONTROL's fields. -/
def serveLineFields : Service :=
  serveBy (do
    let line ← read8
    let action ← read8
    return (line, action)) fun p s =>
    match LineAction.ofCode p.2 with
    | some a => serveLineControl p.1 a s
    | none => refused .outOfRange s

/-- READ_GEAR_LINE's fields. -/
def serveGearLineFields : Service :=
  serveBy (do
    let line ← read8
    let first ← read8
    let count ← read8
    return (line, first, count)) fun p => serveReadGearLine p.1 p.2.1 p.2.2

/-- The action of a SHADE_COMMAND (R149). -/
def ShadeAction.ofCode : Nat → Option ShadeAction
  | 0 => some .goto | 1 => some .stop | 2 => some .auto | _ => none

/-- SHADE_COMMAND's fields. -/
def serveShadeFields : Service :=
  serveBy (do
    let segment ← read8
    let action ← read8
    let position ← read8
    let duration ← read16
    return (segment, action, position, duration)) fun p =>
    serveShadeCommand p.1 (ShadeAction.ofCode p.2.1) p.2.2.1 p.2.2.2

/-- SET_PROFILE_DEFAULTS's fields. -/
def serveProfileFields : Service :=
  serveBy (do
    let profile ← read8
    let present ← presence8
    let occupied ← readIf (present 0) read16
    let unoccupied ← readIf (present 1) read16
    return (profile, occupied, unoccupied)) fun p => serveSetProfileDefaults p.1 p.2.1 p.2.2

/-- SET_OCC_INPUT's fields. -/
def serveOccFields : Service :=
  serveBy (do
    let input ← read8
    let delay ← read16
    return (input, delay)) fun p => serveSetOccInput p.1 p.2

/-- READ_OCCUPANCY's fields. -/
def serveOccupancyFields : Service :=
  serveBy (do
    let first ← read8
    let count ← read8
    return (first, count)) fun p => serveReadOccupancy p.1 p.2

/-- READ_COUNTERS's fields. -/
def serveCounterFields : Service :=
  serveBy (do
    let set ← read8
    let group ← read8
    let first ← read8
    let count ← read8
    return (set, group, first, count)) fun p => serveReadCounters p.1 p.2.1 p.2.2.1 p.2.2.2

/-! ### The port's own requests (R185 to R189) -/

/-- IDENTIFY (R188, log 34). -/
def serveIdentify (s : State) : Served :=
  accepted (u8 Config.familyCode ++ u8 Config.partCode ++ u8 Config.designVersion ++ u8 s.loader.device.code
    ++ u32 (portRate s.straps) ++ u8 Config.maxPayload ++ u8 Config.requestQueueCap) s

/-- The number of a state's zones that are in zone state `x` (R187). -/
def State.zonesIn (s : State) (x : ZoneState) : Nat := (s.zonesWhere fun z => decide (z.state = x)).length

/-- The page a save has reached, counted from 0 in the order in which the pages are written, the header page the last (R198; log
54); free when none is in progress (log 21). -/
def State.savePage (s : State) : Nat :=
  match s.loader.save with
  | some j => j.page
  | none => Config.unstated .savePage s.replyCount

/-- The last save's report: its code, slot, generation and cause (R198, log 31); the generation is free when the report
is not OK (log 21). -/
def encSaveReport (s : State) : List Byte :=
  match s.loader.saveReport with
  | .none => opt8 none ++ opt8 none ++ u32 (Config.unstated .saveGeneration s.replyCount) ++ opt8 none
  | .ok slot generation => u8 Result.ok.code ++ u8 slot ++ u32 generation ++ opt8 none
  | .failed c =>
    u8 Result.storeFailed.code ++ opt8 none ++ u32 (Config.unstated .saveGeneration s.replyCount) ++ u8 c.code

/-- save_state (R198, log 31). -/
def encSaveState (s : State) : List Byte :=
  flag8 s.saving ++ u16 s.savePage ++ encSaveReport s ++ opt8 (s.loader.loadReport.map LoadOutcome.code)

/-- GET_STATUS's reply (R187); the gear lines that are OFF count as not UP before the image is loaded too (log 53). -/
def encStatus (s : State) : List Byte :=
  u8 s.loader.device.code ++ encFlags s.flags.latched ++ encFlags s.flags.enables ++ encOccChanges s.occ ++ tick32 s.tick
    ++ u8 (s.zonesIn .disabled) ++ u8 (s.zonesIn .tracking) ++ u8 (s.zonesIn .fallback) ++ u8 (s.zonesIn .hold)
    ++ u8 (s.zonesIn .override) ++ u8 (s.zonesIn .calibrating)
    ++ u8 (s.gearLines.filter fun l => decide (l.state ≠ .up)).length
    ++ u8 (s.sensorsWhere fun x => decide (x.health = .failed)).length
    ++ u8 (s.gearWhere fun g => decide (g.state = .silent)).length
    ++ u8 s.sweep.state.code ++ encSaveState s

/-- GET_STATUS (R187). -/
def serveGetStatus (s : State) : Served := accepted (encStatus s) s

/-- The occupancy change set emptied (R186). -/
def State.clearOccChanges (s : State) : State := { s with occ := s.occ.map fun o => { o with changed := false } }

/-- CLEAR_FLAGS's effect (R186). -/
def State.clearFlags (named : Word16) (s : State) : State :=
  let s := s.unlatch named
  if hasFlag named .occChange then s.clearOccChanges else s

/-- CLEAR_FLAGS (R186). -/
def serveClearFlags (named : Word16) (s : State) : Served :=
  let t := s.clearFlags named
  accepted (encFlags t.flags.latched ++ encOccChanges t.occ) t

/-- SET_FLAG_ENABLES (R185). -/
def serveSetFlagEnables (enables : Word16) (s : State) : Served :=
  let t := s.setEnables enables
  accepted (encFlags t.flags.enables ++ encFlags t.flags.latched) t

/-- RESTART: its execution only produces the reply; the reset takes effect when the reply has been sent (R189). -/
def serveRestart (s : State) : Served := accepted [] s

/-- The service of a kind whose field is a flag set. -/
def serveFlagSet (f : Word16 → State → Served) : Service := serveBy read16 fun n => f (BitVec.ofNat 16 n)

/-! ### The catalogue -/

/-- The service of each kind (10.8). -/
def serviceOf : Kind → Service
  | .identify => serve0 serveIdentify
  | .getStatus => serve0 serveGetStatus
  | .clearFlags => serveFlagSet serveClearFlags
  | .setFlagEnables => serveFlagSet serveSetFlagEnables
  | .restart => serve0 serveRestart
  | .saveConfig => serve0 serveSaveConfig
  | .loadDefaults => serve0 serveLoadDefaults
  | .defineSensor => serveBy readDefineSensor serveDefineSensor
  | .setSensor => serveBy readSetSensor serveSetSensor
  | .deleteSensor => serve1 serveDeleteSensor
  | .defineZone => serveBy readDefineZone serveDefineZone
  | .setZone => serveBy readSetZone serveSetZone
  | .deleteZone => serve1 serveDeleteZone
  | .defineSegment => serveBy readDefineSegment serveDefineSegment
  | .defineGear => serveBy readDefineGear serveDefineGear
  | .deleteGear => serve1 serveDeleteGear
  | .defineCurve => serveBy readDefineCurve fun p => serveDefineCurve p.1 p.2
  | .readSensorDef => serve1 serveReadSensorDef
  | .readZoneDef => serve1 serveReadZoneDef
  | .readSegmentDef => serve1 serveReadSegmentDef
  | .readGearDef => serve1 serveReadGearDef
  | .readCurve => serve1 serveReadCurve
  | .setSensorLine => serveBy readSetSensorLine serveSetSensorLine
  | .readSensorLine => serve1 serveReadSensorLine
  | .readSensor => serve1 serveReadSensor
  | .writeContrib => serveBy readWriteContrib serveWriteContrib
  | .readContrib => serve1 serveReadContrib
  | .readProfile => serve1 serveReadProfile
  | .overrideZone => serveOverrideFields
  | .releaseZone => serve1 serveReleaseZone
  | .readZone => serve1 serveReadZone
  | .startCalibration => serveBy readStartCalibration serveStartCalibration
  | .abortCalibration => serve0 serveAbortCalibration
  | .readCalibration => serveCalibrationFields
  | .setGearLine => serveBy readSetGearLine serveSetGearLine
  | .lineControl => serveLineFields
  | .readGearLine => serveGearLineFields
  | .readGear => serve1 serveReadGear
  | .shadeCommand => serveShadeFields
  | .clearShadeFault => serve1 serveClearShadeFault
  | .setShadeQuery => serveBy read16 serveSetShadeQuery
  | .readShade => serve1 serveReadShade
  | .setClock => serveBy readSetClock serveSetClock
  | .getClock => serve0 serveGetClock
  | .setProfileDefaults => serveProfileFields
  | .definePeriod => serveBy readPeriod serveDefinePeriod
  | .deletePeriod => serve1 serveDeletePeriod
  | .readSchedule => serve1 serveReadSchedule
  | .setOccInput => serveOccFields
  | .readOccupancy => serveOccupancyFields
  | .snapshot => serve1 serveSnapshot
  | .readCounters => serveCounterFields

/-- The kinds that are served in every device state (R183). -/
def Kind.always (k : Kind) : Bool := decide (k = .identify) || decide (k = .getStatus)

/-- The port's own checks of a request, in their order, and then its service by its owner (R180, R183). -/
def serveRequest (kind : Byte) (payload : List Byte) (s : State) : Served :=
  match Kind.ofCode kind with
  | none => refused .unknownKind s
  | some k =>
    match serviceOf k payload with
    | none => refused .badLength s
    | some f => if k.always then f s else whenRunning f s

end Sys2Proof.Machine
end

