-- ==== Sys2Proof/Machine/Port.lean ====
section
/-! DEFINITION. The Building Link Port (10_building_link_port_and_message_set.md): the receiver, the request queue, the replies, the
port's own requests, and the resets of the part. -/

namespace Sys2Proof.Machine

/-! ### The port's own requests, as commands -/

/-- IDENTIFY. -/
def execIdentify (tag : Byte) (s : State) : Answer := .next (reply .direct Kind.identify.code tag (serveIdentify s))

/-- GET_STATUS. -/
def execGetStatus (tag : Byte) (s : State) : Answer := .next (reply .direct Kind.getStatus.code tag (serveGetStatus s))

/-- CLEAR_FLAGS. -/
def execClearFlags (tag : Byte) (flags : Word16) (s : State) : Answer :=
  .next (reply .direct Kind.clearFlags.code tag (whenRunning (serveClearFlags flags) s))

/-- SET_FLAG_ENABLES. -/
def execSetFlagEnables (tag : Byte) (enables : Word16) (s : State) : Answer :=
  .next (reply .direct Kind.setFlagEnables.code tag (whenRunning (serveSetFlagEnables enables) s))

/-- RESTART. -/
def execRestart (tag : Byte) (s : State) : Answer :=
  .next (reply .direct Kind.restart.code tag (whenRunning serveRestart s))

/-- EXECUTE_UNKNOWN_KIND: the reply echoes the kind's code (R180, R181; log 37). -/
def execExecuteUnknownKind (tag kind : Byte) (s : State) : Answer :=
  .next (reply .direct kind tag (refused .unknownKind s))

/-! ### The request queue (R179 to R181) -/

/-- A reply that answers a request which has been executed. -/
def Reply.ofRequest (r : Reply) : Bool := decide (r.origin ≠ .busy)

/-- A reply of the BUSY list. -/
def Reply.isBusy (r : Reply) : Bool := decide (r.origin = .busy)

/-- The reply of an accepted RESTART (R189). -/
def Reply.isRestart (r : Reply) : Bool := decide (r.kind = Kind.restart.code) && decide (r.result = .ok)

/-- The request at the head may be executed: it has not been, no request's reply is still to be sent, and no reset is
about to take effect (R180, R189). -/
def Port.headDue (p : Port) : Bool :=
  !p.restartDue && !(p.replies.any Reply.ofRequest) && p.queue.head?.any fun q => !q.executed

/-- The head request is marked executed. -/
def Port.markExecuted (p : Port) : Port := { p with queue := p.queue.modify 0 fun q => { q with executed := true } }

/-- The execution of the head request, when it is due (R180). -/
def State.executeHead (s : State) : State :=
  if s.port.headDue then
    match s.port.queue with
    | [] => s
    | q :: _ => reply .queued q.kind q.tag (serveRequest q.kind q.payload (s.modPort Port.markExecuted))
  else s

/-- A frame is discarded: counted and flagged, and the receiver hunts (R178, R179, R201). -/
def State.discardFrame (s : State) : State :=
  ((s.modPort fun p => { p with rx := .hunt }).count .framingErrors).latch .hostFrameError

/-- The replies on the BUSY list. -/
def Port.busyList (p : Port) : List Reply := p.replies.filter Reply.isBusy

/-- A frame handed on by the receiver is admitted, answered BUSY, or discarded (R179). -/
def State.takeFrame (kind tag : Byte) (payload : List Byte) (s : State) : State :=
  if s.port.queue.length < Config.requestQueueCap then
    (s.modPort fun p =>
      { p with queue := p.queue ++ [{ kind := kind, tag := tag, payload := payload, executed := false }] }).executeHead
  else if s.port.busyList.length < Config.requestQueueCap then
    (reply .busy kind tag (refused .busy s)).count .busyReplies
  else s.discardFrame

/-- FRAME_RECEIVED: a complete frame whose check agrees; a payload longer than any frame's is one that the receiver
discards (R178, R179; log 5). -/
def execFrameReceived (kind tag : Byte) (payload : List Byte) (s : State) : Answer :=
  .next (if payload.length ≤ Config.maxPayload then
    (s.modPort fun p => { p with rx := .hunt }).takeFrame kind tag payload
  else s.discardFrame)

/-! ### The receiver (R178, R201) -/

/-- A frame is being assembled. -/
def Port.inFrame (p : Port) : Bool := match p.rx with | .hunt => false | .inFrame _ => true

/-- FRAME_DISCARDED (R178); `byteCommand` makes it of a character with a stop-bit error. -/
def execFrameDiscarded (s : State) : Answer := .next (if s.port.inFrame then s.discardFrame else s)

/-- FRAME_GAP_TIMEOUT (R178). -/
def execFrameGapTimeout (s : State) : Answer := .next (if s.port.inFrame then s.discardFrame else s)

/-- A byte in HUNT: a start of frame begins a frame, any other byte is ignored (R178, R201). -/
def State.huntByte (b : Byte) (s : State) : State :=
  if b = 0xA5 then s.modPort fun p => { p with rx := .inFrame [], rxLast := s.tick } else s

/-- The payload length of a frame whose bytes after the start of frame are `l`, when it has been received. -/
def frameLength (l : List Byte) : Option Nat := l[2]?.map BitVec.toNat

/-- The frame's bytes after the start of frame are complete: kind, tag, length, payload and check (R200). -/
def frameComplete (l : List Byte) : Bool := (frameLength l).any fun n => l.length == n + 5

/-- The check received agrees with the frame's contents (R200). -/
def frameAgrees (l : List Byte) : Bool :=
  decide (crc16 (l.take (l.length - 2)) = BitVec.ofNat 16 (beNat (l.drop (l.length - 2))))

/-- The payload of a complete frame. -/
def framePayload (l : List Byte) : List Byte := (l.drop 3).take (l.length - 5)

/-- The bytes of a frame with one more byte taken: the discards at the length byte and at the check, and the completion
(R178). -/
def State.takeByte (l : List Byte) (s : State) : State :=
  if l.length = 3 ∧ (frameLength l).any (Config.maxPayload < ·) then s.discardFrame
  else if frameComplete l then
    if frameAgrees l then
      (s.modPort fun p => { p with rx := .hunt }).takeFrame (l.getD 0 0) (l.getD 1 0) (framePayload l)
    else s.discardFrame
  else s.modPort fun p => { p with rx := .inFrame l, rxLast := s.tick }

/-- More than 20 ms have passed since the frame's last byte (R178; log 22). -/
def State.frameGap (s : State) : Bool := 20 < s.tick.since s.port.rxLast

/-- FRAME_BYTE_RECEIVED (R178, R201), with the byte that `byteCommand` reads: a byte that ends a gap of more than 20 ms is examined after
the discard. -/
def execFrameByteReceived (b : Byte) (s : State) : Answer :=
  .next (match s.port.rx with
    | .hunt => s.huntByte b
    | .inFrame l => if s.frameGap then s.discardFrame.huntByte b else s.takeByte (l ++ [b]))

/-! ### The reply transmitter (R181) -/

/-- The output BLP_TXD (R177, R181): the characters of the earliest waiting reply's frame, at the bit rate of the straps, and idle high
(log 72) where no reply waits or a reset is due (R189). -/
def State.portOutput (s : State) : TxOutput :=
  match s.port.replies with
  | [] => .idleHigh
  | r :: _ => if s.port.restartDue then .idleHigh else .frame (frameLevels r.frame) (portRate s.straps)

/-- The earliest reply has been sent: it leaves, and its request with it (R181); an accepted RESTART's reply makes the reset
due (R189). -/
def Port.sent (p : Port) : Port :=
  match p.replies with
  | [] => p
  | r :: rest =>
    { p with
      replies := rest, frameOut := r.frame, restartDue := r.isRestart
      queue := if r.origin = .queued then p.queue.tail else p.queue }

/-- REPLY_SENT (R181): nothing more is sent when a reset is due (R189). -/
def execReplySent (s : State) : Answer :=
  .next (if s.port.restartDue then s else (s.modPort Port.sent).executeHead)

/-! ### Resets (R189, R190, R192, R155) -/

/-- The release of a reset of the part: every block in its reset state (R192). The commands that wait, and the model's count
of replies, go on. -/
def State.resetWith (pins : ResetPins) (clock : Clock) (s : State) : State :=
  { State.atReset pins clock s.pending with replyCount := s.replyCount }

/-- An accepted RESTART's reply has gone, or is the one being sent. -/
def Port.restarts (p : Port) : Bool := p.restartDue || p.replies.head?.any Reply.isRestart

/-- RESTART_TAKES_EFFECT: the last byte of the RESTART's reply has gone and the part resets (R189; log 3). -/
def execRestartTakesEffect (pins : ResetPins) (s : State) : Answer :=
  .next (if s.port.restarts then s.resetWith pins s.clock else s)

/-- PIN_RESET: the release of RESET_N; the battery domain runs on (R155, R192). -/
def execPinReset (pins : ResetPins) (s : State) : Answer := .next (s.resetWith pins s.clock)

/-- The clock at a power-on: a tripped backup-loss detector sets it and is reset (R155). -/
def Clock.atPowerOn (backupFailed : Bool) (c : Clock) : Clock :=
  if c.backupTripped || backupFailed then Clock.afterBackupLoss c.stopped else c

/-- POWER_ON; `backupFailed` is whether the detector has tripped while the part was without power (R155, log 9). -/
def execPowerOn (pins : ResetPins) (backupFailed : Bool) (s : State) : Answer :=
  .next (s.resetWith pins (s.clock.atPowerOn backupFailed))

end Sys2Proof.Machine
end

