-- ==== Sys2Proof/Machine/Idle.lean ====
section
/-! DEFINITION. What happens while no command waits: the millisecond tick, the crystal, and the timers that expire (R2; log 1). -/

namespace Sys2Proof.Machine

/-- A timer of the part has run its length. -/
def State.timerDue (s : State) (t : Option Timer) : Bool := t.any fun t => t.due s.tick

/-- A tick at which something expires has been reached. -/
def State.expiryDue (s : State) (t : Option Tick) : Bool := t.any fun t => t == s.tick

/-- The number whose bits are the list's, first in the least significant place. -/
def bitsNat (l : List Bool) : Nat := l.foldr (fun b n => b.toNat + 2 * n) 0

/-- The pins as they were last sampled: the straps of the last reset and the raw levels of the inputs (log 3). -/
def State.heldPins (s : State) : ResetPins :=
  { straps := s.straps
    occ := BitVec.ofNat 8 (bitsNat (s.occ.map OccInput.raw))
    lpwr := BitVec.ofNat 4 (bitsNat (s.gearLines.map GearLine.supplyRaw)) }

/-- A command whose condition holds. -/
def dueIf (c : Bool) (i : Instr) : List Instr := if c then [i] else []

/-- The start-up delay, the memory's timers and the port's (R192, R193, R197, R178, R189). -/
def State.dueOnce (s : State) : List Instr :=
  dueIf s.port.restartDue (.restartTakesEffect s.heldPins)
    ++ dueIf (decide (s.loader.device = .starting) && s.timerDue s.loader.startup) .startupDelayExpiry
    ++ dueIf (s.loader.load.any fun j => s.timerDue j.txn) .memoryTransactionTimeout
    ++ dueIf ((s.saveIn .polling).any fun j => s.timerDue j.poll) .ackPollTimeout
    ++ dueIf (s.port.inFrame && s.frameGap) .frameGapTimeout
    ++ dueIf (!s.clock.stopped && decide (secondThousandths ≤ s.clock.subsec)) .clockSecondAdvance
    ++ dueIf (s.timerDue s.sweep.settle) .calSettleExpiry

/-- A sensor line's timers (R28, R24). -/
def State.dueSensorLine (s : State) (l : Fin 2) : List Instr :=
  dueIf ((s.sensorLine l).txn.any fun t => decide (25 ≤ s.tick.since t.start)) (.sensorTransactionTimeout l)
    ++ dueIf (s.timerDue (s.sensorLine l).interval) (.pollIntervalExpiry l)

/-- A gear line's timers (R112, R115, R133). -/
def State.dueGearLine (s : State) (l : Fin 4) : List Instr :=
  let x := s.gearLine l
  dueIf (s.timerDue x.supplyDebounce) (.linePowerChange l)
    ++ dueIf (decide (x.state = .starting) && s.timerDue x.settle) (.startSettleExpiry l)
    ++ dueIf (x.isUp && s.timerDue x.audit) (.auditTimerExpiry l)

/-- A segment's glare or release delay has been reached (R147). -/
def State.glareDue (s : State) (g : Segment) (p : GlarePhase) : Bool :=
  decide (g.phase = p) && g.glareStart.any fun t => decide (g.glareLen * 1000 ≤ s.tick.since t)

/-- A shade group's timers (R140, R143, R144, R147, R150). -/
def State.dueSegment (s : State) (seg : Fin 16) : List Instr :=
  let g := s.segment seg
  dueIf (s.moving seg && s.timerDue g.travel) (.travelTimeout seg)
    ++ dueIf (s.moving seg && s.timerDue g.query) (.shadeQueryExpiry seg)
    ++ dueIf (s.timerDue g.settle) (.shadeSettleExpiry seg)
    ++ dueIf (s.glareDue g .glarePending) (.glareTimerExpiry seg)
    ++ dueIf (s.glareDue g .releasePending) (.releaseTimerExpiry seg)
    ++ dueIf (g.manual && s.expiryDue g.manualExpiry) (.manualExpiry seg)

/-- An occupancy input's debounce (R164). -/
def State.dueOcc (s : State) (i : Fin 8) : List Instr := dueIf (s.timerDue (s.occInput i).debounce) (.occDebounceExpiry i)

/-- A zone's timers (R83, R165). -/
def State.dueZone (s : State) (z : Fin 48) : List Instr :=
  (s.zone z).elim [] fun x =>
    dueIf (x.overrideActive && s.expiryDue x.overrideExpiry) (.overrideExpiry z)
      ++ dueIf (s.timerDue x.vacancy) (.vacancyTimerExpiry z)

/-- The commands of everything that is due at this tick, in the order in which the idle part takes them (log 1). -/
def State.dueCommands (s : State) : List Instr :=
  s.dueOnce ++ (List.finRange 2).flatMap s.dueSensorLine ++ (List.finRange 4).flatMap s.dueGearLine
    ++ (List.finRange 16).flatMap s.dueSegment ++ (List.finRange 8).flatMap s.dueOcc
    ++ (List.finRange 48).flatMap s.dueZone

/-- The crystal cycles of one millisecond, in thousandths (R154; log 23). -/
def millisecondThousandths : Nat := 32768

/-- The sub-second count goes on by one millisecond, unless the crystal has stopped (R154, R156). -/
def Clock.run (c : Clock) : Clock :=
  if c.stopped then c else { c with subsec := c.subsec + millisecondThousandths }

/-- One millisecond passes (R2). -/
def State.passTime (s : State) : State := { s with tick := s.tick + 1, clock := s.clock.run }

/-- What the part does while no command waits: the first command that is due waits next, and when none is due a
millisecond passes (log 1). -/
def State.idle (s : State) : State :=
  match s.dueCommands with
  | [] => s.passTime
  | c :: _ => { s with pending := [c] }

end Sys2Proof.Machine
end

