-- ==== Sys2Proof/Machine/Dispatch.lean ====
section
/-! DEFINITION. Which meaning each command has: one arm per command. -/

namespace Sys2Proof.Machine

/-- The meaning of a command: its effect on everything but the queue of the commands that wait. -/
def exec (i : Instr) (s : State) : Host.Outcome State Fault Refusal :=
  match i with
  | .identify tag => Sys2Proof.Machine.execIdentify tag s
  | .getStatus tag => Sys2Proof.Machine.execGetStatus tag s
  | .clearFlags tag flags => Sys2Proof.Machine.execClearFlags tag flags s
  | .setFlagEnables tag enables => Sys2Proof.Machine.execSetFlagEnables tag enables s
  | .restart tag => Sys2Proof.Machine.execRestart tag s
  | .saveConfig tag => Sys2Proof.Machine.execSaveConfig tag s
  | .loadDefaults tag => Sys2Proof.Machine.execLoadDefaults tag s
  | .defineSensor tag r => Sys2Proof.Machine.execDefineSensor tag r s
  | .setSensor tag r => Sys2Proof.Machine.execSetSensor tag r s
  | .deleteSensor tag index => Sys2Proof.Machine.execDeleteSensor tag index s
  | .defineZone tag r => Sys2Proof.Machine.execDefineZone tag r s
  | .setZone tag r => Sys2Proof.Machine.execSetZone tag r s
  | .deleteZone tag index => Sys2Proof.Machine.execDeleteZone tag index s
  | .defineSegment tag r => Sys2Proof.Machine.execDefineSegment tag r s
  | .defineGear tag r => Sys2Proof.Machine.execDefineGear tag r s
  | .deleteGear tag index => Sys2Proof.Machine.execDeleteGear tag index s
  | .defineCurve tag index points => Sys2Proof.Machine.execDefineCurve tag index points s
  | .readSensorDef tag index => Sys2Proof.Machine.execReadSensorDef tag index s
  | .readZoneDef tag index => Sys2Proof.Machine.execReadZoneDef tag index s
  | .readSegmentDef tag index => Sys2Proof.Machine.execReadSegmentDef tag index s
  | .readGearDef tag index => Sys2Proof.Machine.execReadGearDef tag index s
  | .readCurve tag index => Sys2Proof.Machine.execReadCurve tag index s
  | .setSensorLine tag r => Sys2Proof.Machine.execSetSensorLine tag r s
  | .readSensorLine tag line => Sys2Proof.Machine.execReadSensorLine tag line s
  | .readSensor tag index => Sys2Proof.Machine.execReadSensor tag index s
  | .writeContrib tag r => Sys2Proof.Machine.execWriteContrib tag r s
  | .readContrib tag index => Sys2Proof.Machine.execReadContrib tag index s
  | .readProfile tag zone => Sys2Proof.Machine.execReadProfile tag zone s
  | .overrideZone tag zone level duration => Sys2Proof.Machine.execOverrideZone tag zone level duration s
  | .releaseZone tag zone => Sys2Proof.Machine.execReleaseZone tag zone s
  | .readZone tag zone => Sys2Proof.Machine.execReadZone tag zone s
  | .startCalibration tag r => Sys2Proof.Machine.execStartCalibration tag r s
  | .abortCalibration tag => Sys2Proof.Machine.execAbortCalibration tag s
  | .readCalibration tag first count zone => Sys2Proof.Machine.execReadCalibration tag first count zone s
  | .setGearLine tag r => Sys2Proof.Machine.execSetGearLine tag r s
  | .lineControlEnable tag line => Sys2Proof.Machine.execLineControlEnable tag line s
  | .lineControlDisable tag line => Sys2Proof.Machine.execLineControlDisable tag line s
  | .lineControlHold tag line => Sys2Proof.Machine.execLineControlHold tag line s
  | .lineControlRelease tag line => Sys2Proof.Machine.execLineControlRelease tag line s
  | .readGearLine tag line first count => Sys2Proof.Machine.execReadGearLine tag line first count s
  | .readGear tag index => Sys2Proof.Machine.execReadGear tag index s
  | .shadeCommandGoto tag segment position duration => Sys2Proof.Machine.execShadeCommandGoto tag segment position duration s
  | .shadeCommandStop tag segment position duration => Sys2Proof.Machine.execShadeCommandStop tag segment position duration s
  | .shadeCommandAuto tag segment position duration => Sys2Proof.Machine.execShadeCommandAuto tag segment position duration s
  | .clearShadeFault tag segment => Sys2Proof.Machine.execClearShadeFault tag segment s
  | .setShadeQuery tag interval => Sys2Proof.Machine.execSetShadeQuery tag interval s
  | .readShade tag segment => Sys2Proof.Machine.execReadShade tag segment s
  | .setClock tag r => Sys2Proof.Machine.execSetClock tag r s
  | .getClock tag => Sys2Proof.Machine.execGetClock tag s
  | .setProfileDefaults tag profile occupied unoccupied => Sys2Proof.Machine.execSetProfileDefaults tag profile occupied unoccupied s
  | .definePeriod tag r => Sys2Proof.Machine.execDefinePeriod tag r s
  | .deletePeriod tag index => Sys2Proof.Machine.execDeletePeriod tag index s
  | .readSchedule tag profile => Sys2Proof.Machine.execReadSchedule tag profile s
  | .setOccInput tag input delay => Sys2Proof.Machine.execSetOccInput tag input delay s
  | .readOccupancy tag first count => Sys2Proof.Machine.execReadOccupancy tag first count s
  | .snapshot tag clear => Sys2Proof.Machine.execSnapshot tag clear s
  | .readCounters tag set group first count => Sys2Proof.Machine.execReadCounters tag set group first count s
  | .executeUnknownKind tag kind => Sys2Proof.Machine.execExecuteUnknownKind tag kind s
  | .frameReceived kind tag payload => Sys2Proof.Machine.execFrameReceived kind tag payload s
  | .frameDiscarded => Sys2Proof.Machine.execFrameDiscarded s
  | .frameGapTimeout => Sys2Proof.Machine.execFrameGapTimeout s
  | .replySent => Sys2Proof.Machine.execReplySent s
  | .restartTakesEffect pins => Sys2Proof.Machine.execRestartTakesEffect pins s
  | .pinReset pins => Sys2Proof.Machine.execPinReset pins s
  | .powerOn pins backupFailed => Sys2Proof.Machine.execPowerOn pins backupFailed s
  | .startupDelayExpiry => Sys2Proof.Machine.execStartupDelayExpiry s
  | .autoloadPageReadEnd r => Sys2Proof.Machine.execAutoloadPageReadEnd r s
  | .memoryTransactionTimeout => Sys2Proof.Machine.execMemoryTransactionTimeout s
  | .savePageWriteEnd r => Sys2Proof.Machine.execSavePageWriteEnd r s
  | .ackPollAnswered => Sys2Proof.Machine.execAckPollAnswered s
  | .ackPollTimeout => Sys2Proof.Machine.execAckPollTimeout s
  | .saveReadbackEnd r => Sys2Proof.Machine.execSaveReadbackEnd r s
  | .pollIntervalExpiry line => Sys2Proof.Machine.execPollIntervalExpiry line s
  | .sensorTransactionEnd line reply => Sys2Proof.Machine.execSensorTransactionEnd line reply s
  | .sensorTransactionTimeout line => Sys2Proof.Machine.execSensorTransactionTimeout line s
  | .calSettleExpiry => Sys2Proof.Machine.execCalSettleExpiry s
  | .overrideExpiry zone => Sys2Proof.Machine.execOverrideExpiry zone s
  | .lpwrInputChange line level => Sys2Proof.Machine.execLpwrInputChange line level s
  | .linePowerChange line => Sys2Proof.Machine.execLinePowerChange line s
  | .startSettleExpiry line => Sys2Proof.Machine.execStartSettleExpiry line s
  | .forwardFrameStart line => Sys2Proof.Machine.execForwardFrameStart line s
  | .groupFrameSent line => Sys2Proof.Machine.execGroupFrameSent line s
  | .gearAnswerReceived line data status check stopError => Sys2Proof.Machine.execGearAnswerReceived line data status check stopError s
  | .replyWindowEnd line => Sys2Proof.Machine.execReplyWindowEnd line s
  | .backwardFrameTimeout line => Sys2Proof.Machine.execBackwardFrameTimeout line s
  | .auditTimerExpiry line => Sys2Proof.Machine.execAuditTimerExpiry line s
  | .shadeQueryExpiry segment => Sys2Proof.Machine.execShadeQueryExpiry segment s
  | .travelTimeout segment => Sys2Proof.Machine.execTravelTimeout segment s
  | .shadeSettleExpiry segment => Sys2Proof.Machine.execShadeSettleExpiry segment s
  | .glareTimerExpiry segment => Sys2Proof.Machine.execGlareTimerExpiry segment s
  | .releaseTimerExpiry segment => Sys2Proof.Machine.execReleaseTimerExpiry segment s
  | .manualExpiry segment => Sys2Proof.Machine.execManualExpiry segment s
  | .clockSecondAdvance => Sys2Proof.Machine.execClockSecondAdvance s
  | .oscillatorStop => Sys2Proof.Machine.execOscillatorStop s
  | .oscillatorResume => Sys2Proof.Machine.execOscillatorResume s
  | .occInputChange input level => Sys2Proof.Machine.execOccInputChange input level s
  | .occDebounceExpiry input => Sys2Proof.Machine.execOccDebounceExpiry input s
  | .vacancyTimerExpiry zone => Sys2Proof.Machine.execVacancyTimerExpiry zone s
  | .frameByteReceived byte => Sys2Proof.Machine.execFrameByteReceived byte s

end Sys2Proof.Machine
end

