-- ==== Sys2Proof/Safety.lean ====
section
/-! DEFINITION. What counts as a sound state of the W48, and which records of a state are its configuration, in the terms the
statements use. -/

namespace Sys2Proof.Safety

open Sys2Proof.Machine

/-! ### Sound states -/

/-- ATTN_N is driven low exactly while the latched and enable sets share a member (R185). -/
def AttnCoherent (s : State) : Prop := s.flags.attn = attnDue s.flags.latched s.flags.enables

/-- Two entries of a queue do not both wait for the same target and class (R125). -/
def WaitApart (a b : Entry) : Prop :=
  a.inFlight = false → b.inFlight = false → ¬ (a.target = b.target ∧ a.cmd.cls = b.cmd.cls)

/-- A transmit queue holds at most 32 entries, and only its head can be in flight; an entry with an attempt under way, and one
whose gear has gone, is in flight; and at most one entry waits for each target and class (R121, R125, R126, R17). -/
def QueueSound (q : List Entry) : Prop :=
  q.length ≤ Config.txQueueCap ∧ (∀ e ∈ q.tail, e.inFlight = false)
    ∧ (∀ e ∈ q, e.attempting = true ∨ e.orphan = true → e.inFlight = true) ∧ q.Pairwise WaitApart

/-- A gear line's queue is sound, and empty while the line is not UP (R116, R126); its watermarks lie in their ranges with the
low one below the high one (R111). -/
def LineSound (x : GearLine) : Prop :=
  QueueSound x.queue ∧ (x.state ≠ .up → x.queue = []) ∧ 8 ≤ x.highWatermark ∧ x.highWatermark ≤ 31
    ∧ 1 ≤ x.lowWatermark ∧ x.lowWatermark < x.highWatermark

/-- Every gear line is sound. -/
def LinesSound (s : State) : Prop := ∀ x ∈ s.gearLines, LineSound x

/-- The gear of a line that is not UP are neither dirty nor trim-pending, and such a line is not CONGESTED (R112, R116); until the
device is RUNNING every line is OFF (R136), and a load of the image is in progress only until then (R192, R195). -/
structure MarksSound (s : State) : Prop where
  gear : ∀ i g, s.gearAt i = some g → (s.gearLine g.cfg.line).state ≠ .up → g.dirty = .clear ∧ g.trimPending = false
  lines : ∀ x ∈ s.gearLines, x.state ≠ .up → x.congested = false
  off : s.running = false → ∀ x ∈ s.gearLines, x.state = .off
  loading : s.loader.load.isSome = true → s.running = false

/-- The request queue and the BUSY list keep their four places (R179). -/
def PortWithinCapacity (s : State) : Prop :=
  s.port.queue.length ≤ Config.requestQueueCap ∧ s.port.busyList.length ≤ Config.requestQueueCap

/-- Every counter of a set lies in its range (R168). -/
def CountersInRange (c : Counters) : Prop := ∀ k, c.get k ≤ Config.counterMax

/-- A level is 0, or lies between the zone's minimum and 1000 ‰ (R12, R62). -/
def LevelLegal (lmin v : Nat) : Prop := (v = 0 ∨ lmin ≤ v) ∧ v ≤ 1000

/-- A zone's level, its fallback level, and the level of an active override are legal (R12, R62, R82). -/
def ZoneLegal (x : Zone) : Prop :=
  x.cfg.lmin ≤ 500 ∧ LevelLegal x.cfg.lmin x.level ∧ LevelLegal x.cfg.lmin x.cfg.fallbackLevel
    ∧ (x.overrideActive = true → LevelLegal x.cfg.lmin x.overrideLevel)

/-- Every defined zone's levels are legal. -/
def LevelsLegal (s : State) : Prop := ∀ x, some x ∈ s.zones → ZoneLegal x

/-- Every table of the part has its size (R3, R22, R91, R111, R160, R161, R164, R168). -/
structure TablesWhole (s : State) : Prop where
  sensors : s.sensors.length = Config.nSensors
  sensorLines : s.sensorLines.length = 2
  zones : s.zones.length = Config.nZones
  segments : s.segments.length = Config.nSegments
  gear : s.gear.length = Config.nGear
  curves : s.curves.length = Config.nCurves
  gearLines : s.gearLines.length = Config.nGearLines
  calResults : s.calResults.length = Config.nZones
  profiles : s.profiles.length = Config.nProfiles
  periods : s.periods.length = Config.nPeriods
  occ : s.occ.length = Config.nOcc

/-! ### The configuration -/

/-- A sensor's static fields (R5), without the runtime and estimation fields. -/
structure SensorDef where
  kind : SensorKind
  line : Nat
  address : Nat
  enabled : Bool
  scale : Nat
  fallCoeff : Nat
  riseCoeff : Nat
  deriving DecidableEq, Repr

/-- The static fields of a sensor entry. -/
def sensorDef (x : Sensor) : SensorDef :=
  { kind := x.kind, line := x.line, address := x.address, enabled := x.enabled, scale := x.scale, fallCoeff := x.fallCoeff
    riseCoeff := x.riseCoeff }

/-- A gear line's parameters (R111). -/
structure LineParams where
  enabled : Bool
  rateCode : Nat
  attemptLimit : Nat
  highWatermark : Nat
  lowWatermark : Nat
  auditInterval : Nat
  deriving DecidableEq, Repr

/-- The parameters of a gear line. -/
def lineParams (x : GearLine) : LineParams :=
  { enabled := x.enabled, rateCode := x.rateCode, attemptLimit := x.attemptLimit, highWatermark := x.highWatermark
    lowWatermark := x.lowWatermark, auditInterval := x.auditInterval }

/-- What the requests alone decide: the floor model's static fields (chapter 1), the parameters of the lines (R22, R111), of
the shades (R138), of the schedule (R160, R161) and of the occupancy inputs (R164). -/
structure Configuration where
  sensors : List (Option SensorDef)
  zones : List (Option ZoneDef)
  segments : List SegmentDef
  gear : List (Option GearDef)
  curves : List (List Nat)
  sensorLines : List (Speed × Nat × Nat)
  gearLines : List LineParams
  shadeQuery : Nat
  profiles : List Profile
  periods : List (Option Period)
  occDelays : List Nat
  deriving DecidableEq, Repr

/-- The configuration of a state. -/
def configuration (s : State) : Configuration :=
  { sensors := s.sensors.map (Option.map sensorDef)
    zones := s.zones.map (Option.map Zone.cfg)
    segments := s.segments.map Segment.cfg
    gear := s.gear.map (Option.map Gear.cfg)
    curves := s.curves
    sensorLines := s.sensorLines.map fun x => (x.speed, x.pollInterval, x.missLimit)
    gearLines := s.gearLines.map lineParams
    shadeQuery := s.shadeQuery
    profiles := s.profiles
    periods := s.periods
    occDelays := s.occ.map OccInput.delay }

/-- The commands that are events on the part's pins, lines and timers: no request, no frame or byte of one, no reply's end (it
can start the next request), no reset, and no end of an autoload read (it can apply an image). -/
def isEvent : Instr → Bool
  | .frameDiscarded | .frameGapTimeout | .startupDelayExpiry | .savePageWriteEnd _ | .ackPollAnswered | .ackPollTimeout
  | .saveReadbackEnd _ | .pollIntervalExpiry _ | .sensorTransactionEnd _ _ | .sensorTransactionTimeout _
  | .calSettleExpiry | .overrideExpiry _ | .lpwrInputChange _ _ | .linePowerChange _ | .startSettleExpiry _
  | .forwardFrameStart _ | .groupFrameSent _ | .gearAnswerReceived _ _ _ _ _ | .replyWindowEnd _
  | .backwardFrameTimeout _ | .auditTimerExpiry _ | .shadeQueryExpiry _ | .travelTimeout _ | .shadeSettleExpiry _
  | .glareTimerExpiry _ | .releaseTimerExpiry _ | .manualExpiry _ | .clockSecondAdvance | .oscillatorStop
  | .oscillatorResume | .occInputChange _ _ | .occDebounceExpiry _ | .vacancyTimerExpiry _ => true
  | _ => false

/-! ### What a request stores -/

/-- The device is RUNNING, and no save and no sweep is in progress: no request is turned away for the moment it comes at (R4,
R183). -/
def Undisturbed (s : State) : Prop := s.running = true ∧ s.saving = false ∧ s.sweeping = false

/-- The value stored for a field that is clamped: the stored one where the field is left out. -/
def clampGiven (lo hi stored : Nat) (o : Option Nat) : Nat :=
  match o with
  | none => stored
  | some v => max lo (min hi v)

/-- The reference stored for a field: 0xFF gives "absent" (R201). -/
def refGiven (stored o : Option Nat) : Option Nat :=
  match o with
  | none => stored
  | some v => if v = 0xFF then none else some v

/-- The flag stored for a field: 1 gives "yes" (R201). -/
def flagGiven (stored : Bool) (o : Option Nat) : Bool :=
  match o with
  | none => stored
  | some v => decide (v = 1)

/-- A field carries a value that its clamp changes. -/
def outside (lo hi : Nat) (o : Option Nat) : Bool := o.any fun v => decide (v < lo) || decide (hi < v)

/-- The result of an accepted request, by whether a stored value differs from the one given (R182). -/
def okOrAdjusted (adjusted : Bool) : Result := if adjusted then .adjusted else .ok

/-- A level below the minimum raised to it; 0 stays 0 (R9, R12). -/
def raised (lmin level : Nat) : Nat := if level = 0 then 0 else max lmin level

/-- The transactions with a sensor marked to be discarded at their end (R29). -/
def discarding (i : Nat) (l : List SensorLine) : List SensorLine :=
  l.map fun x => { x with txn := x.txn.map fun t => if t.sensor = i then { t with discard := true } else t }

/-- A new sensor entry (R5, R7). -/
def newSensor (kind : SensorKind) (line address : Nat) (enabled : Bool) (scale fall rise : Nat) : Sensor :=
  { kind := kind, line := line, address := address, enabled := enabled, scale := scale, fallCoeff := fall, riseCoeff := rise
    health := if enabled then .absent else .disabled, missCount := 0, recoverCount := 0, lastCount := 0, lastRange := 0
    overrange := false, lux := 0, timestamp := 0, darkOffset := 0, contrib := [], daylight := 0, daylightF := 0
    primed := false }

/-- A sensor entry of the same identity with new static fields: the runtime fields follow a change of enabled (R7). -/
def keptSensor (x : Sensor) (enabled : Bool) (scale fall rise : Nat) : Sensor :=
  let y := { x with enabled := enabled, scale := scale, fallCoeff := fall, riseCoeff := rise }
  if enabled = x.enabled then y
  else if enabled then { y with health := .absent, missCount := 0, recoverCount := 0, primed := false }
  else { y with health := .disabled }

/-- A zone names the sensor as its control sensor. -/
def Names (s : State) (i z : Nat) : Prop := ∃ x, s.zone z = some x ∧ x.cfg.controlSensor = some i

/-- A zone's static fields with those that a request carries (R9, R12). -/
def zoneGiven (d : ZoneDef) (f : ZoneFields) : ZoneDef :=
  { segment := d.segment, band := d.band
    controlSensor := refGiven d.controlSensor f.controlSensor
    groups := ⟨refGiven d.groups.g0 f.group0, refGiven d.groups.g1 f.group1, refGiven d.groups.g2 f.group2,
      refGiven d.groups.g3 f.group3⟩
    defaultCurve := f.defaultCurve.getD d.defaultCurve
    lmin := f.lmin.getD d.lmin
    fallbackLevel := raised (f.lmin.getD d.lmin) (f.fallbackLevel.getD d.fallbackLevel)
    profile := f.profile.getD d.profile
    occInput := refGiven d.occInput f.occInput
    upRate := clampGiven 0 15 d.upRate f.upRate, downRate := clampGiven 0 15 d.downRate f.downRate
    deadband := clampGiven 0 200 d.deadband f.deadband
    offDelay := f.offDelay.getD d.offDelay, onMargin := f.onMargin.getD d.onMargin
    enabled := flagGiven d.enabled f.enabled }

/-- The factory static fields of a zone (R9). -/
def zoneDefaults (segment : Nat) (band : Band) : ZoneDef :=
  { segment := segment, band := band, controlSensor := none, groups := ⟨none, none, none, none⟩, defaultCurve := 0
    lmin := 100, fallbackLevel := 700, profile := 0, occInput := none, upRate := 8, downRate := 6, deadband := 20
    offDelay := 10, onMargin := 50, enabled := true }

/-- The optional fields of a zone lie in their ranges (R9). -/
structure ZoneFieldsInRange (f : ZoneFields) : Prop where
  sensor : ∀ v ∈ f.controlSensor, v < 64 ∨ v = 0xFF
  groups : ∀ v ∈ f.group0.toList ++ f.group1.toList ++ f.group2.toList ++ f.group3.toList, v < 16 ∨ v = 0xFF
  curve : ∀ v ∈ f.defaultCurve, v < 4
  lmin : ∀ v ∈ f.lmin, 1 ≤ v ∧ v ≤ 500
  fallback : ∀ v ∈ f.fallbackLevel, v ≤ 1000
  profile : ∀ v ∈ f.profile, v < 4
  occ : ∀ v ∈ f.occInput, v < 8 ∨ v = 0xFF
  offDelay : ∀ v ∈ f.offDelay, v ≤ 60
  onMargin : ∀ v ∈ f.onMargin, v ≤ 500
  enabled : ∀ v ∈ f.enabled, v ≤ 1

/-- No other zone than `z` holds a line group that the fields name, on the same line (R10). -/
def GroupsFree (s : State) (z : Nat) (f : ZoneFields) : Prop :=
  ∀ y x, s.zone y = some x → y ≠ z →
    (∀ g ∈ f.group0, g ≠ 0xFF → x.cfg.groups.g0 ≠ some g) ∧ (∀ g ∈ f.group1, g ≠ 0xFF → x.cfg.groups.g1 ≠ some g)
      ∧ (∀ g ∈ f.group2, g ≠ 0xFF → x.cfg.groups.g2 ≠ some g) ∧ (∀ g ∈ f.group3, g ≠ 0xFF → x.cfg.groups.g3 ≠ some g)

/-- The references of a zone's fields may be stored (R10): a named control sensor is a defined CEILING sensor, and no other zone
holds a named line group on its line. -/
structure ZoneRefsFree (s : State) (z : Nat) (f : ZoneFields) : Prop where
  sensor : ∀ i ∈ f.controlSensor, i ≠ 0xFF → ∃ c, s.sensor i = some c ∧ c.kind = .ceiling
  groups : GroupsFree s z f

/-- A request's result is ADJUSTED for a zone whose static fields become `d` from `old` (R4, R9). -/
def zoneResult (f : ZoneFields) (old d : ZoneDef) : Result :=
  okOrAdjusted (outside 0 15 f.upRate || outside 0 15 f.downRate || outside 0 200 f.deadband
    || decide (d.fallbackLevel ≠ f.fallbackLevel.getD old.fallbackLevel))

/-! ### What a command may leave different -/

/-- A gear without what the hand-over of levels and the dirty set's service change (R117, R126, R128). -/
def gearCore (g : Gear) : Gear := { g with expected := none, dirty := .clear, trimPending := false }

/-- A gear without what the shade logic changes besides (R138, R142, R143). -/
def gearShadeCore (g : Gear) : Gear := { gearCore g with unchanged := 0, retriesUsed := 0, shadeFaulted := false }

/-- A gear line without its queue and CONGESTED (R125, R130). -/
def lineCore (x : GearLine) : GearLine := { x with queue := [], congested := false }

/-- No flag but those of a list is latched besides, no flag is cleared, and the enables stay (R184, R185). -/
def FlagsGrow (fs : List Flag) (s t : State) : Prop :=
  t.flags.enables = s.flags.enables
    ∧ ∀ f, (hasFlag s.flags.latched f = true → hasFlag t.flags.latched f = true)
      ∧ (f ∉ fs → hasFlag t.flags.latched f = hasFlag s.flags.latched f)

/-- No live counter but those that `p` names changes, and none in range decreases (R169). -/
def CountersGrow (p : Counter → Bool) (s t : State) : Prop :=
  ∀ k, (p k = false → t.live.get k = s.live.get k) ∧ (CountersInRange s.live → s.live.get k ≤ t.live.get k)

/-- The line counter DEFERRALS (R173). -/
def isDeferral : Counter → Bool
  | .deferrals _ => true
  | _ => false

/-- DEFERRALS and OVERRIDE_S (R172, R173). -/
def isDeferralOrOverride : Counter → Bool
  | .deferrals _ => true
  | .overrideS _ => true
  | _ => false

/-- What the hand-over of levels and values to the gear lines may leave different (R126 to R132): the gear's expected values and
marks, the queues and CONGESTED, the DEFERRALS counters, and COUNTER_SATURATED. Everything else is as it was. -/
structure HandsOver (s t : State) : Prop where
  rest : t = { s with gear := t.gear, gearLines := t.gearLines, flags := t.flags, live := t.live }
  gear : t.gear.map (Option.map gearCore) = s.gear.map (Option.map gearCore)
  lines : t.gearLines.map lineCore = s.gearLines.map lineCore
  flags : FlagsGrow [.counterSaturated] s t
  counters : CountersGrow isDeferral s t

/-- What the resolution of zones that `named` holds of may leave different (R63 to R66, R82): those zones stand in the state that
the resolution order gives, and their levels are handed over. No zone's static fields and no other zone change. -/
structure Resolves (named : Nat → Prop) (s t : State) : Prop where
  rest : t = { s with zones := t.zones, gear := t.gear, gearLines := t.gearLines, flags := t.flags, live := t.live }
  others : ∀ z, ¬ named z → t.zone z = s.zone z
  static : t.zones.map (Option.map Zone.cfg) = s.zones.map (Option.map Zone.cfg)
  state : ∀ z x, named z → t.zone z = some x → x.state = t.resolved z x
  gear : t.gear.map (Option.map gearCore) = s.gear.map (Option.map gearCore)
  lines : t.gearLines.map lineCore = s.gearLines.map lineCore
  flags : FlagsGrow [.counterSaturated, .zoneFallback] s t
  counters : CountersGrow isDeferralOrOverride s t

/-- A zone's record with new static fields `d`, before its resolution (R11, R12, R86): the level of a zone that is disabled or
enabled, the raises to a higher lmin, the SHADE hold of a new segment, what is forgotten, and the occupancy of a new input. -/
def zoneStored (s : State) (x : Zone) (d : ZoneDef) : Zone :=
  let seen := decide (x.cfg.controlSensor = d.controlSensor)
  let stays := decide (x.cfg.segment = d.segment)
  { x with
    cfg := d
    level := if d.enabled = false then 0 else if x.cfg.enabled = false then d.fallbackLevel
      else if x.cfg.lmin < d.lmin then raised d.lmin x.level else x.level
    target := if x.cfg.enabled = false ∧ d.enabled = true then d.fallbackLevel else x.target
    lastEval := if x.cfg.enabled = false ∧ d.enabled = true then none else x.lastEval
    overrideLevel := if x.cfg.lmin < d.lmin ∧ x.overrideActive = true then raised d.lmin x.overrideLevel else x.overrideLevel
    holdShade := if stays then x.holdShade else s.shading d.segment
    learned := { x.learned with
      rho := if stays && seen then x.learned.rho else 0
      learnCount := if stays && seen then x.learned.learnCount else 0
      accSum := if seen then x.learned.accSum else 0
      accCount := if seen then x.learned.accCount else 0 }
    vacancy := if x.cfg.occInput = d.occInput then x.vacancy else none
    occupancy := if x.cfg.occInput = d.occInput then x.occupancy else match d.occInput with
      | none => .occupied
      | some i => if (s.occInput i).active then .occupied else .vacant }

/-- Gear `i` is a driver of zone `z` on line `l` that is not SILENT. -/
def answersOn (s : State) (z l i : Nat) : Bool :=
  (s.gearAt i).any fun g => decide (g.cfg.role = .driver z ∧ g.cfg.line = l ∧ g.state ≠ .silent)

/-- An entry that waits to give a gear that `p` holds of its value or its position. -/
def waitsWithValue (p : Nat → Bool) (e : Entry) : Bool :=
  !e.inFlight && (decide (e.cmd = .setValue) || decide (e.cmd = .shadeGoto)) && match e.target with
    | .gear i => p i
    | .group _ => false

/-- The drivers of a zone whose group on a line has changed are marked dirty with setup where the line is UP and they are not
SILENT, so that the values that wait for them leave, and on a CONGESTED line they lose trim_pending (R11, R128). -/
def regrouped (z l : Nat) (s : State) : State :=
  let line := s.gearLine l
  { s with
    gear := s.gear.map (Option.map fun g =>
      if g.cfg.role = .driver z ∧ g.cfg.line = l then
        { g with
          dirty := if line.state = .up ∧ g.state ≠ .silent then .setup else g.dirty
          trimPending := g.trimPending && !line.congested }
      else g)
    gearLines := if line.state = .up then s.gearLines.modify l fun x =>
        { x with queue := x.queue.filter fun e => !waitsWithValue (answersOn s z l) e }
      else s.gearLines }

/-- The drivers of a zone on each line whose group changes, line by line; each line is tended (R11, R128). -/
def groupsFollow (z : Nat) (old new : ZoneDef) (s : State) : State :=
  [0, 1, 2, 3].foldl (fun v l => if old.groups.on l = new.groups.on l then v else State.tendLine l (regrouped z l v)) s

/-- What the acceptance of new static fields `d` leaves of a defined zone `x` as `y`, and of the part around it (R11, R12, R86). -/
structure ZoneRedefined (s t : State) (z : Nat) (x : Zone) (d : ZoneDef) (y : Zone) : Prop where
  /-- The record is stored, the drivers follow their groups, the zone is resolved where it is enabled, disabled, or given another
  sensor or segment, and its level is handed on, always at an enabling or disabling and otherwise where it has changed. -/
  exact :
    let v := groupsFollow z x.cfg d { s with zones := s.zones.set z (some (zoneStored s x d)) }
    let w := if x.cfg.enabled = d.enabled ∧ x.cfg.controlSensor = d.controlSensor ∧ x.cfg.segment = d.segment then v
      else State.resolveHeld z v
    t = if x.cfg.enabled = d.enabled ∧ w.levelOf z = x.level then w else State.handLevel z w
  here : t.zone z = some y
  static : y.cfg = d
  overriding : y.overrideActive = x.overrideActive ∧ y.overrideExpiry = x.overrideExpiry
  resolved : x.cfg.enabled ≠ d.enabled ∨ x.cfg.controlSensor ≠ d.controlSensor ∨ x.cfg.segment ≠ d.segment →
    y.state = t.resolved z y
  kept : x.cfg.enabled = d.enabled → x.cfg.controlSensor = d.controlSensor → x.cfg.segment = d.segment → y = zoneStored s x d
  moved : x.cfg.enabled = true → d.enabled = true → x.cfg.controlSensor ≠ d.controlSensor ∨ x.cfg.segment ≠ d.segment →
    y.level = if y.state = .override ∧ x.state ≠ .override then y.overrideLevel
      else if x.cfg.lmin < d.lmin then raised d.lmin x.level else x.level
  enabling : x.cfg.enabled = false → d.enabled = true → x.state = .disabled →
    y.lastEval = none ∧ y.target = y.level ∧ y.level = if y.state = .override then y.overrideLevel else d.fallbackLevel
  disabling : x.cfg.enabled = true → d.enabled = false → x.state ≠ .disabled →
    y.state = .disabled ∧ y.level = 0 ∧ y.target = 0 ∧ y.belowMinSince = none ∧ y.lastEval = none ∧ y.daylitOff = false
      ∧ y.underlit = false ∧ y.fallbackSource = .none
  others : ∀ k, k ≠ z → t.zone k = s.zone k
  rest : t = { s with zones := t.zones, gear := t.gear, gearLines := t.gearLines, flags := t.flags, live := t.live }
  gear : t.gear.map (Option.map gearCore) = s.gear.map (Option.map gearCore)
  lines : t.gearLines.map lineCore = s.gearLines.map lineCore
  flags : FlagsGrow [.counterSaturated, .zoneFallback] s t
  counters : CountersGrow isDeferralOrOverride s t

/-- OUTPUT_LOST of the zones that `driven` holds of is recomputed in `u`, and a change from clear to set latches the flag; no other
field of a zone and no other flag changes (R87, R116). -/
def OutputsRecomputed (driven : Nat → Prop) (s u : State) : Prop :=
  FlagsGrow [.outputLost] s u ∧ (∀ z, ¬ driven z → u.zone z = s.zone z)
    ∧ (∀ z, driven z → u.zone z = (s.zone z).map fun x => { x with outputLost := u.outputIsLost z })
    ∧ (hasFlag u.flags.latched .outputLost = true ↔ hasFlag s.flags.latched .outputLost = true
      ∨ ∃ z x, driven z ∧ s.zone z = some x ∧ x.outputLost = false ∧ u.outputIsLost z = true)

/-- OUTPUT_LOST of the zone that a gear's role names is recomputed (R87, R118). -/
def OutputRecomputed (role : GearRole) (s u : State) : Prop := OutputsRecomputed (fun z => role = .driver z) s u

/-- A new gear entry (R17, R138). -/
def newGear (d : GearDef) : Gear :=
  { cfg := d, state := .unknown, lampFail := false, expected := none, confirmed := none, dirty := .clear
    trimPending := false, position := none, atLimit := false, unreported := false, unchanged := 0, retriesUsed := 0
    shadeFaulted := false }

/-- The static fields that DEFINE_GEAR gives, with a role for its kind and owner (R16). -/
def gearGiven (r : DefineGear) (role : GearRole) : GearDef :=
  { line := r.line, address := r.address, role := role, curve := r.curve.getD 0, trim := r.trim.getD 256
    minValue := r.minValue.getD 1, lossLevel := r.lossLevel.getD 254 }

/-- The fields of DEFINE_GEAR lie in their ranges (R16). -/
structure GearFieldsInRange (r : DefineGear) : Prop where
  index : r.index < 192
  line : r.line < 4
  address : r.address ≤ 47
  kind : r.kind ≤ 1
  owner : r.owner < if r.kind = 0 then 48 else 16
  curve : ∀ v ∈ r.curve, v < 4
  trim : ∀ v ∈ r.trim, 128 ≤ v ∧ v ≤ 256
  minValue : ∀ v ∈ r.minValue, 1 ≤ v ∧ v ≤ 254
  lossLevel : ∀ v ∈ r.lossLevel, v ≤ 254

/-- The references of DEFINE_GEAR may be stored (R16): a DRIVER's zone is defined, no other gear has its line and address, and a
SHADE's segment has room. -/
structure GearRefsFree (s : State) (r : DefineGear) : Prop where
  zone : r.kind = 0 → (s.zone r.owner).isSome = true
  address : ∀ j g, s.gearAt j = some g → j ≠ r.index → ¬ (g.cfg.line = r.line ∧ g.cfg.address = r.address)
  room : r.kind = 1 → ((s.groupGear r.owner).filter fun j => j != r.index).length < 4

/-- The role of a kind and an owner (R16). -/
def roleGiven (kind owner : Nat) : GearRole := if kind = 0 then .driver owner else .shade owner

/-- The queue of a gear that leaves its identity: its entries are removed, but for one with an attempt under way, which is
attributed to no gear (R17, R18; log 42). -/
def abandoned (i : Nat) (q : List Entry) : List Entry :=
  (q.filter fun e => decide (e.target ≠ .gear i) || e.attempting).map fun e =>
    if e.target = .gear i then { e with orphan := true } else e

/-- The state with a gear marked dirty with setup, where its line is UP and it is not SILENT; the values that wait for it leave
(R128). -/
def setupMarked (i : Nat) (s : State) : State :=
  match s.gearAt i with
  | none => s
  | some g =>
    if (s.gearLine g.cfg.line).state = .up ∧ g.state ≠ .silent then
      { s with
        gear := s.gear.set i (some { g with dirty := .setup })
        gearLines := s.gearLines.modify g.cfg.line fun x => { x with
          queue := x.queue.filter fun e => !waitsWithValue (fun j => decide (j = i)) e } }
    else s

/-! ### Replies of request commands -/

/-- The state in which a request command's reply waits to be sent (R181, log 3). -/
def answered (k : Kind) (tag : Byte) (result : Result) (fields : List Byte) (t : State) : State :=
  t.pushReply { origin := .direct, kind := k.code, tag := tag, result := result, fields := fields }

/-- The flag port with a set latched besides: the latched set grows, and ATTN_N follows (R184, R185). -/
def latching (w : Word16) (s : State) : FlagPort :=
  { latched := s.flags.latched ||| w, enables := s.flags.enables, attn := attnDue (s.flags.latched ||| w) s.flags.enables }

/-- A frame is discarded (R178, R179): the receiver hunts, FRAMING_ERRORS counts it, and HOST_FRAME_ERROR is latched. -/
structure Discarded (s t : State) : Prop where
  rest : t = { s with
    port := { s.port with rx := .hunt }
    live := { s.live with framingErrors := min 4294967295 (s.live.framingErrors + 1) }, flags := t.flags }
  latched : hasFlag t.flags.latched .hostFrameError = true
  flags : FlagsGrow [.counterSaturated, .hostFrameError] s t

/-- A request on the queue that has not been executed (R179). -/
def waitingRequest (kind tag : Byte) (payload : List Byte) : Request :=
  { kind := kind, tag := tag, payload := payload, executed := false }

/-- The port's own state with the receiver in HUNT. -/
def hunting (p : Port) : Port := { p with rx := .hunt }

/-- The device state in a reply: STARTING, LOADING, RUNNING (R201). -/
def deviceByte : DeviceState → List Byte
  | .starting => [0]
  | .loading => [1]
  | .running => [2]

/-- The port's bit rate by the straps, as four bytes: 57600, 115200, 230400 or 460800 bit/s (R177). -/
def rateBytes (straps : BitVec 2) : List Byte :=
  if straps = 0 then [0x00, 0x00, 0xE1, 0x00]
  else if straps = 1 then [0x00, 0x01, 0xC2, 0x00]
  else if straps = 2 then [0x00, 0x03, 0x84, 0x00]
  else [0x00, 0x07, 0x08, 0x00]

/-- The port's bit rate by the straps (R177). -/
def strapRate (straps : BitVec 2) : Nat :=
  if straps = 0 then 57600 else if straps = 1 then 115200 else if straps = 2 then 230400 else 460800

/-- The bytes of fields, each with its width and its value, most significant byte first (R200, R201). -/
def bytesOf (fields : List (Nat × Nat)) : List Byte :=
  fields.flatMap fun f => ((List.range f.1).map fun k => BitVec.ofNat 8 (f.2 / 256 ^ k)).reverse

/-- A value that may be absent: a presence byte and the value, 0 when absent (R201; log 13). -/
def maybe (width : Nat) (o : Option Nat) : List (Nat × Nat) := [(1, o.isSome.toNat), (width, o.getD 0)]

/-- A tick that may be absent. -/
def maybeTick (o : Option Tick) : List (Nat × Nat) := maybe 4 (o.map BitVec.toNat)

/-- The seconds until an expiry, rounded up, or 0xFFFFFFFF where there is none (R201). -/
def secondsUntil (now : Tick) (o : Option Tick) : Nat :=
  match o with
  | some e => (e.since now + 999) / 1000
  | none => 4294967295

/-- The number of entries of a table that `p` holds of. -/
def howMany {α : Type} (n : Nat) (at? : Nat → Option α) (p : α → Bool) : Nat :=
  ((List.range n).filter fun i => (at? i).any p).length

/-! ### Timers -/

/-- A timer runs and has reached its length (R2). -/
def RunOut (s : State) (o : Option Timer) : Prop := ∃ t, o = some t ∧ t.len ≤ s.tick.since t.start

/-- A command is due by the part's own timers (R2): a reset that waits, the start-up delay (R192), the memory's timers (R193, R197), the
port's gap (R178), a second of the crystal (R154), the sweep's settle (R96), a sensor line's (R24, R28), a gear line's (R112,
R115, R133), a group's (R140, R143, R144, R147, R150), an input's (R164) and a zone's (R83, R165). -/
def WhenDue (s : State) : Instr → Prop
  | .restartTakesEffect pins => s.port.restartDue = true ∧ pins = s.heldPins
  | .startupDelayExpiry => s.loader.device = .starting ∧ RunOut s s.loader.startup
  | .memoryTransactionTimeout => ∃ j, s.loader.load = some j ∧ RunOut s j.txn
  | .ackPollTimeout => ∃ j, s.loader.save = some j ∧ j.phase = .polling ∧ RunOut s j.poll
  | .frameGapTimeout => (∃ l, s.port.rx = .inFrame l) ∧ 20 < s.tick.since s.port.rxLast
  | .clockSecondAdvance => s.clock.stopped = false ∧ 32768000 ≤ s.clock.subsec
  | .calSettleExpiry => RunOut s s.sweep.settle
  | .sensorTransactionTimeout l => ∃ t, (s.sensorLine l).txn = some t ∧ 25 ≤ s.tick.since t.start
  | .pollIntervalExpiry l => RunOut s (s.sensorLine l).interval
  | .linePowerChange l => RunOut s (s.gearLine l).supplyDebounce
  | .startSettleExpiry l => (s.gearLine l).state = .starting ∧ RunOut s (s.gearLine l).settle
  | .auditTimerExpiry l => (s.gearLine l).state = .up ∧ RunOut s (s.gearLine l).audit
  | .travelTimeout seg => (s.segment seg).state = .moving ∧ RunOut s (s.segment seg).travel
  | .shadeQueryExpiry seg => (s.segment seg).state = .moving ∧ RunOut s (s.segment seg).query
  | .shadeSettleExpiry seg => RunOut s (s.segment seg).settle
  | .glareTimerExpiry seg => (s.segment seg).phase = .glarePending
    ∧ ∃ t, (s.segment seg).glareStart = some t ∧ (s.segment seg).glareLen * 1000 ≤ s.tick.since t
  | .releaseTimerExpiry seg => (s.segment seg).phase = .releasePending
    ∧ ∃ t, (s.segment seg).glareStart = some t ∧ (s.segment seg).glareLen * 1000 ≤ s.tick.since t
  | .manualExpiry seg => (s.segment seg).manual = true ∧ (s.segment seg).manualExpiry = some s.tick
  | .occDebounceExpiry i => RunOut s (s.occInput i).debounce
  | .overrideExpiry z => ∃ x, s.zone z = some x ∧ x.overrideActive = true ∧ x.overrideExpiry = some s.tick
  | .vacancyTimerExpiry z => ∃ x, s.zone z = some x ∧ RunOut s x.vacancy
  | _ => False

/-! ### Sensors, zones and sweeps in the statements -/

/-- `n / d` rounded, halves up (R1). -/
def rounded (n d : Nat) : Nat := (2 * n + d) / (2 * d)

/-- The lux value of a reading (R30). -/
def luxOf (scale range count : Nat) (overrange : Bool) : Nat :=
  if overrange then 65535 else min 65535 ((count * 4 ^ range * scale + 1024) / 2048)

/-- The daylight estimate of a reading: the dark offset and the electric shares of the zones of the list taken off (R46, R47). -/
def daylightOf (s : State) (x : Sensor) (lux : Nat) : Nat :=
  min 65535 (lux - x.darkOffset - (x.contrib.map fun c => rounded (c.gain * s.levelOf c.zone) 1000).sum)

/-- One step of the filter (R50), the ceilings written out. -/
def filtered (fall rise f d : Nat) : Nat :=
  if d < f then f - ((f - d) * fall + 15) / 16
  else if f < d then f + ((d - f) * rise + 15) / 16
  else f

/-- A sensor's entry after a good reading (R30, R32, R46 to R50): the reading fields, the health, and, but for the first good
reading of a FAILED sensor, the daylight estimate and its filter. -/
def sensorAfterReading (s : State) (x : Sensor) (range count : Nat) (overrange : Bool) : Sensor :=
  let lux := luxOf x.scale range count overrange
  let read := { x with
    lastCount := count, lastRange := range, overrange := overrange, lux := lux, timestamp := s.tick, missCount := 0 }
  if x.health = .failed ∧ x.recoverCount = 0 then { read with recoverCount := 1 }
  else
    let d := daylightOf s x lux
    { read with
      health := .ok, recoverCount := 0, daylight := d, primed := true
      daylightF := if (x.health = .ok ∨ x.health = .suspect) ∧ x.primed = true then
          filtered x.fallCoeff x.riseCoeff x.daylightF d
        else d }

/-- A sensor's entry after a miss (R33). -/
def sensorAfterMiss (limit : Nat) (x : Sensor) : Sensor :=
  let m := min 15 (x.missCount + 1)
  match x.health with
  | .disabled => x
  | .failed => { x with missCount := m, recoverCount := 0 }
  | .absent => { x with missCount := m, health := if limit ≤ m then .failed else .absent }
  | .ok | .suspect => { x with missCount := m, health := if limit ≤ m then .failed else .suspect }

/-- A sensor's answer is good: its check agrees and the reading is ready (R204, R205). -/
def goodAnswer (r : SensorReply) : Prop := crc8 [r.status, r.countHigh, r.countLow] = r.check ∧ r.status.getLsbD 0 = true

/-- The sensor that a cycle visits next: the lowest enabled one of the line above the last visited (R25). -/
def VisitsNext (s : State) (l i : Nat) : Prop :=
  let above := fun j => ∀ v ∈ (s.sensorLine l).lastVisited, v < j
  let there := fun j => ∃ x, s.sensor j = some x ∧ x.line = l ∧ x.enabled = true
  there i ∧ above i ∧ ∀ j, there j → above j → i ≤ j

/-- A transaction with sensor `i` begins on line `l` with its address byte: the bus address in bits 7 to 1, and bit 0 set (R25,
R28, R204). -/
def transacting (l i : Nat) (s : State) : State :=
  let sent := match s.sensor i with
    | some y => BitVec.ofNat 8 (2 * y.address + 1)
    | none => 0
  { s with sensorLines := s.sensorLines.modify l fun x => { x with
    lastVisited := some i, txn := some { sensor := i, sent := sent, speed := x.speed, start := s.tick, discard := false } } }

/-- A cycle opens on a line (R24). -/
def cycleOpened (l : Nat) (s : State) : State :=
  { s with sensorLines := s.sensorLines.modify l fun x => { x with
    scan := .scanning, cycleOpen := true, lastVisited := none, startPending := false, cycleStart := some s.tick
    interval := some { start := s.tick, len := x.pollInterval }, report := [] } }

/-- A cycle starts on a line: its first sensor is visited, or an empty cycle completes at its start (R24, R25). -/
def CycleStarts (l : Nat) (s t : State) : Prop :=
  (∀ i, VisitsNext (cycleOpened l s) l i → t = transacting l i (cycleOpened l s))
    ∧ ((∀ i, ¬ VisitsNext (cycleOpened l s) l i) → t = State.completeCycle l (cycleOpened l s))

/-- An open cycle goes on: the next sensor is visited, or the cycle completes and a pending start follows at once (R25, R27). -/
def CycleGoesOn (l : Nat) (s t : State) : Prop :=
  (∀ i, VisitsNext s l i → t = transacting l i s)
    ∧ ((∀ i, ¬ VisitsNext s l i) → if (s.sensorLine l).startPending = true then CycleStarts l (State.completeCycle l s) t
      else t = State.completeCycle l s)

/-- The list of the zones that `p` holds of, in ascending index. -/
def ZonesInOrder (s : State) (p : Zone → Prop) (l : List Nat) : Prop :=
  l.Pairwise (· < ·) ∧ ∀ z, z ∈ l ↔ ∃ x, s.zone z = some x ∧ p x

/-- The zones that name a sensor as control sensor are resolved in `t`, one by one in ascending index (R7, R34; log 49), and what that
may leave different. -/
structure NamersResolved (i : Nat) (s t : State) : Prop where
  exact : ∀ zones, ZonesInOrder s (fun x => x.cfg.controlSensor = some i) zones →
    t = zones.foldl (fun v z => State.resolve z v) s
  moves : Resolves (Names s i) s t

/-- A zone's evaluation line: its control sensor's, or SL0 without one (R67). -/
def evalLineOf (s : State) (x : Zone) : Nat :=
  match x.cfg.controlSensor.bind s.sensor with
  | some c => c.line
  | none => 0

/-- One zone at a completion of its line: it is resolved, and evaluated in TRACKING or FALLBACK (R67). -/
def resolvedThenEvaluated (line : Nat) (u : State) (z : Nat) : State :=
  let r := State.resolve z u
  match r.zone z with
  | some y => if y.state = .tracking ∨ y.state = .fallback then State.evaluate line z r else r
  | none => r

/-- A zone is in OVERRIDE with line `l` as its evaluation line (R172). -/
def OverriddenOn (s : State) (l : Nat) (x : Zone) : Prop := x.state = .override ∧ evalLineOf s x = l

/-- A zone whose override time up to now is counted, with its mark at the present tick (R172). -/
def accrued (now : Tick) (x : Zone) : Zone :=
  match x.rem.mark with
  | some m => { x with rem := { x.rem with override := (x.rem.override + now.since m) % 1000, mark := some now } }
  | none => x

/-- The zones of a line that are in OVERRIDE accrue their override time to OVERRIDE_S (R172); nothing else changes but
COUNTER_SATURATED. -/
structure OverridesAccrued (l : Nat) (s t : State) : Prop where
  rest : t = { s with zones := t.zones, flags := t.flags, live := t.live }
  flags : FlagsGrow [.counterSaturated] s t
  here : ∀ z x, s.zone z = some x → OverriddenOn s l x → t.zone z = some (accrued s.tick x)
  elsewhere : ∀ z, (∀ x, s.zone z = some x → ¬ OverriddenOn s l x) → t.zone z = s.zone z
  counted : ∀ z x m, s.zone z = some x → OverriddenOn s l x → x.rem.mark = some m → z < s.live.zones.length →
    t.live.get (.overrideS z) = min 4294967295 (s.live.get (.overrideS z) + (x.rem.override + s.tick.since m) / 1000)
  others : ∀ k, (∀ z x, k = .overrideS z → s.zone z = some x → OverriddenOn s l x → x.rem.mark = none) →
    t.live.get k = s.live.get k

/-- A zone as it stands in OVERRIDE from now on (R65, R82, R172). -/
def overridden (now : Tick) (level : Nat) (x : Zone) : Zone :=
  { x with
    state := .override, level := level, target := level, belowMinSince := none, daylitOff := false, underlit := false
    fallbackSource := .none, rem := { x.rem with mark := some now } }

/-- A zone's own gain: that of its entry in its control sensor's list (R70). -/
def ownGainOf (s : State) (z : Nat) (x : Zone) : Option Nat :=
  match x.cfg.controlSensor.bind s.sensor with
  | none => none
  | some c => (c.contrib.find? fun k => k.zone == z).map Contrib.gain

/-- A sensor serves: it is OK or SUSPECT and its filter is primed (R51, R63). -/
def serves (c : Sensor) : Bool := (decide (c.health = .ok) || decide (c.health = .suspect)) && c.primed

/-- The order in which a zone's state is resolved (R63). -/
def stateByOrder (s : State) (z : Nat) (x : Zone) : ZoneState :=
  if x.cfg.enabled = false then .disabled
  else if s.sweep.state ≠ .idle ∧ z ∈ s.sweep.zones then .calibrating
  else if x.overrideActive = true then .override
  else if x.holdShade = true ∨ x.holdCal = true then .hold
  else if (x.cfg.controlSensor.bind s.sensor).any serves ∧ (ownGainOf s z x).isSome then .tracking
  else .fallback

/-- A zone's record after a resolution that gives the state `n`: the fallback reason (R66), and where the state changes the effects
of the entry (R65), the override time carried (R172), and the mark of an entry into OVERRIDE. -/
def resolvedZone (s : State) (z : Nat) (n : ZoneState) (x : Zone) : Zone :=
  let y := if n = .fallback then
      { x with fallbackReason := if x.cfg.controlSensor = none then .noSensor
          else if ownGainOf s z x = none then .noGain else .sensorFailed }
    else x
  if n = x.state then y
  else
    let dark := n = .override ∨ n = .calibrating ∨ n = .disabled
    let level := if n = .override then x.overrideLevel else if n = .disabled then 0 else x.level
    { y with
      state := n, level := level, target := if n = .override ∨ n = .disabled then level else x.target
      belowMinSince := if n = .tracking ∨ n = .fallback then x.belowMinSince else none
      lastEval := if n = .tracking ∨ n = .fallback ∨ n = .disabled then none else x.lastEval
      daylitOff := if dark then false else x.daylitOff, underlit := if dark then false else x.underlit
      fallbackSource := if n = .fallback then x.fallbackSource else .none
      rem := { x.rem with
        override := match x.rem.mark with
          | some m => if x.state = .override then (x.rem.override + s.tick.since m) % 1000 else x.rem.override
          | none => x.rem.override
        mark := if n = .override then some s.tick else if x.state = .override then none else x.rem.mark } }

/-- A sweep with these fields may start (R92). -/
structure SweepMayStart (s : State) (r : StartCalibration) : Prop where
  parts : 1 ≤ r.parts ∧ r.parts ≤ 3
  zones : r.zones ≠ [] ∧ r.zones.Nodup
  enabled : ∀ z ∈ r.zones, z < 48 ∧ ∃ x, s.zone z = some x ∧ x.cfg.enabled = true
  settle : ∀ v ∈ r.settle, 5 ≤ v ∧ v ≤ 120
  floor : ∀ v ∈ r.gainFloor, 1 ≤ v ∧ v ≤ 100
  drift : ∀ v ∈ r.driftLimit, 1 ≤ v ∧ v ≤ 100
  dark : r.parts ≠ 2 → ∀ z x, s.zone z = some x → x.cfg.enabled = true → z ∈ r.zones
  overrides : ∀ z x, s.zone z = some x → x.cfg.enabled = true → x.state ≠ .override
  shades : ∀ g ∈ s.segments, g.state ≠ .moving ∧ g.state ≠ .settling
  lines : ∀ i g z, s.gearAt i = some g → g.cfg.role = .driver z → z ∈ r.zones →
    g.cfg.line < 4 ∧ (s.gearLine g.cfg.line).state = .up

/-- The output of a zone is settled (R95): it has no driver, or every driver is SILENT, or is not dirty and no level entry for it
stands on its line, and no level entry for a group of the zone stands on a line. -/
def Settled (s : State) (z : Nat) : Prop :=
  let level := fun (l : Nat) (t : Target) => ∃ e ∈ (s.gearLine l).queue, e.orphan = false ∧ e.target = t ∧ e.cmd.cls = .level
  (∀ i g, s.gearAt i = some g → g.cfg.role ≠ .driver z)
    ∨ ((∀ i g, s.gearAt i = some g → g.cfg.role = .driver z →
        g.state = .silent ∨ (g.dirty = .clear ∧ ¬ level g.cfg.line (.gear i)))
      ∧ ∀ x l k, s.zone z = some x → l < 4 → x.cfg.groups.on l = some k → ¬ level l (.group k))

/-- The sweep's record in a settle state, with the settle timer started (R96). -/
def settling (st : SweepState) (now : Tick) (w : Sweep) : Sweep :=
  { w with state := st, settle := some { start := now, len := w.settleS * 1000 } }

/-- The sweep record of an accepted START_CALIBRATION (R92, R93). -/
def sweepStarted (s : State) (r : StartCalibration) (zones : List Nat) (measured : List Nat) : Sweep :=
  { state := .preparing, dark := decide (r.parts ≠ 2), gains := decide (r.parts ≠ 1), zones := zones, current := none
    zonesDone := 0, settleS := r.settle.getD 30, gainFloor := r.gainFloor.getD 5, driftLimit := r.driftLimit.getD 10
    measured := measured.map fun i => { sensor := i, base := none, step := none, coll := .closed none }
    startTick := s.tick, lastOutcome := .none, abortCause := .absent, darkSet := 0, settle := none }

/-- A difference of two readings, where both are valid. -/
def difference (a b : Option Nat) : Option Int :=
  match a, b with
  | some x, some y => some ((x : Int) - y)
  | _, _ => none

/-- The measured gain of a sensor after a zone's step (R102). -/
def gainMeasured (m : Measured) : Option Int :=
  match m.base, m.coll with
  | some b, .closed (some b') => difference m.step (some (rounded (b + b') 2))
  | _, _ => none

/-- The drift of a sensor over a zone's step (R103). -/
def driftMeasured (m : Measured) : Option Int :=
  match m.coll with
  | .closed b' => difference b' m.base
  | .opened .. => none

/-- A zone's outcome from the drift and the gain at its control sensor, where it has one (R103). -/
def outcomeDecided (control : Bool) (drift gain : Option Int) (limit floor : Nat) : CalKind :=
  if control = false then .ok
  else if drift.any fun d => decide (d.natAbs ≤ limit) then
    if gain.any fun k => decide ((floor : Int) ≤ k) then .ok else .weak
  else .drift

/-- The weakest entry of a list: the smallest gain, and the highest zone among equals (R42). -/
def Weakest (l : List Contrib) (w : Contrib) : Prop :=
  w ∈ l ∧ ∀ d ∈ l, w.gain < d.gain ∨ (w.gain = d.gain ∧ d.zone ≤ w.zone)

/-- The sweep's record with an outcome (R90, R104, R107). -/
def sweepEnded (o : SweepOutcome) (c : AbortCause) (w : Sweep) : Sweep :=
  { w with
    state := .idle, current := none, settle := none, lastOutcome := o, abortCause := c
    measured := w.measured.map fun m => { m with coll := .closed none } }

/-! ### Gear lines in the statements -/

/-- The stored gear-line rate code of a code: the lowest of the same bit rate (R111). -/
def rateStored (v : Nat) : Nat := if v ≤ 2 then 0 else if v ≤ 4 then 3 else if v ≤ 6 then 5 else 7

/-- A zone has a driver on a gear line. -/
def DrivenOn (s : State) (l z : Nat) : Prop := ∃ i g, s.gearAt i = some g ∧ g.cfg.role = .driver z ∧ g.cfg.line = l

/-- The state of a line that is enabled or released (R113, R114, R136). -/
def comesUp (x : GearLine) : LineState := if x.supply then .starting else .down

/-- An entry as it arrives at a queue (R125). -/
def arriving (t : Target) (c : GearCmd) (v : Nat) (g : Option Nat) (o : Origin) : Entry :=
  { target := t, cmd := c, value := v, group := g, origin := o, attempts := 0, inFlight := false, attempting := false, orphan := false }

/-- An entry of the queue that waits with the target and class of an arrival (R126). -/
def WaitsLike (a f : Entry) : Prop :=
  f.inFlight = false ∧ f.orphan = false ∧ f.target = a.target ∧ f.cmd.cls = a.cmd.cls

/-- An arrival is dropped (R126, order 1 to 3): its line is not UP, its gear is SILENT and it is no query, or its gear is dirty, it
carries a value or a position, and it does not come from the dirty set's service. -/
def DropsArrival (s : State) (x : GearLine) (fromDirty : Bool) (a : Entry) : Prop :=
  x.state ≠ .up ∨ ∃ i g, a.target = .gear i ∧ s.gearAt i = some g
    ∧ ((g.state = .silent ∧ a.cmd.cls ≠ .query)
      ∨ (g.dirty ≠ .clear ∧ fromDirty = false ∧ (a.cmd.cls = .level ∨ a.cmd.cls = .position)))

/-- A gear's expected value after an arrival that was placed (R126). -/
def expecting (a : Entry) (s : State) : State :=
  match a.target with
  | .group _ => s
  | .gear i => if a.cmd = .setValue ∨ a.cmd = .shadeGoto then
      { s with gear := s.gear.modify i (Option.map fun g => { g with expected := some a.value }) } else s

/-- A gear's own value differs from its zone's group value by more than the level: by its curve's present points, its trim or its
min_value (R19, R132). -/
def ownDiffers (s : State) (g : Gear) : Bool :=
  match g.cfg.role with
  | .shade _ => false
  | .driver z => (s.zone z).any fun x =>
      decide (s.curve g.cfg.curve ≠ s.curve x.cfg.defaultCurve ∨ g.cfg.trim ≠ 256 ∨ 1 < g.cfg.minValue)

/-- A gear that serves in a group's frame (R131): it is not SILENT, it is not dirty with setup, and no setup entry for it stands on
the line. -/
def readyForGroup (s : State) (x : GearLine) (i : Nat) : Bool :=
  (s.gearAt i).any (fun g => decide (g.state ≠ .silent ∧ g.dirty ≠ .setup))
    && x.queue.all fun e => e.orphan || decide (e.target ≠ .gear i ∨ e.cmd.cls ≠ .setup)

/-- The list of the gear that `p` holds of, in ascending index. -/
def GearInOrder (s : State) (p : Gear → Prop) (l : List Nat) : Prop :=
  l.Pairwise (· < ·) ∧ ∀ i, i ∈ l ↔ ∃ g, s.gearAt i = some g ∧ p g

/-- The check byte of a gear-line frame (R202). -/
def gearCheck (l : List Byte) : Byte := ~~~(l.foldl (· + ·) 0)

/-- The levels of a byte's character, one for each bit time: the start bit low, the data bits least significant first, and the stop bit
high; no parity bit (R202; R177 with log 72). -/
def lineLevels (b : Byte) : List Bool :=
  [false, b.getLsbD 0, b.getLsbD 1, b.getLsbD 2, b.getLsbD 3, b.getLsbD 4, b.getLsbD 5, b.getLsbD 6, b.getLsbD 7, true]

/-- A character carries a byte: its levels in order are the byte's (R202; R177 with log 72). -/
def Carries (c : Character) (b : Byte) : Prop := ∀ k, k < 10 → (lineLevels b)[k]? = some (c.getLsbD k)

/-- A gear line's bit rate by its rate code (R111). -/
def lineRate (code : Nat) : Nat := if code < 3 then 2400 else if code < 5 then 4800 else if code < 7 then 9600 else 19200

/-- A byte that the part sends on a two-wire bus, most significant bit first (log 71), and the clock of its acknowledgement (R204, R208). -/
def busOut (b : Byte) : List BusSignal :=
  [.bit (b.getLsbD 7), .bit (b.getLsbD 6), .bit (b.getLsbD 5), .bit (b.getLsbD 4), .bit (b.getLsbD 3), .bit (b.getLsbD 2),
    .bit (b.getLsbD 1), .bit (b.getLsbD 0), .listen]

/-- `n` bytes that the part reads and acknowledges on a two-wire bus, and one more that it does not acknowledge (R204, R208). -/
def busIn (n : Nat) : List BusSignal :=
  (List.replicate n (List.replicate 8 BusSignal.listen ++ [.ack])).flatten ++ List.replicate 8 .listen ++ [.noAck]

/-- What a change of a line's state may leave different elsewhere (R113 to R116, R106, R118): no configuration but the line's
`enabled`, no other line's state, no sensor, and nothing of the loader, the port, the clock and the inputs. -/
structure LineMoved (l : Nat) (s t : State) : Prop where
  rest : t = { s with
    zones := t.zones, segments := t.segments, gear := t.gear, gearLines := t.gearLines, sweep := t.sweep
    calResults := t.calResults, flags := t.flags, live := t.live }
  others : ∀ k, k ≠ l → lineCore (t.gearLine k) = lineCore (s.gearLine k)
  zones : t.zones.map (Option.map Zone.cfg) = s.zones.map (Option.map Zone.cfg)
  segments : t.segments.map Segment.cfg = s.segments.map Segment.cfg
  gear : t.gear.map (Option.map Gear.cfg) = s.gear.map (Option.map Gear.cfg)

/-- A gear line out of service in state `st` (R116). -/
def outOfService (st : LineState) (x : GearLine) : GearLine :=
  { x with state := st, queue := [], congested := false, settle := none, audit := none }

/-- The gear table with the gear of a line changed by `f`. -/
def gearOn (l : Nat) (f : Gear → Gear) (gear : List (Option Gear)) : List (Option Gear) :=
  gear.map (Option.map fun g => if g.cfg.line = l then f g else g)

/-- A line carries a driver of a zone of the sweep's set (R106). -/
def ServesSweep (s : State) (l : Nat) : Prop := ∃ i g z, s.gearAt i = some g ∧ g.cfg.line = l ∧ g.cfg.role = .driver z ∧ z ∈ s.sweep.zones

/-- A line with the record `y` goes out of service to `dest` (R113, R114, R116): its queue, its gear's marks, CONGESTED and its timers
are cleared, OUTPUT_LOST of its zones follows, DOWN latches LINE_DOWN; and where it was UP, the counts of its SHADE gear are 0
(R142), and a sweep that it serves is aborted (R106). -/
def LineGoesOut (l : Nat) (dest : LineState) (y : GearLine) (s t : State) : Prop :=
  let base := { s with
    gearLines := s.gearLines.set l (outOfService dest y)
    gear := gearOn l (fun g => { g with dirty := .clear, trimPending := false }) s.gear }
  ∃ u, u = { base with zones := u.zones, flags := u.flags } ∧ OutputsRecomputed (DrivenOn s l) base u ∧
    let v := if dest = .down then State.latch .lineDown u else u
    let stalls := fun g : Gear => { g with unchanged := if g.isShade then 0 else g.unchanged }
    let w := if y.state = .up then { v with gear := gearOn l stalls v.gear } else v
    (y.state = .up → s.sweeping = true → ServesSweep s l → t = State.settledCheck (State.abortSweep (.line l) w))
      ∧ (y.state ≠ .up ∨ s.sweeping = false ∨ ¬ ServesSweep s l → t = State.settledCheck w)

/-- A line with the record `y` comes into service (R113 to R115): with a supply it is STARTING, its settle runs and its gear are
UNKNOWN, and without one it is DOWN, which latches LINE_DOWN; OUTPUT_LOST of its zones follows. -/
def LineComesIn (l : Nat) (y : GearLine) (s t : State) : Prop :=
  let base := if y.supply then
      { s with
        gearLines := s.gearLines.set l { y with
          state := .starting, queue := [], settle := some { start := s.tick, len := 600 } }
        gear := gearOn l (fun g => { g with state := .unknown, lampFail := false, confirmed := none }) s.gear }
    else State.latch .lineDown { s with gearLines := s.gearLines.set l { y with state := .down, queue := [] } }
  ∃ u, u = { base with zones := u.zones, flags := u.flags } ∧ OutputsRecomputed (DrivenOn s l) base u ∧ t = u.settledCheck

/-- What a failed attempt of a line's head entry leaves of its queue (R123): it leaves where it is superseded or its gear has gone,
waits for its resend, or has used up its attempts. -/
inductive AttemptFailed where
  | leaves | waits | exhausted
  deriving DecidableEq, Repr

/-- Which of them it is (R17, R123). -/
def attemptFailed (x : GearLine) (e : Entry) (rest : List Entry) : AttemptFailed :=
  if e.orphan || rest.any (fun f => !f.orphan && decide (f.target = e.target) && decide (f.cmd.cls = e.cmd.cls)) then .leaves
  else if e.attempts + 1 < x.attemptLimit then .waits
  else .exhausted

/-! ### Shades in the statements -/

/-- A segment's zones hold, or do not hold, the SHADE cause (R84). -/
def ShadeHeld (seg : Nat) (h : Bool) (t : State) : Prop := ∀ z x, t.zone z = some x → x.cfg.segment = seg → x.holdShade = h

/-- A shade command from the shade logic to a gear, origin SHADE (R139, R140). -/
def sending (c : GearCmd) (value : Nat) (u : State) (i : Nat) : State :=
  match u.gearAt i with
  | some h => State.offer h.cfg.line false (arriving (.gear i) c value none .shade) u
  | none => u

/-- A group's target, where it has one, offered to gear in order (R139, R140). -/
def sendingTarget (target : Option Nat) (gear : List Nat) (u : State) : State :=
  match target with
  | some p => gear.foldl (sending .shadeGoto p) u
  | none => u

/-- A gear's position lies within 1 of the group's target, and is one that it has reported in the group where it joined it in
MOVING (R137, R145; log 48). -/
def Arrived (s : State) (seg i : Nat) : Prop :=
  ∃ h p q, s.gearAt i = some h ∧ h.unreported = false ∧ (s.segment seg).target = some p ∧ h.position = some q
    ∧ q ≤ p + 1 ∧ p ≤ q + 1

/-- A segment with its group in state `st` and its travel, query and settle timers stopped (R143, R145). -/
def timersStopped (st : ShadeState) (g : Segment) : Segment :=
  { g with state := st, travel := none, query := none, settle := none }

/-- The glare test of a window reading `w`, phase by phase (R146). -/
def glareTested (now : Tick) (w : Nat) (g : Segment) : Segment :=
  let glare := decide (g.cfg.glareThreshold ≤ w)
  let below := decide (w < g.cfg.releaseThreshold)
  let releasing := { g with phase := .releasePending, glareStart := some now, glareLen := g.cfg.releaseDelay }
  match g.phase with
  | .clear =>
    if glare then { g with phase := .glarePending, glareStart := some now, glareLen := g.cfg.glareDelay }
    else if g.target = some g.cfg.openPosition then g
    else if below then releasing
    else { g with phase := .glared }
  | .glarePending => if glare then g else { g with phase := .clear, glareStart := none }
  | .glared => if below then releasing else g
  | .releasePending => if below then g else { g with phase := .glared, glareStart := none }

/-- What the shade logic of one group may leave different (R139 to R145, R84): the zones' runtime, the segments' runtime, the gear's marks
and counts, the transmit queues, some flags and counters. -/
structure ShadesMoved (s t : State) : Prop where
  rest : t = { s with
    zones := t.zones, segments := t.segments, gear := t.gear, gearLines := t.gearLines, flags := t.flags, live := t.live }
  zones : t.zones.map (Option.map Zone.cfg) = s.zones.map (Option.map Zone.cfg)
  segments : t.segments.map Segment.cfg = s.segments.map Segment.cfg
  gear : t.gear.map (Option.map gearShadeCore) = s.gear.map (Option.map gearShadeCore)
  lines : t.gearLines.map lineCore = s.gearLines.map lineCore
  flags : FlagsGrow [.counterSaturated, .zoneFallback, .shadeFault] s t

/-- The gear of a group without their faults and counts (R151). -/
def faultsCleared (seg : Nat) (l : List (Option Gear)) : List (Option Gear) :=
  l.map (Option.map fun g =>
    if g.cfg.role = .shade seg then { g with shadeFaulted := false, retriesUsed := 0, unchanged := 0 } else g)

/-! ### The loader in the statements -/

/-- The state with this load in progress. -/
def loading (j : LoadJob) (s : State) : State := { s with loader := { s.loader with load := some j } }

/-- The loader with the next page of a slot to read (R193). -/
def readingPage (now : Tick) (j : LoadJob) (slot page : Nat) : LoadJob :=
  { j with slot := slot, page := page, attempts := 0, addressed := false, txn := some { start := now, len := 25 } }

/-- What the end of a load with the factory state makes of the loader (R194). -/
def defaultsLoaded (o : LoadOutcome) (k : Loader) : Loader :=
  { k with device := .running, load := none, loadReport := some o, knownSlot := none, knownGen := 0 }

/-- A zone's OUTPUT_LOST is to be set: it has a driver, and every one is SILENT or on a line that is not UP (R87). -/
def OutputLost (s : State) (z : Nat) : Prop :=
  (∃ i g, s.gearAt i = some g ∧ g.cfg.role = .driver z)
    ∧ ∀ i g, s.gearAt i = some g → g.cfg.role = .driver z → g.state = .silent ∨ (s.gearLine g.cfg.line).state ≠ .up

/-- The runtime fields that a zone defined by the image takes (R89): its level and target are the fallback level, or 0 where it is
disabled, and nothing is held, overridden, timed or marked. -/
structure ZoneAtStart (x : Zone) : Prop where
  level : x.level = if x.cfg.enabled then x.cfg.fallbackLevel else 0
  target : x.target = x.level
  holds : x.holdShade = false ∧ x.holdCal = false
  override : x.overrideActive = false ∧ x.overrideLevel = 0 ∧ x.overrideExpiry = none
  unmarked : x.belowMinSince = none ∧ x.lastEval = none ∧ x.daylitOff = false ∧ x.underlit = false
  setpoint : x.setpoint = 0 ∧ x.fallbackSource = .none

/-- The zones at the entry into RUNNING (R89, R136, R167): each takes its occupancy from its input's debounced level, with no vacancy
timer, takes the first value of OUTPUT_LOST, which latches nothing, and is resolved, with the effects of R65 on its level. -/
structure ZonesEntered (s u : State) : Prop where
  rest : u = { s with zones := u.zones, loader := u.loader, flags := u.flags, live := u.live }
  undefined : ∀ z, s.zone z = none → u.zone z = none
  zones : ∀ z x, s.zone z = some x → ∃ lost, (lost = true ↔ OutputLost s z) ∧
    let y := { x with
      vacancy := none, outputLost := lost
      occupancy := match x.cfg.occInput with
        | none => .occupied
        | some i => if (s.occInput i).active then .occupied else .vacant }
    u.zone z = some (resolvedZone s z (stateByOrder s z y) y)
  flags : FlagsGrow [.counterSaturated, .zoneFallback, .configDefaults, .storeError] s u
  quiet : (∀ z x, s.zone z = some x → x.state = .fallback ∨ x.state = .disabled) →
    hasFlag u.flags.latched .zoneFallback = hasFlag s.flags.latched .zoneFallback
  counters : CountersGrow isDeferralOrOverride s u

/-- The gear lines at the entry into RUNNING (R136): each enabled one enters STARTING, with its settle and its gear UNKNOWN, or DOWN,
which latches LINE_DOWN, by its supply; OUTPUT_LOST follows. -/
structure LinesEntered (u v : State) : Prop where
  rest : v = { u with zones := v.zones, gear := v.gear, gearLines := v.gearLines, flags := v.flags }
  lines : ∀ l, l < 4 → v.gearLine l =
    let x := u.gearLine l
    if x.enabled = false then x
    else if x.supply then { x with state := .starting, queue := [], settle := some { start := u.tick, len := 600 } }
    else { x with state := .down, queue := [] }
  gear : ∀ i, v.gearAt i = (u.gearAt i).map fun g =>
    if g.cfg.line < 4 ∧ (u.gearLine g.cfg.line).enabled = true ∧ (u.gearLine g.cfg.line).supply = true then
      { g with state := .unknown, lampFail := false, confirmed := none }
    else g
  zones : ∀ z, ∃ lost, (lost = true ↔ OutputLost v z) ∧ v.zone z = (u.zone z).map fun x => { x with outputLost := lost }
  flags : FlagsGrow [.lineDown, .outputLost] u v
  down : (∃ l, l < 4 ∧ (u.gearLine l).enabled = true ∧ (u.gearLine l).supply = false) → hasFlag v.flags.latched .lineDown = true

/-- A scanner at the entry into RUNNING: one that is STOPPED starts its first cycle (R38). -/
def ScannerEntered (l : Nat) (v w : State) : Prop :=
  if (v.sensorLine l).scan = .stopped then CycleStarts l v w else w = v

/-- Entry into RUNNING (R195, R38, R89, R136, R167): the zones are resolved, the scanners run, and each enabled gear line is STARTING or
DOWN by its supply. -/
structure Entered (s t : State) : Prop where
  blocks : ∃ u v w, ZonesEntered s u ∧ LinesEntered u v ∧ ScannerEntered 0 v w ∧ ScannerEntered 1 w t
  configuration : configuration t = configuration s
  scanners : ∀ l, l < 2 → (s.sensorLine l).scan = .stopped → (t.sensorLine l).scan = .scanning ∨ (t.sensorLine l).scan = .waiting
  lines : ∀ l, l < 4 → (s.gearLine l).enabled = true → (t.gearLine l).state = comesUp (s.gearLine l)
  kept : t.pending = s.pending ∧ t.tick = s.tick ∧ t.straps = s.straps ∧ t.port = s.port ∧ t.clock = s.clock ∧ t.occ = s.occ
    ∧ t.liveSince = s.liveSince ∧ t.shadow = s.shadow ∧ t.shadowHeader = s.shadowHeader

/-- A load ends with the factory state and an outcome, which latches CONFIG_DEFAULTS, and STORE_ERROR but for two blank slots
(R194). -/
def EndsWithDefaults (o : LoadOutcome) (s t : State) : Prop :=
  Entered s t ∧ t.loader = defaultsLoaded o s.loader ∧ hasFlag t.flags.latched .configDefaults = true
    ∧ hasFlag t.flags.latched .storeError = (hasFlag s.flags.latched .storeError || decide (o ≠ .defaultsBlank))

/-- What follows when both headers have been read (R193, steps 1 and 2): the body of the candidate with the newer generation, slot 0
where neither is newer, and with no candidate the end of the load. -/
def HeadersRead (s : State) (j : LoadJob) (t : State) : Prop :=
  let first := fun slot later => t = loading (readingPage s.tick { j with later := later, second := false, body := [] } slot 1) s
  match j.finding0, j.finding1 with
  | .candidate g _ _, .candidate h _ _ =>
    let ahead := (BitVec.ofNat 32 h - BitVec.ofNat 32 g).toNat
    if 1 ≤ ahead ∧ ahead ≤ 2147483647 then first 1 [0] else first 0 [1]
  | .candidate .., _ => first 0 []
  | _, .candidate .. => first 1 []
  | .noMemory, .noMemory => EndsWithDefaults .defaultsNoMemory s t
  | .blank, .blank => EndsWithDefaults .defaultsBlank s t
  | _, _ => EndsWithDefaults .defaultsDamaged s t

/-- What follows when the slot being read is damaged (R193, steps 3 and 4): the body of the other candidate, or the end of the load. -/
def SlotDamaged (s : State) (j : LoadJob) (t : State) : Prop :=
  match j.later with
  | c :: more => t = loading (readingPage s.tick { j with later := more, second := true, body := [] } c 1) s
  | [] => EndsWithDefaults .defaultsDamaged s t

/-- A body's ten sections, in their order, each a code byte, a two-byte length and that many bytes (R206). -/
def SectionsFill (body : List Byte) : Prop :=
  ∃ sections : List (List Byte), sections.length = 10 ∧ (∀ b ∈ sections, b.length < 65536)
    ∧ body = sections.zipIdx.flatMap fun e => u8 (e.2 + 1) ++ u16 e.1.length ++ e.1

/-- A sensor's fields lie in their ranges (R5, R40). -/
structure SensorInRange (x : Sensor) : Prop where
  place : x.line < 2 ∧ 0x08 ≤ x.address ∧ x.address ≤ 0x77 ∧ ¬ (x.line = 0 ∧ x.address = 0x5A)
  scale : 64 ≤ x.scale ∧ x.scale ≤ 1023
  coeffs : 1 ≤ x.fallCoeff ∧ x.fallCoeff ≤ 16 ∧ 1 ≤ x.riseCoeff ∧ x.riseCoeff ≤ 16
  dark : x.darkOffset ≤ 255
  list : x.contrib.length ≤ 8 ∧ (x.contrib.map Contrib.zone).Pairwise (· < ·) ∧ ∀ c ∈ x.contrib, 1 ≤ c.gain ∧ c.gain ≤ 4095

/-- A zone's static fields lie in their ranges (R9). -/
structure ZoneInRange (d : ZoneDef) : Prop where
  segment : d.segment < 16
  groups : ∀ l g, d.groups.on l = some g → g < 16
  tables : d.defaultCurve < 4 ∧ d.profile < 4 ∧ ∀ i ∈ d.occInput, i < 8
  levels : 1 ≤ d.lmin ∧ d.lmin ≤ 500 ∧ LevelLegal d.lmin d.fallbackLevel
  rates : d.upRate ≤ 15 ∧ d.downRate ≤ 15 ∧ d.deadband ≤ 200
  off : d.offDelay ≤ 60 ∧ d.onMargin ≤ 500

/-- A segment's static fields lie in their ranges (R14). -/
structure SegmentInRange (d : SegmentDef) : Prop where
  window : ∀ i ∈ d.windowSensor, i < 64
  thresholds : 1000 ≤ d.glareThreshold ∧ d.glareThreshold ≤ 60000 ∧ 1 ≤ d.releaseThreshold ∧ d.releaseThreshold < d.glareThreshold
  delays : 5 ≤ d.glareDelay ∧ d.glareDelay ≤ 600 ∧ 60 ≤ d.releaseDelay ∧ d.releaseDelay ≤ 3600
  positions : d.glarePosition ≤ 100 ∧ d.openPosition ≤ 100
  travel : d.settle ≤ 120 ∧ 5 ≤ d.travelTimeout ∧ d.travelTimeout ≤ 255 ∧ d.retryLimit ≤ 5

/-- A gear's static fields lie in their ranges (R16). -/
structure GearInRange (d : GearDef) : Prop where
  place : d.line < 4 ∧ d.address ≤ 47
  role : match d.role with
    | .driver z => z < 48
    | .shade seg => seg < 16
  values : d.curve < 4 ∧ 128 ≤ d.trim ∧ d.trim ≤ 256 ∧ 1 ≤ d.minValue ∧ d.minValue ≤ 254 ∧ d.lossLevel ≤ 254

/-- A period's fields lie in their ranges (R161). -/
structure PeriodInRange (p : Period) : Prop where
  profile : p.profile < 4
  days : p.days ≠ 0
  times : p.startMin % 5 = 0 ∧ p.endMin % 5 = 0 ∧ p.startMin < p.endMin ∧ p.endMin ≤ 1440
  setpoints : p.occupiedSp ≤ 5000 ∧ p.unoccupiedSp ≤ 5000

/-- A gear line's parameters lie in their ranges (R111). -/
structure LineInRange (x : GearLine) : Prop where
  rate : x.rateCode ∈ [0, 3, 5, 7]
  attempts : 1 ≤ x.attemptLimit ∧ x.attemptLimit ≤ 7
  watermarks : 8 ≤ x.highWatermark ∧ x.highWatermark ≤ 31 ∧ 1 ≤ x.lowWatermark ∧ x.lowWatermark < x.highWatermark
  audit : x.auditInterval ≤ 60

/-- The model of an image obeys the content checks (R193): every field in its range, addresses, control and window sensors, groups,
bands, drivers' zones, the capacities of the lines and the shade groups, curves, lists, learned values, and the periods of a
profile apart. -/
structure ModelChecked (u : State) : Prop where
  sensors : ∀ i x, u.sensor i = some x → SensorInRange x
  addresses : ∀ i j x y, u.sensor i = some x → u.sensor j = some y → i ≠ j → ¬ (x.line = y.line ∧ x.address = y.address)
  crowd : ∀ l, howMany u.sensors.length u.sensor (fun x => decide (x.line = l)) ≤ 32
  lists : ∀ i x, u.sensor i = some x → ∀ c ∈ x.contrib, (u.zone c.zone).isSome = true
  zones : ∀ z x, u.zone z = some x → ZoneInRange x.cfg
  learned : ∀ z x, u.zone z = some x → x.learned.rho ≤ 1023 ∧ x.learned.learnCount ≤ 64 ∧ x.learned.bins.length = 48
  control : ∀ z x i, u.zone z = some x → x.cfg.controlSensor = some i → ∃ c, u.sensor i = some c ∧ c.kind = .ceiling
  bands : ∀ y z x w, u.zone y = some x → u.zone z = some w → y ≠ z → ¬ (x.cfg.segment = w.cfg.segment ∧ x.cfg.band = w.cfg.band)
  groups : ∀ y z x w l k, u.zone y = some x → u.zone z = some w → y ≠ z → l < 4 → x.cfg.groups.on l = some k →
    w.cfg.groups.on l ≠ some k
  segments : u.segments.length = 16 ∧ ∀ g ∈ u.segments, SegmentInRange g.cfg
  windows : ∀ g ∈ u.segments, ∀ i, g.cfg.windowSensor = some i → ∃ c, u.sensor i = some c ∧ c.kind = .window
  gear : ∀ i g, u.gearAt i = some g → GearInRange g.cfg
  places : ∀ i j g h, u.gearAt i = some g → u.gearAt j = some h → i ≠ j → ¬ (g.cfg.line = h.cfg.line ∧ g.cfg.address = h.cfg.address)
  drivers : ∀ i g z, u.gearAt i = some g → g.cfg.role = .driver z → (u.zone z).isSome = true
  shades : ∀ seg, howMany u.gear.length u.gearAt (fun g => decide (g.cfg.role = .shade seg)) ≤ 4
  curves : u.curves.length = 4 ∧ ∀ p ∈ u.curves, p.length = 9 ∧ p.Pairwise (· ≤ ·) ∧ ∀ v ∈ p, v ≤ 254
  sensorLines : ∀ x ∈ u.sensorLines, 100 ≤ x.pollInterval ∧ x.pollInterval ≤ 5000 ∧ 1 ≤ x.missLimit ∧ x.missLimit ≤ 15
  gearLines : ∀ x ∈ u.gearLines, LineInRange x
  shadeQuery : 1 ≤ u.shadeQuery ∧ u.shadeQuery ≤ 10
  profiles : u.profiles.length = 4 ∧ ∀ p ∈ u.profiles, p.occupiedSp ≤ 5000 ∧ p.unoccupiedSp ≤ 5000
  periods : ∀ i p, u.period i = some p → PeriodInRange p
  apart : ∀ i j p q, u.period i = some p → u.period j = some q → i ≠ j → p.profile = q.profile → p.days &&& q.days ≠ 0 →
    p.endMin ≤ q.startMin ∨ q.endMin ≤ p.startMin
  occ : ∀ o ∈ u.occ, 1 ≤ o.delay ∧ o.delay ≤ 120

/-! ### The checks of requests -/

/-- The first check of a list that fails, and the result that it gives (R4). -/
def FirstFails : List (Prop × Result) → Result → Prop
  | [], _ => False
  | (holds, q) :: more, r => (¬ holds ∧ r = q) ∨ (holds ∧ FirstFails more r)

/-- A request command's checks, in their order after that of the device state (R4, R180): the first that fails gives the result, and
the request changes nothing (R182). -/
def ChecksInOrder (k : Kind) (c : Byte → Instr) (s : State) (checks : List (Prop × Result)) : Prop :=
  ∀ tag r, FirstFails ((s.running = true, .notReady) :: checks) r → exec (c tag) s = .next (answered k tag r [] s)

/-- No save and no sweep is in progress (R4, order 1). -/
def Quiet (s : State) : Prop := s.saving = false ∧ s.sweeping = false

/-- An optional field, where it is carried, lies between two bounds. -/
def GivenIn (lo hi : Nat) (o : Option Nat) : Prop := ∀ v ∈ o, lo ≤ v ∧ v ≤ hi

/-- The static fields that DEFINE_SEGMENT gives (R14). -/
def segmentGiven (r : DefineSegment) : SegmentDef :=
  { windowSensor := refGiven none r.windowSensor, glareThreshold := r.glareThreshold.getD 20000
    releaseThreshold := r.releaseThreshold.getD 8000, glareDelay := r.glareDelay.getD 60
    releaseDelay := r.releaseDelay.getD 900, glarePosition := r.glarePosition.getD 80
    openPosition := r.openPosition.getD 0, settle := r.settle.getD 20, travelTimeout := r.travelTimeout.getD 90
    retryLimit := r.retryLimit.getD 2 }

/-- The defined sensors of a line, but for the entry `i`. -/
def sensorsBeside (s : State) (i l : Nat) : List Nat :=
  (List.range s.sensors.length).filter fun j => decide (j ≠ i) && (s.sensor j).any fun x => decide (x.line = l)

/-- The defined SHADE gear of a segment, but for the entry `i`. -/
def shadesBeside (s : State) (i seg : Nat) : List Nat :=
  (List.range s.gear.length).filter fun j => decide (j ≠ i) && (s.gearAt j).any fun g => decide (g.cfg.role = .shade seg)

/-- The checks of an optional control sensor (R4, R10): it is defined, and it is a CEILING sensor. -/
def controlNamed (s : State) (o : Option Nat) : List (Prop × Result) :=
  [(∀ i ∈ o, i ≠ 0xFF → (s.sensor i).isSome = true, .noSuch),
   (∀ i ∈ o, i ≠ 0xFF → ∀ c, s.sensor i = some c → c.kind = .ceiling, .outOfRange)]

end Sys2Proof.Safety
end

