-- ==== Sys2Proof/Certificates/Slice0/Obligations.lean ====
section
/-! DEFINITION. The statements about the W48 that the provers are asked to prove. -/

section Statements

open Sys2Proof Sys2Proof.Machine Sys2Proof.Safety

/-! ### The machine -/

/-- A step runs the command at the front of the queue on the state with the queue's rest. -/
def Obligations.StepRunsTheFrontCommand : Prop :=
  ∀ (c : Instr) (rest : List Instr) (s : State), s.pending = c :: rest → step s = exec c { s with pending := rest }

/-- While no command waits, the first command that is due goes to the queue; when none is due a millisecond passes and the crystal
counts on unless it has stopped. A command is due exactly where a timer of the part that asks for it has run its length. This is
the model's choice (log 1, log 23). -/
def Obligations.StepWithNothingWaitingPassesTime : Prop :=
  ∀ s : State, s.pending = [] →
    (∀ c more, s.dueCommands = c :: more → step s = .next { s with pending := [c] })
      ∧ (s.dueCommands = [] → step s = .next { s with
          tick := s.tick + 1
          clock := if s.clock.stopped then s.clock else { s.clock with subsec := s.clock.subsec + 32768 } })
      ∧ ∀ c, c ∈ s.dueCommands ↔ WhenDue s c

/-- Every command completes, whatever state it comes in, and leaves the commands that wait as they are. -/
def Obligations.EveryCommandCompletes : Prop := ∀ (c : Instr) (s : State), ∃ t, exec c s = .next t ∧ t.pending = s.pending

/-- Every step keeps ATTN_N driven exactly while the latched and enable sets share a member (R185). -/
def Obligations.StepKeepsAttnCoherent : Prop := ∀ s t : State, AttnCoherent s → step s = .next t → AttnCoherent t

/-- Every step keeps the transmit queues within 32 entries with only the head in flight, empty on a line that is not UP, and the
watermarks in order (R111, R116, R125, R126); the dirty and trim-pending sets of a line that is not UP empty, with every line OFF
until the device is RUNNING (R112, R116, R136); the request queue and the BUSY list within four places (R179); every
counter in its range (R168, R169); and every table whole (R3). -/
def Obligations.StepKeepsTheCapacities : Prop :=
  ∀ s t : State, LinesSound s → MarksSound s → PortWithinCapacity s → CountersInRange s.live → CountersInRange s.shadow →
    TablesWhole s → step s = .next t →
    LinesSound t ∧ MarksSound t ∧ PortWithinCapacity t ∧ CountersInRange t.live ∧ CountersInRange t.shadow ∧ TablesWhole t

/-- Every step keeps each zone's level, fallback level and active override level at 0 or between the zone's lmin and 1000 ‰ (R9,
R12, R62, R82). -/
def Obligations.StepKeepsTheLevelsLegal : Prop := ∀ s t : State, LevelsLegal s → step s = .next t → LevelsLegal t

/-- The state right after reset meets what every step keeps. -/
def Obligations.ResetMeetsWhatStepsKeep : Prop :=
  AttnCoherent .reset ∧ LinesSound .reset ∧ MarksSound .reset ∧ PortWithinCapacity .reset ∧ CountersInRange State.reset.live
    ∧ CountersInRange State.reset.shadow ∧ TablesWhole .reset ∧ LevelsLegal .reset

/-- No event on the part's pins, lines and timers changes the configuration: only requests, resets and the autoload do. Across
every such event the enables stay, every latched flag stays latched (R184), and no live counter in range decreases (R169). -/
def Obligations.EventsKeepTheConfigurationAndOnlyAddFlagsAndCounts : Prop :=
  (∀ (c : Instr) (s t : State), isEvent c = true → exec c s = .next t → configuration t = configuration s)
    ∧ (∀ (c : Instr) (s t : State), isEvent c = true → exec c s = .next t →
      t.flags.enables = s.flags.enables ∧ (∀ f, hasFlag s.flags.latched f = true → hasFlag t.flags.latched f = true)
        ∧ (CountersInRange s.live → ∀ k, s.live.get k ≤ t.live.get k))

/-- An increment takes a counter to the sum, or to its maximum where the sum would be greater, and latches COUNTER_SATURATED when
it brings the counter from below the maximum to it or past it (R169). -/
def Obligations.ACounterSaturatesAtItsMaximum : Prop :=
  ∀ (k : Counter) (n : Nat) (s : State), CountersInRange s.live →
    let u := { s with live := s.live.put k (if s.live.get k + n ≤ 4294967295 then s.live.get k + n else 4294967295) }
    s.countBy k n =
      if s.live.get k < 4294967295 ∧ 4294967295 ≤ s.live.get k + n then u.latch .counterSaturated else u

/-! ### Chapter 10: the port -/

/-- IDENTIFY (R188): in every device state, the reply carries the family and part codes, the design version, the device state,
the bit rate in force, the greatest payload length and the queue's capacity; nothing else changes. The four bytes of the bit
rate are the model's inference (log 34). GET_STATUS (R187), CLEAR_FLAGS (R186) and SET_FLAG_ENABLES (R185): GET_STATUS answers in
every device state and changes nothing; CLEAR_FLAGS removes the named flags from the latched set, and with OCC_CHANGE the occupancy change set;
SET_FLAG_ENABLES replaces the enables; ATTN_N follows the sets. GET_STATUS's reply holds the device state, the sets, the tick, the
counts of zones by state, of gear lines that are not UP, of FAILED sensors and of SILENT gear, the sweep's state and save_state. That
the lines count before the image is loaded (log 53), and the bytes of save_state, are the model's inference (log 31, log 13), the
page's number its choice (log 54), the open fields of save_state free values (log 21). -/
def Obligations.IdentifyAndTheFlagRequestsAnswer : Prop :=
  ∀ (tag : Byte) (w : Word16) (s : State),
    exec (.identify tag) s = .next (answered .identify tag .ok
        ([0x4C, 0x30, 0x01] ++ deviceByte s.loader.device ++ rateBytes s.straps ++ [240, 4]) s)
      ∧ exec (.getStatus tag) s = .next (answered .getStatus tag .ok (encStatus s) s)
      ∧ (s.running = true →
        let kept := s.flags.latched &&& ~~~w
        let occ := if w.getLsbD 8 then s.occ.map fun o => { o with changed := false } else s.occ
        exec (.clearFlags tag w) s = .next (answered .clearFlags tag .ok (encFlags kept ++ encOccChanges occ)
            { s with
              flags := { latched := kept, enables := s.flags.enables, attn := decide (kept &&& s.flags.enables ≠ 0) }
              occ := occ })
          ∧ exec (.setFlagEnables tag w) s = .next (answered .setFlagEnables tag .ok
            (encFlags w ++ encFlags s.flags.latched)
            { s with
              flags := { latched := s.flags.latched, enables := w, attn := decide (s.flags.latched &&& w ≠ 0) } }))
      ∧ (let zonesIn := fun st => howMany s.zones.length s.zone fun x => decide (x.state = st)
        let free := fun f => Config.unstated f s.replyCount
        let report := match s.loader.saveReport with
          | .none => [(1, 255), (1, 255), (4, free .saveGeneration), (1, 255)]
          | .ok slot generation => [(1, 0), (1, slot), (4, generation), (1, 255)]
          | .failed cause => [(1, 0x1A), (1, 255), (4, free .saveGeneration), (1, cause.code)]
        encStatus s = deviceByte s.loader.device ++ bytesOf ([(2, s.flags.latched.toNat), (2, s.flags.enables.toNat),
            (1, (s.occ.zipIdx.map fun o => if o.1.changed then 2 ^ o.2 else 0).sum), (4, s.tick.toNat)]
          ++ [.disabled, .tracking, .fallback, .hold, .override, .calibrating].map (fun st => (1, zonesIn st))
          ++ [(1, (s.gearLines.filter fun x => decide (x.state ≠ .up)).length),
            (1, howMany s.sensors.length s.sensor fun x => decide (x.health = .failed)),
            (1, howMany s.gear.length s.gearAt fun g => decide (g.state = .silent)), (1, s.sweep.state.code),
            (1, s.loader.save.isSome.toNat), (2, match s.loader.save with
              | some j => j.page
              | none => free .savePage)]
          ++ report ++ [(1, (s.loader.loadReport.map LoadOutcome.code).getD 255)]))

/-- R180, R182, R183: an unknown kind gives UNKNOWN_KIND, a payload that the layout does not allow BAD_LENGTH, and a known kind other
than IDENTIFY and GET_STATUS NOT_READY while the device is not RUNNING, in this order; and every refusal changes nothing and
carries no fields. -/
def Obligations.ThePortChecksInOrderAndRefusalsChangeNothing : Prop :=
  ∀ (kind : Byte) (payload : List Byte) (s : State),
    (Kind.ofCode kind = none → (serveRequest kind payload s).result = .unknownKind)
      ∧ (∀ k, Kind.ofCode kind = some k → serviceOf k payload = none → (serveRequest kind payload s).result = .badLength)
      ∧ (∀ k f, Kind.ofCode kind = some k → serviceOf k payload = some f → k ≠ .identify → k ≠ .getStatus →
        s.loader.device ≠ .running → (serveRequest kind payload s).result = .notReady)
      ∧ ((serveRequest kind payload s).result ≠ .ok → (serveRequest kind payload s).result ≠ .adjusted →
        (serveRequest kind payload s).state = s ∧ (serveRequest kind payload s).fields = [])

/-- EXECUTE_UNKNOWN_KIND (R180, R181): the reply echoes the kind's code and carries UNKNOWN_KIND, and nothing changes.
FRAME_RECEIVED (R179): the request joins a queue of fewer than four, and is executed at once where it finds no request before
it (R180); at a full queue it is answered BUSY; with a full BUSY list too it is discarded. The reply of a direct command and
the place of execution within the step are the model's choice (log 3, log 5, log 37). -/
def Obligations.AFrameIsQueuedAnsweredBusyOrDiscarded : Prop :=
  ∀ (kind tag : Byte) (payload : List Byte) (s : State),
    exec (.executeUnknownKind tag kind) s = .next (s.pushReply
        { origin := .direct, kind := kind, tag := tag, result := .unknownKind, fields := [] })
      ∧ (payload.length ≤ 240 → ∃ t, exec (.frameReceived kind tag payload) s = .next t ∧
        if s.port.queue.length < 4 then
          let u := { s with port := { hunting s.port with queue := s.port.queue ++ [waitingRequest kind tag payload] } }
          if s.port.queue = [] ∧ s.port.restartDue = false ∧ (∀ r ∈ s.port.replies, r.origin = .busy) then
            t = reply .queued kind tag (serveRequest kind payload
              { u with port := { u.port with queue := [{ waitingRequest kind tag payload with executed := true }] } })
          else t = State.executeHead u
        else if s.port.busyList.length < 4 then
          FlagsGrow [.counterSaturated] s t ∧ t = { s with
            port := { hunting s.port with replies := s.port.replies ++
              [{ origin := .busy, kind := kind, tag := tag, result := .busy, fields := [] }] }
            replyCount := s.replyCount + 1
            live := { s.live with busyReplies := min 4294967295 (s.live.busyReplies + 1) }, flags := t.flags }
        else Discarded s t)

/-- FRAME_DISCARDED, FRAME_GAP_TIMEOUT and FRAME_BYTE_RECEIVED (R178, R200): in HUNT only a start of frame counts; an error, a
gap of more than 20 ms, a length above 240 and a check that does not agree discard the frame in assembly; a frame whose check
agrees is handed on; any other byte is taken. A character on BLP_RXD (R177), eight data bits, no parity and one stop bit, makes the
command of its byte, and with a stop-bit error the discard. The start bit, the levels and the order of the bits are the model's
presumption and what a character with a stop-bit error does in HUNT its choice (log 72), the gap of 21 ticks its inference (log 22),
the use of FRAME_DISCARDED and FRAME_GAP_TIMEOUT its choice (log 5). -/
def Obligations.BytesAssembleOrDiscardFrames : Prop :=
  (∀ s : State,
      (∀ l, s.port.rx = .inFrame l →
          ∃ t, exec .frameDiscarded s = .next t ∧ exec .frameGapTimeout s = .next t ∧ Discarded s t)
        ∧ (s.port.rx = .hunt → exec .frameDiscarded s = .next s ∧ exec .frameGapTimeout s = .next s))
    ∧ (∀ (b : Byte) (l : List Byte) (s : State), ∃ t, exec (.frameByteReceived b) s = .next t
      ∧ (s.port.rx = .hunt → t = if b = 0xA5 then { s with port := { s.port with rx := .inFrame [], rxLast := s.tick } } else s)
      ∧ (s.port.rx = .inFrame l →
        if 20 < s.tick.since s.port.rxLast then
          ∃ u, Discarded s u ∧
            t = if b = 0xA5 then { u with port := { u.port with rx := .inFrame [], rxLast := s.tick } } else u
        else
          (l.length = 2 → 240 < b.toNat → Discarded s t)
            ∧ (∀ kind tag payload hi lo, payload.length ≤ 240 →
              l ++ [b] = kind :: tag :: BitVec.ofNat 8 payload.length :: payload ++ [hi, lo] →
              if hi ++ lo = crc16 (kind :: tag :: BitVec.ofNat 8 payload.length :: payload) then
                exec (.frameReceived kind tag payload) s = .next t
              else Discarded s t)
            ∧ (l.length < 2 ∨ (l.length = 2 ∧ b.toNat ≤ 240)
                ∨ (∃ n : Byte, l[2]? = some n ∧ n.toNat ≤ 240 ∧ l.length + 1 < n.toNat + 5) →
              t = { s with port := { s.port with rx := .inFrame (l ++ [b]), rxLast := s.tick } })))
    ∧ (∀ (b : Byte) (c : Character), Carries c b → byteCommand c = some (.frameByteReceived b))
    ∧ (∀ c : Character, c.getLsbD 0 = false → c.getLsbD 9 = false → byteCommand c = some .frameDiscarded)
    ∧ (∀ c : Character, c.getLsbD 0 = true → byteCommand c = none)

/-- BLP_TXD (R177, R181, R189, R200): the earliest waiting reply is being sent, one character a byte, each with eight data bits, no
parity and one stop bit, at the bit rate of the straps; where no reply waits or a reset is due, nothing is. The start bit, the levels
and the order of the bits are the model's presumption (log 72), and the length byte of a payload above 255 bytes is its choice (log 66).
REPLY_SENT (R181): the earliest reply leaves, and with the head request's reply its request; the head that is left is
executed when no request's reply waits (R180). That the next request is executed within this step is the model's choice (log
3). -/
def Obligations.AReplySentFreesThePort : Prop :=
  (∀ s : State, (s.port.replies = [] ∨ s.port.restartDue = true → s.portOutput = .idleHigh)
      ∧ ∀ r rest, s.port.replies = r :: rest → s.port.restartDue = false →
        let body := r.kind :: r.tag :: BitVec.ofNat 8 (r.fields.length + 1) :: BitVec.ofNat 8 r.result.code :: r.fields
        ∃ hi lo : Byte, hi ++ lo = crc16 body
          ∧ s.portOutput = .frame ((0xA5 :: body ++ [hi, lo]).flatMap lineLevels) (strapRate s.straps))
  ∧ ∀ (r : Reply) (rest : List Reply) (s : State), s.port.restartDue = false → s.port.replies = r :: rest →
    ¬ (r.kind = Kind.restart.code ∧ r.result = .ok) →
    let left := if r.origin = .queued then s.port.queue.tail else s.port.queue
    let u := { s with port := { s.port with
      replies := rest, queue := left, frameOut := frameBytes r.kind r.tag (BitVec.ofNat 8 r.result.code :: r.fields) } }
    exec .replySent s = .next (match left with
      | [] => u
      | q :: more =>
        if q.executed = false ∧ (∀ x ∈ rest, x.origin = .busy) then
          reply .queued q.kind q.tag (serveRequest q.kind q.payload
            { u with port := { u.port with queue := { q with executed := true } :: more } })
        else u)

/-- RESTART, RESTART_TAKES_EFFECT, PIN_RESET and POWER_ON (R155, R189, R192): a RESTART's execution only produces the reply;
when that reply has gone nothing more is sent or executed, and the reset takes effect. A reset gives every block its reset
state with the pins sampled; the clock runs on, but that a power-on with a tripped backup-loss detector sets it to 2000-01-01,
not valid. How the reset waits for the reply and what the model's own fields keep are the model's choice (log 3, log 9, log
46). -/
def Obligations.ResetsBringEveryBlockUp : Prop :=
  (∀ (tag : Byte) (pins : ResetPins) (s : State),
      (s.running = true → exec (.restart tag) s = .next (answered .restart tag .ok [] s))
        ∧ (∀ r rest, s.port.restartDue = false → s.port.replies = r :: rest → r.kind = Kind.restart.code → r.result = .ok →
          exec .replySent s = .next { s with port := { s.port with
            replies := rest, frameOut := r.frame, restartDue := true
            queue := if r.origin = .queued then s.port.queue.tail else s.port.queue } })
        ∧ (s.port.restartDue = true → exec .replySent s = .next s ∧
          exec (.restartTakesEffect pins) s
            = .next { State.atReset pins s.clock s.pending with replyCount := s.replyCount }))
    ∧ (∀ (pins : ResetPins) (failed : Bool) (s : State),
      exec (.pinReset pins) s = .next { State.atReset pins s.clock s.pending with replyCount := s.replyCount }
        ∧ exec (.powerOn pins failed) s = .next
          { State.atReset pins
              (if s.clock.backupTripped || failed then
                { year := 2000, month := 1, day := 1, hour := 0, minute := 0, second := 0, weekday := 5, subsec := 0
                  valid := false, stopped := s.clock.stopped, backupTripped := false }
              else s.clock) s.pending with replyCount := s.replyCount })

/-- What a reset leaves (R38, R61, R89, R110, R136, R153, R167, R176, R190, R192): the tables undefined, the scanners STOPPED, the gear lines
OFF, no sweep, every counter 0, nothing latched but CLOCK_INVALID where the clock is not valid, every enable set, the port empty,
and the device STARTING. -/
def Obligations.AResetLeavesTheReferenceState : Prop :=
  ∀ (pins : ResetPins) (clock : Clock) (pending : List Instr),
    let t := State.atReset pins clock pending
    (∀ i, t.sensor i = none) ∧ (∀ z, t.zone z = none) ∧ (∀ i, t.gearAt i = none) ∧ (∀ i, t.period i = none)
      ∧ (∀ l, (t.sensorLine l).scan = .stopped ∧ (t.sensorLine l).txn = none)
      ∧ (∀ l, l < 4 → (t.gearLine l).state = .off ∧ (t.gearLine l).queue = [] ∧ (t.gearLine l).supply = pins.lpwr.getLsbD l)
      ∧ (∀ g, (t.segment g).state = .idle ∧ (t.segment g).phase = .clear ∧ (t.segment g).manual = false
        ∧ (t.segment g).target = none)
      ∧ (∀ i, i < 8 → (t.occInput i).active = pins.occ.getLsbD i ∧ (t.occInput i).changed = false)
      ∧ (∀ z, t.calResult z = CalResult.empty) ∧ t.sweep.state = .idle ∧ (∀ k, t.live.get k = 0 ∧ t.shadow.get k = 0)
      ∧ t.shadowHeader.snapshotTick = none
      ∧ (∀ f, hasFlag t.flags.latched f = (decide (f = .clockInvalid) && !clock.valid)) ∧ t.flags.enables = 0xFFFF
      ∧ t.port.rx = .hunt ∧ t.port.queue = [] ∧ t.port.replies = [] ∧ t.loader.device = .starting
      ∧ t.loader.load = none ∧ t.loader.save = none ∧ t.clock = clock ∧ t.straps = pins.straps

/-! ### Chapter 1: sensors and zones -/

/-- DEFINE_SENSOR (R4, R5, R6, R7): an accepted request stores the entry with its fields, clamped and defaulted. A new entry, and one
whose identity changes, has a new entry's runtime fields. A change of identity or of enabled resolves the zones that name the
sensor, and a change of identity or a disabling discards a transaction in progress with it. SET_SENSOR (R4, R5, R7): an accepted
request stores the fields it carries and keeps the others, with the same consequences of a change of enabled. Nothing else changes.
That the zones are resolved in ascending index is the model's choice (log 49). -/
def Obligations.SensorsAreDefinedAndSet : Prop :=
  (∀ (tag : Byte) (r : DefineSensor) (s : State) (kind : SensorKind),
    Undisturbed s → s.sensors.length = Config.nSensors → r.index < Config.nSensors →
    SensorKind.ofCode r.kind = some kind → r.line < 2 → 0x08 ≤ r.address → r.address ≤ 0x77 →
    ¬ (r.line = 0 ∧ r.address = 0x5A) → (∀ v ∈ r.enabled, v ≤ 1) → (∀ v ∈ r.scale, 64 ≤ v ∧ v ≤ 1023) →
    (∀ j x, j ≠ r.index → s.sensor j = some x → ¬ (x.line = r.line ∧ x.address = r.address)) →
    s.kindFree r.index kind = true → (sensorsBeside s r.index r.line).length < 32 →
    let on := flagGiven true r.enabled
    let scale := r.scale.getD 256
    let fall := clampGiven 1 16 12 r.fallCoeff
    let rise := clampGiven 1 16 2 r.riseCoeff
    let old := s.sensor r.index
    let kept := old.filter fun x => decide (x.kind = kind ∧ x.line = r.line ∧ x.address = r.address)
    let y := match kept with
      | none => newSensor kind r.line r.address on scale fall rise
      | some x => keptSensor x on scale fall rise
    let drops := (old.isSome && kept.isNone) || kept.any fun x => x.enabled && !on
    let u := { s with
      sensors := s.sensors.set r.index (some y)
      sensorLines := if drops then discarding r.index s.sensorLines else s.sensorLines }
    ∃ t, exec (.defineSensor tag r) s
        = .next (answered .defineSensor tag (okOrAdjusted (outside 1 16 r.fallCoeff || outside 1 16 r.riseCoeff))
            (encSensorDef y) t)
      ∧ (if old.isNone || kept.any (fun x => decide (x.enabled = on)) then t = u else NamersResolved r.index u t))
    ∧ (∀ (tag : Byte) (r : SetSensor) (s : State) (x : Sensor),
      Undisturbed s → r.index < Config.nSensors → s.sensor r.index = some x →
      (∀ v ∈ r.enabled, v ≤ 1) → (∀ v ∈ r.scale, 64 ≤ v ∧ v ≤ 1023) →
      let on := flagGiven x.enabled r.enabled
      let y := keptSensor x on (r.scale.getD x.scale) (clampGiven 1 16 x.fallCoeff r.fallCoeff)
        (clampGiven 1 16 x.riseCoeff r.riseCoeff)
      let u := { s with
        sensors := s.sensors.set r.index (some y)
        sensorLines := if x.enabled && !on then discarding r.index s.sensorLines else s.sensorLines }
      ∃ t, exec (.setSensor tag r) s
          = .next (answered .setSensor tag (okOrAdjusted (outside 1 16 r.fallCoeff || outside 1 16 r.riseCoeff))
              (encSensorDef y) t)
        ∧ (if on = x.enabled then t = u else NamersResolved r.index u t))

/-- DELETE_SENSOR (R8): it is refused with IN_USE while a zone names the sensor as control sensor or a segment as window sensor. Otherwise
the entry becomes undefined and a transaction in progress with it is discarded. Nothing else changes, the MISSES counters included. -/
def Obligations.DeleteSensorEmptiesTheEntry : Prop :=
  ∀ (tag : Byte) (i : Nat) (s : State), Undisturbed s → i < Config.nSensors → (s.sensor i).isSome = true →
    ((∃ z, Names s i z) ∨ (∃ g ∈ s.segments, g.cfg.windowSensor = some i) →
        exec (.deleteSensor tag i) s = .next (answered .deleteSensor tag .inUse [] s))
      ∧ ((∀ z, ¬ Names s i z) → (∀ g ∈ s.segments, g.cfg.windowSensor ≠ some i) →
        exec (.deleteSensor tag i) s = .next (answered .deleteSensor tag .ok []
          { s with sensors := s.sensors.set i none, sensorLines := discarding i s.sensorLines }))

/-- DEFINE_ZONE of a new zone (R9, R10, R11, R12): the entry has the fields given and the defaults; its level is the fallback level, or 0
where it is disabled; nothing is learned, held or overridden; it stands in the state that the resolution order gives; and its level
is handed to the gear lines. The fallback reason of a zone that is not in FALLBACK is the model's choice (log 10). DELETE_ZONE (R13,
R91, R172): an accepted request makes the entry undefined, removes the zone from every contribution list, and sets its calibration
result to NONE; the time of an override still open is counted in OVERRIDE_S. Nothing else changes. -/
def Obligations.ZonesAreMadeAndDeleted : Prop :=
  (∀ (tag : Byte) (r : DefineZone) (s : State) (band : Band),
      Undisturbed s → s.zones.length = Config.nZones → r.index < Config.nZones → s.zone r.index = none →
      Band.ofCode r.band = some band → r.segment < Config.nSegments → ZoneFieldsInRange r.fields →
      ZoneRefsFree s r.index r.fields →
      (∀ y x, s.zone y = some x → ¬ (x.cfg.segment = r.segment ∧ x.cfg.band = band)) →
      let d := zoneGiven (zoneDefaults r.segment band) r.fields
      let level := if d.enabled then d.fallbackLevel else 0
      ∃ x, exec (.defineZone tag r) s
          = .next (answered .defineZone tag (zoneResult r.fields (zoneDefaults r.segment band) d) (encZoneDef d)
            (State.handLevel r.index { s with zones := s.zones.set r.index (some x) }))
        ∧ x = { cfg := d, state := s.resolved r.index x, level := level, target := level, setpoint := 0
                holdShade := s.shading r.segment, holdCal := false
                occupancy := match d.occInput with
                  | none => .occupied
                  | some i => if (s.occInput i).active then .occupied else .vacant
                vacancy := none, fallbackSource := .none
                fallbackReason := if s.resolved r.index x = .fallback then s.fallbackReasonOf r.index x else .noSensor
                underlit := false, daylitOff := false, outputLost := false, belowMinSince := none, overrideLevel := 0
                overrideExpiry := none, overrideActive := false, lastEval := none
                learned := { rho := 0, learnCount := 0, accSum := 0, accCount := 0, bins := List.replicate 48 none }
                rem := { electric := 0, saved := 0, daylit := 0, override := 0, mark := none } })
    ∧ (∀ (tag : Byte) (z : Nat) (s : State) (x : Zone),
      Undisturbed s → z < Config.nZones → s.zone z = some x → z < s.live.zones.length →
      (∀ i g, s.gearAt i = some g → g.cfg.role ≠ .driver z) →
      ∃ t, exec (.deleteZone tag z) s = .next (answered .deleteZone tag .ok [] t)
        ∧ t = { s with
            zones := s.zones.set z none
            sensors := s.sensors.map (Option.map fun c => { c with contrib := c.contrib.filter fun k => k.zone != z })
            calResults := s.calResults.set z CalResult.empty, flags := t.flags, live := t.live }
        ∧ (x.rem.mark = none → t.live = s.live ∧ t.flags = s.flags)
        ∧ (∀ m, x.rem.mark = some m → FlagsGrow [.counterSaturated] s t
          ∧ (∀ k, k ≠ .overrideS z → t.live.get k = s.live.get k)
          ∧ t.live.get (.overrideS z)
            = min 4294967295 (s.live.get (.overrideS z) + (x.rem.override + s.tick.since m) / 1000)))

/-- SET_ZONE, and DEFINE_ZONE of a defined zone (R4, R9 to R12, R86): the fields carried are stored, by DEFINE_ZONE over the
defaults, and each change has the consequence that R11, R12 and R86 give it: the levels below a raised lmin, what is learned, the
holds, the occupancy, the drivers' setup on a line whose group changes, the resolution, and the level that is handed on. Nothing
else changes. Which changes resolve the zone is the model's inference (log 39); that the drivers
of a changed line group are marked and served before the level is handed is its choice (log 61). -/
def Obligations.ADefinedZoneIsRedefined : Prop :=
  (∀ (tag : Byte) (r : SetZone) (s : State) (x : Zone),
      Undisturbed s → r.index < Config.nZones → s.zone r.index = some x → ZoneFieldsInRange r.fields →
      ZoneRefsFree s r.index r.fields →
      let d := zoneGiven x.cfg r.fields
      ∃ t y, exec (.setZone tag r) s = .next (answered .setZone tag (zoneResult r.fields x.cfg d) (encZoneDef d) t)
        ∧ ZoneRedefined s t r.index x d y)
    ∧ (∀ (tag : Byte) (r : DefineZone) (s : State) (band : Band) (x : Zone),
      Undisturbed s → r.index < Config.nZones → s.zone r.index = some x → Band.ofCode r.band = some band →
      r.segment < Config.nSegments → ZoneFieldsInRange r.fields → ZoneRefsFree s r.index r.fields →
      (∀ y w, s.zone y = some w → y ≠ r.index → ¬ (w.cfg.segment = r.segment ∧ w.cfg.band = band)) →
      let d := zoneGiven (zoneDefaults r.segment band) r.fields
      ∃ t y, exec (.defineZone tag r) s
          = .next (answered .defineZone tag (zoneResult r.fields (zoneDefaults r.segment band) d) (encZoneDef d) t)
        ∧ ZoneRedefined s t r.index x d y)

/-- DEFINE_SEGMENT (R4, R14, R15): an accepted request replaces every static field of the segment. A changed window sensor makes
the glare phase CLEAR, stops the glare and release timers, and sets ρ and n of the segment's zones to 0. Nothing else changes. -/
def Obligations.DefineSegmentStoresTheEntry : Prop :=
  ∀ (tag : Byte) (r : DefineSegment) (s : State),
    Undisturbed s → r.index < Config.nSegments →
    let d := segmentGiven r
    1000 ≤ d.glareThreshold → d.glareThreshold ≤ 60000 → 1 ≤ d.releaseThreshold → d.releaseThreshold < d.glareThreshold →
    5 ≤ d.glareDelay → d.glareDelay ≤ 600 → 60 ≤ d.releaseDelay → d.releaseDelay ≤ 3600 → d.glarePosition ≤ 100 →
    d.openPosition ≤ 100 → d.settle ≤ 120 → 5 ≤ d.travelTimeout → d.travelTimeout ≤ 255 → d.retryLimit ≤ 5 →
    (∀ i ∈ d.windowSensor, i < 64 ∧ ∃ c, s.sensor i = some c ∧ c.kind = .window) →
    exec (.defineSegment tag r) s = .next (answered .defineSegment tag .ok (encSegmentDef d)
      (if (s.segment r.index).cfg.windowSensor = d.windowSensor then
        { s with segments := s.segments.modify r.index fun g => { g with cfg := d } }
      else
        { s with
          segments := s.segments.modify r.index fun g => { g with cfg := d, phase := .clear, glareStart := none }
          zones := s.zones.map (Option.map fun x =>
            if x.cfg.segment = r.index then { x with learned := { x.learned with rho := 0, learnCount := 0 } } else x) }))

/-! ### Chapter 1: gear, curves and reads -/

/-- DEFINE_GEAR of a new gear, and of one that keeps its line, address and role (R16, R17, R128): a new gear has the fields given, the
defaults and a new gear's runtime, and is marked dirty with setup on an UP line; a kept one keeps its runtime, and one that is not
SILENT on an UP line is marked with setup for a changed loss level, and for its value otherwise. The dirty set is served. -/
def Obligations.DefineGearMakesAGearOrKeepsItsRuntime : Prop :=
  (∀ (tag : Byte) (r : DefineGear) (s : State),
      Undisturbed s → s.gear.length = Config.nGear → s.gearAt r.index = none → GearFieldsInRange r → GearRefsFree s r →
      let d := gearGiven r (roleGiven r.kind r.owner)
      let up := (s.gearLine r.line).isUp
      ∃ u, exec (.defineGear tag r) s = .next (answered .defineGear tag .ok (encGearDef d) (State.tendLine r.line u))
        ∧ u = { s with
            gear := s.gear.set r.index (some { newGear d with dirty := if up then .setup else .clear })
            gearLines := if up then s.gearLines.modify r.line fun x =>
                { x with queue := x.queue.filter fun e => !(!e.inFlight && decide (e.target = .gear r.index)
                    && (decide (e.cmd = .setValue) || decide (e.cmd = .shadeGoto))) }
              else s.gearLines
            zones := u.zones, flags := u.flags }
        ∧ OutputRecomputed d.role s u)
    ∧ (∀ (tag : Byte) (r : DefineGear) (s : State) (g : Gear),
      Undisturbed s → s.gearAt r.index = some g → GearFieldsInRange r → GearRefsFree s r →
      let d := gearGiven r (roleGiven r.kind r.owner)
      g.cfg.line = d.line → g.cfg.address = d.address → g.cfg.role = d.role →
      let marks := (s.gearLine r.line).isUp && decide (g.state ≠ .silent)
      let setup := marks && decide (g.cfg.lossLevel ≠ d.lossLevel)
      let mark := if setup then .setup
        else if marks && decide (g.cfg ≠ d) && decide (g.dirty = .clear) then .value else g.dirty
      ∃ u, exec (.defineGear tag r) s
          = .next (answered .defineGear tag .ok (encGearDef d) (if g.cfg = d then u else State.tendLine r.line u))
        ∧ u = { s with
            gear := s.gear.set r.index (some { g with cfg := d, dirty := mark })
            gearLines := if setup then s.gearLines.modify r.line fun x =>
                { x with queue := x.queue.filter fun e => !(!e.inFlight && decide (e.target = .gear r.index)
                    && (decide (e.cmd = .setValue) || decide (e.cmd = .shadeGoto))) }
              else s.gearLines
            zones := u.zones, flags := u.flags }
        ∧ OutputRecomputed d.role s u)

/-- DEFINE_GEAR of a defined gear, whatever it changes (R17, R128, R145): the static fields are replaced. A changed line or address
gives the gear a new entry's runtime fields, takes the entries that wait for it from its old line, and marks it dirty with setup; a
changed kind resets its shade fields, and a move to another segment those of the shade logic, with the gear not arrived in a MOVING
group until it reports a position; a change of role or of loss level marks it with setup, and any other change for its value. The
group that a SHADE leaves is tested. No other gear's state, no zone's static fields and no line's state change. That the gear stays
not arrived until its next position answer, through every later travel, is the model's choice (log 48), and so is what an entry
becomes that waits for its resend (log 42). -/
def Obligations.DefineGearReplacesTheStaticFields : Prop :=
  ∀ (tag : Byte) (r : DefineGear) (s : State) (g : Gear),
    Undisturbed s → s.gearAt r.index = some g → GearFieldsInRange r → GearRefsFree s r →
    let d := gearGiven r (roleGiven r.kind r.owner)
    let same := decide (g.cfg.line = d.line ∧ g.cfg.address = d.address)
    let shape := match g.cfg.role, d.role with
      | .driver _, .driver _ => { g with cfg := d }
      | .shade a, .shade b =>
        if a = b then { g with cfg := d }
        else { g with
          cfg := d, unreported := decide ((s.segment b).state = .moving), unchanged := 0, retriesUsed := 0, shadeFaulted := false }
      | _, _ => { g with
          cfg := d, position := none, atLimit := false, unreported := false, unchanged := 0, retriesUsed := 0, shadeFaulted := false }
    let stored := { s with
      gear := s.gear.set r.index (some (if same then shape else newGear d))
      gearLines := if same then s.gearLines
        else s.gearLines.modify g.cfg.line fun x => { x with queue := abandoned r.index x.queue } }
    ∃ t u, exec (.defineGear tag r) s = .next (answered .defineGear tag .ok (encGearDef d) t)
      ∧ u = { stored with zones := u.zones, flags := u.flags }
      ∧ OutputsRecomputed (fun z => g.cfg.role = .driver z ∨ d.role = .driver z) stored u
      ∧ (let left := match g.cfg.role with
          | .shade a => if d.role = .shade a then u else State.gearLeftGroup a u
          | .driver _ => u
        t = if same = false then State.tendLine d.line (State.tendLine g.cfg.line (setupMarked r.index left))
          else if g.cfg.role ≠ d.role ∨ g.cfg.lossLevel ≠ d.lossLevel then State.tendLine d.line (setupMarked r.index left)
          else if g.cfg ≠ d then State.tendLine d.line (State.markValue r.index left)
          else left)
      ∧ (t.gearAt r.index).map gearCore = some (gearCore (if same then shape else newGear d))
      ∧ (∀ j, j ≠ r.index → (t.gearAt j).map gearCore = (s.gearAt j).map gearCore)
      ∧ t.gearLines.map lineCore = s.gearLines.map lineCore
      ∧ t.zones.map (Option.map Zone.cfg) = s.zones.map (Option.map Zone.cfg)
      ∧ t.segments.map Segment.cfg = s.segments.map Segment.cfg
      ∧ t = { s with
          zones := t.zones, segments := t.segments, gear := t.gear, gearLines := t.gearLines, flags := t.flags, live := t.live }
      ∧ FlagsGrow [.counterSaturated, .zoneFallback, .outputLost] s t ∧ CountersGrow isDeferralOrOverride s t

/-- DELETE_GEAR (R18, R145): the entry of a DRIVER becomes undefined, the entries that wait for it leave its line's queue, and one in flight
is attributed to no gear; OUTPUT_LOST of its zone is recomputed, and the dirty set is served. With the last SHADE of a group the group
goes to IDLE, and one that keeps gear makes its fault and arrival tests. No other gear's state, no zone's static fields and no line's
state change. That an entry waiting for its resend or between its setup stages leaves at once is the model's inference (log 42). -/
def Obligations.DeleteGearRemovesTheGear : Prop :=
  (∀ (tag : Byte) (i : Nat) (s : State) (g : Gear) (z : Nat),
      Undisturbed s → i < Config.nGear → s.gearAt i = some g → g.cfg.role = .driver z →
      ∃ u, exec (.deleteGear tag i) s = .next (answered .deleteGear tag .ok [] (State.tendLine g.cfg.line u))
        ∧ u = { s with
            gear := s.gear.set i none
            gearLines := s.gearLines.modify g.cfg.line fun x => { x with queue := abandoned i x.queue }
            zones := u.zones, flags := u.flags }
        ∧ OutputRecomputed (.driver z) s u)
    ∧ (∀ (tag : Byte) (i : Nat) (s : State) (g : Gear) (seg : Nat),
      Undisturbed s → i < Config.nGear → s.gearAt i = some g → g.cfg.role = .shade seg → seg < s.segments.length →
      ∃ t, exec (.deleteGear tag i) s = .next (answered .deleteGear tag .ok [] t)
        ∧ t = State.tendLine g.cfg.line (State.gearLeftGroup seg { s with
            gear := s.gear.set i none
            gearLines := s.gearLines.modify g.cfg.line fun x => { x with queue := abandoned i x.queue } })
        ∧ t.gearAt i = none ∧ (∀ j, j ≠ i → (t.gearAt j).map gearCore = (s.gearAt j).map gearCore)
        ∧ ((∀ j h, s.gearAt j = some h → j ≠ i → h.cfg.role ≠ .shade seg) → (t.segment seg).state = .idle)
        ∧ t.gearLines.map lineCore = s.gearLines.map lineCore
        ∧ t.zones.map (Option.map Zone.cfg) = s.zones.map (Option.map Zone.cfg)
        ∧ t.segments.map Segment.cfg = s.segments.map Segment.cfg
        ∧ t = { s with
            zones := t.zones, segments := t.segments, gear := t.gear, gearLines := t.gearLines, flags := t.flags, live := t.live }
        ∧ FlagsGrow [.counterSaturated, .zoneFallback] s t ∧ CountersGrow isDeferralOrOverride s t)

/-- DEFINE_CURVE (R19): the points are stored, and every DRIVER of the curve on an UP line that is not SILENT is marked dirty for its
value, but a trim-pending one on a CONGESTED line; the dirty sets are served. -/
def Obligations.DefineCurveStoresThePoints : Prop :=
  ∀ (tag : Byte) (c : Nat) (points : List Nat) (s : State),
    Undisturbed s → c < Config.nCurves → points.length = 9 → (∀ p ∈ points, p ≤ 254) → points.Pairwise (· ≤ ·) →
    exec (.defineCurve tag c points) s = .next (answered .defineCurve tag .ok (encCurve points)
      (State.tendLines
        { s with
          curves := s.curves.set c points
          gear := s.gear.map (Option.map fun g =>
            if g.isDriver ∧ g.cfg.curve = c ∧ (s.gearLine g.cfg.line).isUp ∧ g.state ≠ .silent ∧ g.dirty = .clear
                ∧ ¬ ((s.gearLine g.cfg.line).congested ∧ g.trimPending) then { g with dirty := .value } else g) }))

/-- READ_SENSOR_DEF, READ_ZONE_DEF, READ_SEGMENT_DEF, READ_GEAR_DEF and READ_CURVE (R20): while the device is RUNNING, whatever save or
sweep is in progress, the reply carries the stored static fields, NO_SUCH for an undefined entry, and OUT_OF_RANGE for an index outside
the table; nothing else changes. The fields of each reply stand in their order with the sizes of R201; of these, the sizes of fields
that fit two of its lines are the model's inference (log 13). -/
def Obligations.DefinitionReadsAnswerTheStoredFields : Prop :=
  (∀ (tag : Byte) (i : Nat) (s : State), s.running = true →
    exec (.readSensorDef tag i) s = .next (if 64 ≤ i then answered .readSensorDef tag .outOfRange [] s
        else match s.sensor i with
          | some x => answered .readSensorDef tag .ok (encSensorDef x) s
          | none => answered .readSensorDef tag .noSuch [] s)
      ∧ exec (.readZoneDef tag i) s = .next (if 48 ≤ i then answered .readZoneDef tag .outOfRange [] s
        else match s.zone i with
          | some x => answered .readZoneDef tag .ok (encZoneDef x.cfg) s
          | none => answered .readZoneDef tag .noSuch [] s)
      ∧ exec (.readSegmentDef tag i) s = .next (if 16 ≤ i then answered .readSegmentDef tag .outOfRange [] s
        else answered .readSegmentDef tag .ok (encSegmentDef (s.segment i).cfg) s)
      ∧ exec (.readGearDef tag i) s = .next (if 192 ≤ i then answered .readGearDef tag .outOfRange [] s
        else match s.gearAt i with
          | some x => answered .readGearDef tag .ok (encGearDef x.cfg) s
          | none => answered .readGearDef tag .noSuch [] s)
      ∧ exec (.readCurve tag i) s = .next (if 4 ≤ i then answered .readCurve tag .outOfRange [] s
        else answered .readCurve tag .ok (encCurve (s.curve i)) s))
    ∧ (∀ x : Sensor, encSensorDef x = bytesOf [(1, x.kind.code), (1, x.line), (1, x.address), (1, x.enabled.toNat), (2, x.scale),
      (1, x.fallCoeff), (1, x.riseCoeff)])
    ∧ (∀ d : ZoneDef, encZoneDef d = bytesOf [(1, d.segment), (1, d.band.code), (1, d.controlSensor.getD 255),
      (1, d.groups.g0.getD 255), (1, d.groups.g1.getD 255), (1, d.groups.g2.getD 255), (1, d.groups.g3.getD 255),
      (1, d.defaultCurve), (2, d.lmin), (2, d.fallbackLevel), (1, d.profile), (1, d.occInput.getD 255), (1, d.upRate),
      (1, d.downRate), (2, d.deadband), (2, d.offDelay), (2, d.onMargin), (1, d.enabled.toNat)])
    ∧ (∀ d : SegmentDef, encSegmentDef d = bytesOf [(1, d.windowSensor.getD 255), (2, d.glareThreshold), (2, d.releaseThreshold),
      (2, d.glareDelay), (2, d.releaseDelay), (1, d.glarePosition), (1, d.openPosition), (2, d.settle), (2, d.travelTimeout),
      (1, d.retryLimit)])
    ∧ (∀ d : GearDef, encGearDef d = bytesOf ((1, d.line) :: (1, d.address) :: (match d.role with
      | .driver z => [(1, 0), (1, z)]
      | .shade seg => [(1, 1), (1, seg)]) ++ [(1, d.curve), (2, d.trim), (1, d.minValue), (1, d.lossLevel)]))
    ∧ (∀ points : List Nat, encCurve points = points.map (BitVec.ofNat 8))
    ∧ [SensorKind.ceiling, .window].map SensorKind.code = [0, 1] ∧ [Band.a, .b, .c].map Band.code = [0, 1, 2]

/-! ### The requests' own checks -/

/-- The checks of the floor model's requests and of WRITE_CONTRIB, in their order (R4, R5, R6, R8, R9, R10, R13, R14, R16, R18, R19, R43,
R180, R183): each list is tested from its front, after the device state, the first that fails gives the result, and the request then changes
nothing and carries no fields. A DEFINE_CURVE without nine points has a wrong length, before every other check. That a flag field
above 1 is out of range is the model's inference (log 14). -/
def Obligations.TheFloorModelsRequestsAreCheckedInOrder : Prop :=
  ∀ s : State,
    (∀ r : DefineSensor, ChecksInOrder .defineSensor (.defineSensor · r) s
        [(Quiet s, .conflict), (r.index < 64, .outOfRange), (r.kind ≤ 1, .outOfRange),
          (r.line < 2 ∧ 0x08 ≤ r.address ∧ r.address ≤ 0x77 ∧ ¬ (r.line = 0 ∧ r.address = 0x5A), .outOfRange),
          (GivenIn 0 1 r.enabled ∧ GivenIn 64 1023 r.scale, .outOfRange),
          ((∀ j x, j ≠ r.index → s.sensor j = some x → ¬ (x.line = r.line ∧ x.address = r.address))
            ∧ (r.kind = 1 → ∀ z, ¬ Names s r.index z)
            ∧ (r.kind = 0 → ∀ g ∈ s.segments, g.cfg.windowSensor ≠ some r.index), .inUse),
          ((sensorsBeside s r.index r.line).length < 32, .tableFull)])
      ∧ (∀ r : SetSensor, ChecksInOrder .setSensor (.setSensor · r) s
        [(Quiet s, .conflict), (r.index < 64, .outOfRange), ((s.sensor r.index).isSome = true, .noSuch),
          (GivenIn 0 1 r.enabled ∧ GivenIn 64 1023 r.scale, .outOfRange)])
      ∧ (∀ i, ChecksInOrder .deleteSensor (.deleteSensor · i) s
        [(Quiet s, .conflict), (i < 64, .outOfRange), ((s.sensor i).isSome = true, .noSuch),
          ((∀ z, ¬ Names s i z) ∧ ∀ g ∈ s.segments, g.cfg.windowSensor ≠ some i, .inUse)])
      ∧ (∀ r : DefineZone, ChecksInOrder .defineZone (.defineZone · r) s
        ([(Quiet s, .conflict), (r.index < 48, .outOfRange),
            (r.segment < 16 ∧ r.band ≤ 2 ∧ ZoneFieldsInRange r.fields, .outOfRange)] ++ controlNamed s r.fields.controlSensor
          ++ [(∀ y x, s.zone y = some x → y ≠ r.index → ¬ (x.cfg.segment = r.segment ∧ x.cfg.band.code = r.band), .inUse),
            (GroupsFree s r.index r.fields, .conflict)]))
      ∧ (∀ r : SetZone, ChecksInOrder .setZone (.setZone · r) s
        ([(Quiet s, .conflict), (r.index < 48, .outOfRange), ((s.zone r.index).isSome = true, .noSuch),
            (ZoneFieldsInRange r.fields, .outOfRange)] ++ controlNamed s r.fields.controlSensor
          ++ [(GroupsFree s r.index r.fields, .conflict)]))
      ∧ (∀ z, ChecksInOrder .deleteZone (.deleteZone · z) s
        [(Quiet s, .conflict), (z < 48, .outOfRange), ((s.zone z).isSome = true, .noSuch),
          (∀ i g, s.gearAt i = some g → g.cfg.role ≠ .driver z, .inUse)])
      ∧ (∀ r : DefineSegment, ChecksInOrder .defineSegment (.defineSegment · r) s
        [(Quiet s, .conflict), (r.index < 16, .outOfRange), (SegmentInRange (segmentGiven r), .outOfRange),
          (∀ i ∈ (segmentGiven r).windowSensor, (s.sensor i).isSome = true, .noSuch),
          (∀ i ∈ (segmentGiven r).windowSensor, ∀ c, s.sensor i = some c → c.kind = .window, .outOfRange)])
      ∧ (∀ r : DefineGear, ChecksInOrder .defineGear (.defineGear · r) s
        [(Quiet s, .conflict), (GearFieldsInRange r, .outOfRange), (r.kind = 0 → (s.zone r.owner).isSome = true, .noSuch),
          (∀ j g, s.gearAt j = some g → j ≠ r.index → ¬ (g.cfg.line = r.line ∧ g.cfg.address = r.address), .inUse),
          (r.kind = 1 → (shadesBeside s r.index r.owner).length < 4, .tableFull)])
      ∧ (∀ i, ChecksInOrder .deleteGear (.deleteGear · i) s
        [(Quiet s, .conflict), (i < 192, .outOfRange), ((s.gearAt i).isSome = true, .noSuch)])
      ∧ (∀ c points, points.length = 9 → ChecksInOrder .defineCurve (.defineCurve · c points) s
        [(Quiet s, .conflict), (c < 4, .outOfRange), ((∀ p ∈ points, p ≤ 254) ∧ points.Pairwise (· ≤ ·), .outOfRange)])
      ∧ (∀ tag c points, points.length ≠ 9 →
        exec (.defineCurve tag c points) s = .next (answered .defineCurve tag .badLength [] s))
      ∧ (∀ i, ChecksInOrder .readSensorDef (.readSensorDef · i) s [(i < 64, .outOfRange), ((s.sensor i).isSome = true, .noSuch)]
        ∧ ChecksInOrder .readZoneDef (.readZoneDef · i) s [(i < 48, .outOfRange), ((s.zone i).isSome = true, .noSuch)]
        ∧ ChecksInOrder .readSegmentDef (.readSegmentDef · i) s [(i < 16, .outOfRange)]
        ∧ ChecksInOrder .readGearDef (.readGearDef · i) s [(i < 192, .outOfRange), ((s.gearAt i).isSome = true, .noSuch)]
        ∧ ChecksInOrder .readCurve (.readCurve · i) s [(i < 4, .outOfRange)])
      ∧ (∀ r : WriteContrib, ChecksInOrder .writeContrib (.writeContrib · r) s
        [(Quiet s, .conflict), (r.index < 64, .outOfRange), ((s.sensor r.index).isSome = true, .noSuch),
          (r.entries.length ≤ 8 ∧ (∀ e ∈ r.entries, e.1 < 48 ∧ 1 ≤ e.2 ∧ e.2 ≤ 4095) ∧ (r.entries.map Prod.fst).Nodup
            ∧ GivenIn 0 255 r.darkOffset, .outOfRange),
          (∀ e ∈ r.entries, (s.zone e.1).isSome = true, .noSuch)])

/-- The checks of the other blocks' requests, in their order (R22, R23, R35, R44, R60, R82, R83, R88, R92, R109, R111, R114, R135, R138, R149,
R151, R152, R157, R160 to R162, R164, R166, R174, R175, R180, R183, R196, R199): each list is tested from its front, after the device state, the
first that fails gives the result, and the request then changes nothing and carries no fields. An action that LINE_CONTROL or
SHADE_COMMAND does not name is out of range. That CONFLICT comes first where a rule names no order is the model's inference (log 17),
and so are OUT_OF_RANGE for a set byte with an unnamed bit (log 15), for a flag above 1 (log 14) and for READ_SENSOR_LINE (log 36), and
SHADE_COMMAND's checks of every field under every action (log 18). -/
def Obligations.TheBlocksRequestsAreCheckedInOrder : Prop :=
  ∀ s : State,
    (∀ r : SetSensorLine, ChecksInOrder .setSensorLine (.setSensorLine · r) s
        [(Quiet s, .conflict), (r.line < 2, .outOfRange),
          (GivenIn 0 1 r.speed ∧ GivenIn 100 5000 r.pollInterval ∧ GivenIn 1 15 r.missLimit, .outOfRange)])
      ∧ (∀ z level duration, ChecksInOrder .overrideZone (.overrideZone · z level duration) s
        [(s.sweeping = false, .conflict), (z < 48, .outOfRange), ((s.zone z).isSome = true, .noSuch),
          (level ≤ 1000 ∧ duration ≤ 1440, .outOfRange)])
      ∧ (∀ r : StartCalibration, ChecksInOrder .startCalibration (.startCalibration · r) s
        [(Quiet s, .conflict),
          (1 ≤ r.parts ∧ r.parts ≤ 3 ∧ r.zones ≠ [] ∧ r.zones.Nodup ∧ (∀ z ∈ r.zones, z < 48) ∧ GivenIn 5 120 r.settle
            ∧ GivenIn 1 100 r.gainFloor ∧ GivenIn 1 100 r.driftLimit, .outOfRange),
          (∀ z ∈ r.zones, (s.zone z).isSome = true, .noSuch),
          (∀ z ∈ r.zones, ∀ x, s.zone z = some x → x.cfg.enabled = true, .conflict),
          (r.parts ≠ 2 → ∀ z x, s.zone z = some x → x.cfg.enabled = true → z ∈ r.zones, .conflict),
          (∀ z x, s.zone z = some x → x.cfg.enabled = true → x.state ≠ .override, .conflict),
          (∀ g ∈ s.segments, g.state ≠ .moving ∧ g.state ≠ .settling, .conflict),
          (∀ i g z, s.gearAt i = some g → g.cfg.role = .driver z → z ∈ r.zones → g.cfg.line < 4 →
            (s.gearLine g.cfg.line).state = .up, .conflict)])
      ∧ (∀ r : SetGearLine, ChecksInOrder .setGearLine (.setGearLine · r) s
        [(Quiet s, .conflict), (r.line < 4, .outOfRange),
          (GivenIn 0 7 r.rateCode ∧ GivenIn 1 7 r.attemptLimit ∧ GivenIn 0 60 r.auditInterval, .outOfRange)])
      ∧ (∀ l, ChecksInOrder .lineControl (.lineControlEnable · l) s [(l < 4, .outOfRange)]
        ∧ ChecksInOrder .lineControl (.lineControlDisable · l) s [(l < 4, .outOfRange)]
        ∧ ChecksInOrder .lineControl (.lineControlHold · l) s [(l < 4, .outOfRange), ((s.gearLine l).state ≠ .off, .conflict)]
        ∧ ChecksInOrder .lineControl (.lineControlRelease · l) s [(l < 4, .outOfRange)])
      ∧ (∀ seg position duration,
        let checks := [(s.sweeping = false, Result.conflict), (seg < 16 ∧ position ≤ 100 ∧ duration ≤ 1440, .outOfRange)]
        ChecksInOrder .shadeCommand (.shadeCommandGoto · seg position duration) s checks
          ∧ ChecksInOrder .shadeCommand (.shadeCommandStop · seg position duration) s checks
          ∧ ChecksInOrder .shadeCommand (.shadeCommandAuto · seg position duration) s checks)
      ∧ (∀ (line action : Byte), s.running = true → 4 ≤ action.toNat →
        (serveRequest Kind.lineControl.code [line, action] s).result = .outOfRange)
      ∧ (∀ (seg action position high low : Byte), s.running = true → 3 ≤ action.toNat →
        (serveRequest Kind.shadeCommand.code [seg, action, position, high, low] s).result
          = if s.sweeping then .conflict else .outOfRange)
      ∧ (∀ i, ChecksInOrder .clearShadeFault (.clearShadeFault · i) s [(i < 16, .outOfRange)]
        ∧ ChecksInOrder .readShade (.readShade · i) s [(i < 16, .outOfRange)]
        ∧ ChecksInOrder .readSensorLine (.readSensorLine · i) s [(i < 2, .outOfRange)]
        ∧ ChecksInOrder .readSensor (.readSensor · i) s [(i < 64, .outOfRange), ((s.sensor i).isSome = true, .noSuch)]
        ∧ ChecksInOrder .readContrib (.readContrib · i) s [(i < 64, .outOfRange), ((s.sensor i).isSome = true, .noSuch)]
        ∧ ChecksInOrder .readProfile (.readProfile · i) s [(i < 48, .outOfRange), ((s.zone i).isSome = true, .noSuch)]
        ∧ ChecksInOrder .readZone (.readZone · i) s [(i < 48, .outOfRange), ((s.zone i).isSome = true, .noSuch)]
        ∧ ChecksInOrder .releaseZone (.releaseZone · i) s [(i < 48, .outOfRange), ((s.zone i).isSome = true, .noSuch)]
        ∧ ChecksInOrder .readGear (.readGear · i) s [(i < 192, .outOfRange), ((s.gearAt i).isSome = true, .noSuch)]
        ∧ ChecksInOrder .readSchedule (.readSchedule · i) s [(i < 4, .outOfRange)])
      ∧ (∀ l first count, ChecksInOrder .readGearLine (.readGearLine · l first count) s
          [(l < 4, .outOfRange), (first ≤ 31 ∧ 1 ≤ count ∧ count ≤ 16, .outOfRange)]
        ∧ ChecksInOrder .readCalibration (.readCalibration · first count none) s
          [(first ≤ 47 ∧ 1 ≤ count ∧ count ≤ 12, .outOfRange)]
        ∧ (∀ z, ChecksInOrder .readCalibration (.readCalibration · first count (some z)) s [(z < 48, .outOfRange)])
        ∧ ChecksInOrder .readOccupancy (.readOccupancy · first count) s
          [(1 ≤ count ∧ count ≤ 24 ∧ first + count ≤ 48, .outOfRange)])
      ∧ (∀ set group first count, ChecksInOrder .readCounters (.readCounters · set group first count) s
        [(set ≤ 1 ∧ 1 ≤ count ∧ ∃ n most, (group = 0 ∧ n = 48 ∧ most = 12 ∨ group = 1 ∧ n = 4 ∧ most = 4
            ∨ group = 2 ∧ n = 64 ∧ most = 32 ∨ group = 3 ∧ n = 16 ∧ most = 16 ∨ group = 4 ∧ n = 1 ∧ most = 1)
          ∧ count ≤ most ∧ first + count ≤ n, .outOfRange)])
      ∧ (∀ n, ChecksInOrder .setShadeQuery (.setShadeQuery · n) s [(s.saving = false, .conflict), (1 ≤ n ∧ n ≤ 10, .outOfRange)]
        ∧ ChecksInOrder .snapshot (.snapshot · n) s [(n ≤ 1, .outOfRange)])
      ∧ (∀ r : SetClock, ChecksInOrder .setClock (.setClock · r) s
        [(2000 ≤ r.year ∧ r.year ≤ 2099 ∧ 1 ≤ r.month ∧ r.month ≤ 12 ∧ 1 ≤ r.day ∧ r.day ≤ daysInMonth r.year r.month
          ∧ r.hour ≤ 23 ∧ r.minute ≤ 59 ∧ r.second ≤ 59, .outOfRange)])
      ∧ (∀ p occupied unoccupied, ChecksInOrder .setProfileDefaults (.setProfileDefaults · p occupied unoccupied) s
        [(s.saving = false, .conflict), (p < 4, .outOfRange)])
      ∧ (∀ r : DefinePeriod, ChecksInOrder .definePeriod (.definePeriod · r) s
        [(s.saving = false, .conflict),
          (r.index < 32 ∧ r.profile < 4 ∧ 1 ≤ r.days ∧ r.days ≤ 127 ∧ r.startMin % 5 = 0 ∧ r.endMin % 5 = 0
            ∧ r.startMin < r.endMin ∧ r.endMin ≤ 1440, .outOfRange),
          (∀ j q, s.period j = some q → j ≠ r.index → q.profile = r.profile → BitVec.ofNat 7 r.days &&& q.days ≠ 0 →
            q.endMin ≤ r.startMin ∨ r.endMin ≤ q.startMin, .overlap)])
      ∧ (∀ i, ChecksInOrder .deletePeriod (.deletePeriod · i) s
        [(s.saving = false, .conflict), (i < 32, .outOfRange), ((s.period i).isSome = true, .noSuch)])
      ∧ (∀ i delay, ChecksInOrder .setOccInput (.setOccInput · i delay) s
        [(s.saving = false, .conflict), (i < 8, .outOfRange), (1 ≤ delay ∧ delay ≤ 120, .outOfRange)])
      ∧ ChecksInOrder .saveConfig .saveConfig s [(Quiet s, .conflict)]
      ∧ ChecksInOrder .loadDefaults .loadDefaults s [(Quiet s, .conflict)]
      ∧ (∀ w, ChecksInOrder .clearFlags (.clearFlags · w) s [] ∧ ChecksInOrder .setFlagEnables (.setFlagEnables · w) s []
        ∧ ChecksInOrder .getClock .getClock s [] ∧ ChecksInOrder .abortCalibration .abortCalibration s []
        ∧ ChecksInOrder .restart .restart s [])

/-! ### Reads -/

/-- The reads of the sensor lines, sensors, lists, learned state, zones, sweep, gear lines, gear, shades, clock, schedule,
occupancy and counters (R23, R35, R44, R60, R88, R109, R135, R152, R158, R162, R166, R175): while the device is RUNNING,
whatever save or sweep is in progress, the reply carries the state as it stands, and nothing else changes. The fields of each reply
stand in their order with the sizes of R201. Some bytes of these replies are the model's inference (log 13, 32, 33, 35, 52, 65) or its
choice (log 51, 74), some fields free values (log 21); the date's one-byte fields (log 13) and the codes of the fallback reasons
(log 59) and of a debounced level (log 60) are inferences. -/
def Obligations.StateReadsAnswerTheStateAsItStands : Prop :=
  (∀ (tag : Byte) (i first count : Nat) (s : State), s.running = true →
    (i < 2 → exec (.readSensorLine tag i) s = .next (answered .readSensorLine tag .ok (encScanner (s.sensorLine i)) s))
      ∧ (∀ x, i < 64 → s.sensor i = some x →
        exec (.readSensor tag i) s = .next (answered .readSensor tag .ok (encSensor x) s)
          ∧ exec (.readContrib tag i) s
            = .next (answered .readContrib tag .ok (u16 x.darkOffset ++ encContrib x.contrib) s))
      ∧ (∀ x, i < 48 → s.zone i = some x →
        exec (.readProfile tag i) s = .next (answered .readProfile tag .ok (encLearned x.learned) s)
          ∧ exec (.readZone tag i) s = .next (answered .readZone tag .ok (encZone s x) s))
      ∧ (first ≤ 47 → 1 ≤ count → count ≤ 12 → exec (.readCalibration tag first count none) s
          = .next (answered .readCalibration tag .ok (encSweep s first count) s))
      ∧ (i < 48 → exec (.readCalibration tag first count (some i)) s = .next (answered .readCalibration tag .ok
          (encCalResult (if (s.zone i).isSome then s.calResult i else CalResult.empty)) s))
      ∧ (i < 4 → first ≤ 31 → 1 ≤ count → count ≤ 16 → exec (.readGearLine tag i first count) s
          = .next (answered .readGearLine tag .ok (encGearLineStatus s i first count) s))
      ∧ (∀ g, i < 192 → s.gearAt i = some g →
        exec (.readGear tag i) s = .next (answered .readGear tag .ok (encGearStatus s i g) s))
      ∧ (i < 16 → exec (.readShade tag i) s = .next (answered .readShade tag .ok (encShade s i) s))
      ∧ exec (.getClock tag) s = .next (answered .getClock tag .ok
          (encDate s.clock ++ flag8 s.clock.valid ++ flag8 s.clock.stopped ++ u16 (60 * s.clock.hour + s.clock.minute)
            ++ u8 ((60 * s.clock.hour + s.clock.minute) / 30)) s)
      ∧ (i < 4 → exec (.readSchedule tag i) s = .next (answered .readSchedule tag .ok
          (encProfile (s.profile i) ++ listOf (fun q => u8 q.1 ++ encPeriod q.2) (s.periodsOf i)) s))
      ∧ (1 ≤ count → count ≤ 24 → first + count ≤ 48 → exec (.readOccupancy tag first count) s
          = .next (answered .readOccupancy tag .ok ((List.range 8).flatMap (fun o => encOccInput (s.occInput o))
              ++ listOf (fun e => encOccZone s e.1 e.2.1 e.2.2) (s.occZones first count)) s))
      ∧ (∀ n most, (i = 0 ∧ n = 48 ∧ most = 12) ∨ (i = 1 ∧ n = 4 ∧ most = 4) ∨ (i = 2 ∧ n = 64 ∧ most = 32)
            ∨ (i = 3 ∧ n = 16 ∧ most = 16) ∨ (i = 4 ∧ n = 1 ∧ most = 1) →
          first < n → 1 ≤ count → count ≤ most → first + count ≤ n →
          exec (.readCounters tag 0 i first count) s = .next (answered .readCounters tag .ok
              (u8 0 ++ u8 i ++ u8 first ++ tick32 s.liveSince ++ encInstances s.live i first count) s)
            ∧ exec (.readCounters tag 1 i first count) s = .next (answered .readCounters tag .ok
              (u8 1 ++ u8 i ++ u8 first ++ optTick s.shadowHeader.snapshotTick ++ optTick s.shadowHeader.sinceTick
                ++ flag8 s.shadowHeader.cleared ++ encInstances s.shadow i first count) s)))
    ∧ (∀ x : SensorLine, encScanner x = bytesOf ([(1, x.speed.code), (2, x.pollInterval), (1, x.missLimit), (1, x.scan.code),
      (1, x.cycleOpen.toNat), (1, x.lastVisited.getD 255), (1, x.startPending.toNat)] ++ maybeTick x.cycleStart
        ++ maybeTick x.lastCompletion))
    ∧ (∀ x : Sensor, encSensor x = bytesOf [(1, x.health.code), (1, x.missCount), (1, x.recoverCount), (2, x.lastCount),
        (1, x.lastRange), (1, x.overrange.toNat), (2, x.lux), (4, x.timestamp.toNat), (2, x.darkOffset), (2, x.daylight),
        (2, x.daylightF), (1, x.primed.toNat), (1, x.contrib.length)]
      ∧ encContrib x.contrib = bytesOf ((1, x.contrib.length) :: x.contrib.flatMap fun c => [(1, c.zone), (2, c.gain)]))
    ∧ (∀ m : Learned, encLearned m = bytesOf (m.bins.flatMap (maybe 2) ++ [(2, m.rho), (1, m.learnCount),
      (1, (decide (16 ≤ m.learnCount)).toNat), (4, m.accSum), (4, m.accCount)]))
    ∧ (∀ (s : State) (x : Zone),
      let causes := x.holdShade.toNat + 2 * x.holdCal.toNat
      encZone s x = bytesOf ([(1, x.state.code), (1, causes), (2, x.level), (2, x.target), (2, x.setpoint), (1, x.occupancy.code),
          (1, x.fallbackSource.code), (1, x.fallbackReason.code), (1, x.underlit.toNat), (1, x.daylitOff.toNat),
          (1, x.outputLost.toNat)] ++ maybeTick x.belowMinSince ++ (2, x.overrideLevel) :: maybeTick x.overrideExpiry
        ++ (1, x.overrideActive.toNat) :: maybeTick x.lastEval ++ [(1, causes), (2, x.overrideLevel),
          (4, secondsUntil s.tick x.overrideExpiry), (2, match x.belowMinSince with
            | some t => s.tick.since t / 1000
            | none => Config.unstated .belowMinElapsed s.replyCount),
          (1, match x.cfg.controlSensor.bind s.sensor with
            | some c => c.line
            | none => 0)]))
    ∧ (∀ r : CalResult, encCalResult r = bytesOf ((1, r.result.code) :: maybe 4 (r.ownGain.map fun k => (BitVec.ofInt 32 k).toNat)
      ++ maybe 4 (r.drift.map fun k => (BitVec.ofInt 32 k).toNat) ++ [(1, r.written), (1, r.discarded)]))
    ∧ (∀ (s : State) (first count : Nat),
      let w := s.sweep
      let shown := (w.zones.drop first).take count
      encSweep s first count = bytesOf ([(1, w.state.code), (1, w.dark.toNat + 2 * w.gains.toNat), (1, w.zones.length)]
          ++ w.zones.map (fun z => (1, z)) ++ [(1, w.current.getD 255), (1, w.zonesDone), (2, w.settleS), (2, w.gainFloor),
          (2, w.driftLimit), (4, w.startTick.toNat), (1, w.lastOutcome.code)] ++ (match w.abortCause with
            | .absent => [(1, 255), (1, 255)]
            | .host => [(1, 0), (1, 255)]
            | .line l => [(1, 1), (1, l)]) ++ [(1, w.darkSet), (1, shown.length)])
        ++ shown.flatMap fun z => encCalResult (if (s.zone z).isSome then s.calResult z else CalResult.empty))
    ∧ (∀ (s : State) (l first count : Nat),
      let x := s.gearLine l
      let shown := (x.queue.drop first).take count
      encGearLineStatus s l first count = bytesOf [(1, x.enabled.toNat), (1, x.rateCode), (1, x.attemptLimit), (1, x.highWatermark),
          (1, x.lowWatermark), (2, x.auditInterval), (1, x.state.code), (1, x.congested.toNat), (1, x.supply.toNat),
          (1, x.queue.length), (1, shown.length)]
        ++ shown.flatMap encEntry ++ bytesOf [(1, howMany s.gear.length s.gearAt fun g => decide (g.cfg.line = l ∧ g.dirty ≠ .clear)),
          (1, howMany s.gear.length s.gearAt fun g => decide (g.cfg.line = l ∧ g.trimPending = true)), (1, x.auditPos.getD 255)])
    ∧ (∀ e : Entry, encEntry e = bytesOf ((1, match e.target with
          | .gear i => i
          | .group k => 0xC0 + k)
        :: (1, match e.cmd with
          | .setValue => 0
          | .queryValue => 1
          | .queryStatus => 2
          | .setLossLevel => 3
          | .setGroup => 4
          | .shadeGoto => 5
          | .shadeStop => 6
          | .shadeQuery => 7)
        :: (match e.cmd with
          | .setLossLevel | .setGroup => [(1, e.value), (1, e.group.getD 255)]
          | .setValue | .shadeGoto => [(1, 0), (1, e.value)]
          | _ => [(1, 0), (1, 0)]) ++ [(1, e.origin.code), (1, e.attempts), (1, e.inFlight.toNat)]))
    ∧ (∀ (s : State) (i : Nat) (g : Gear), encGearStatus s i g
      = bytesOf [(1, g.state.code), (1, g.lampFail.toNat), (1, g.expected.getD 255), (1, g.confirmed.getD 255), (1, g.dirty.code),
          (1, g.trimPending.toNat), (1, g.position.getD 255), (1, g.atLimit.toNat)]
        ++ encGearDef g.cfg
        ++ bytesOf [(1, ((s.gearLine g.cfg.line).queue.any fun e => !e.orphan && decide (e.target = .gear i)).toNat)])
    ∧ (∀ (s : State) (seg : Nat) (group : List Nat), GearInOrder s (fun h => h.cfg.role = .shade seg) group →
      let g := s.segment seg
      encShadeHead g = bytesOf [(1, g.manual.toNat), (1, g.state.code), (1, g.target.getD 255), (1, g.phase.code)]
        ∧ encShade s seg = encShadeHead g ++ bytesOf ([(4, secondsUntil s.tick g.manualExpiry),
          (2, match g.glareStart with
            | some t => s.tick.since t / 1000
            | none => Config.unstated .glareElapsed s.replyCount),
          (2, match g.travel.or g.settle with
            | some t => (t.len - s.tick.since t.start + 999) / 1000
            | none => Config.unstated .travelRemaining s.replyCount),
          (2, g.travelTimeoutInForce), (2, g.settleInForce), (1, g.retryLimitInForce), (1, group.length)]
          ++ group.flatMap (fun i => match s.gearAt i with
            | some h => [(1, i), (1, h.cfg.line), (1, h.cfg.address), (1, h.state.code), (1, h.position.getD 255),
              (1, h.atLimit.toNat), (1, h.unchanged), (1, h.retriesUsed), (1, h.shadeFaulted.toNat), (1, (s.hasArrived seg i).toNat)]
            | none => []) ++ [(2, s.shadeQuery)]))
    ∧ (∀ c : Clock, encDate c = bytesOf [(2, c.year), (1, c.month), (1, c.day), (1, c.hour), (1, c.minute), (1, c.second), (1, c.weekday)])
    ∧ (∀ (p : Profile) (q : Period), encProfile p = bytesOf [(2, p.occupiedSp), (2, p.unoccupiedSp)]
      ∧ encPeriod q = bytesOf [(1, q.profile), (1, q.days.toNat), (2, q.startMin), (2, q.endMin), (2, q.occupiedSp), (2, q.unoccupiedSp)])
    ∧ (∀ o : OccInput, encOccInput o = bytesOf [(1, o.raw.toNat), (1, if o.active then 0 else 1), (2, o.delay), (1, o.changed.toNat)])
    ∧ (∀ (s : State) (z i : Nat) (x : Zone), encOccZone s z i x = bytesOf [(1, z), (1, i), (1, x.occupancy.code), (2, match x.vacancy with
      | some t => (t.len - s.tick.since t.start + 999) / 1000
      | none => Config.unstated .vacancyRemaining (48 * s.replyCount + z))])
    ∧ (∀ (c : Counters) (group first count : Nat) (names : Nat → List Counter),
      (group = 0 ∧ names = fun i => [.electric i, .saved i, .daylitS i, .overrideS i])
        ∨ (group = 1 ∧ names = fun i => [.frames i, .retries i, .silentEvents i, .groupFrames i, .deferrals i, .mismatches i])
        ∨ (group = 2 ∧ names = fun i => [.misses i]) ∨ (group = 3 ∧ names = fun i => [.moves i, .stalls i])
        ∨ (group = 4 ∧ names = fun _ => [.framingErrors, .busyReplies]) →
      encInstances c group first count
        = bytesOf ((1, count) :: (List.range' first count).flatMap fun i => (names i).map fun k => (4, c.get k)))
    ∧ [Speed.khz100, .khz400].map Speed.code = [0, 1]
    ∧ [ScanState.stopped, .waiting, .scanning, .paused].map ScanState.code = [0, 1, 2, 3]
    ∧ [Health.disabled, .absent, .ok, .suspect, .failed].map Health.code = [0, 1, 2, 3, 4]
    ∧ [ZoneState.disabled, .tracking, .fallback, .hold, .override, .calibrating].map ZoneState.code = [0, 1, 2, 3, 4, 5]
    ∧ [Occupancy.occupied, .vacancyPending, .vacant].map Occupancy.code = [0, 1, 2]
    ∧ [FallbackSource.none, .windowRatio, .profile, .fixed].map FallbackSource.code = [0, 1, 2, 3]
    ∧ [FallbackReason.noSensor, .sensorFailed, .noGain].map FallbackReason.code = [0, 1, 2]
    ∧ [ShadeState.idle, .moving, .settling, .faulted].map ShadeState.code = [0, 1, 2, 3]
    ∧ [GlarePhase.clear, .glarePending, .glared, .releasePending].map GlarePhase.code = [0, 1, 2, 3]
    ∧ [GearState.unknown, .present, .silent].map GearState.code = [0, 1, 2] ∧ [Dirty.clear, .value, .setup].map Dirty.code = [0, 1, 2]
    ∧ [LineState.off, .starting, .up, .down, .held].map LineState.code = [0, 1, 2, 3, 4]
    ∧ [Origin.zone, .audit, .shade, .setup].map Origin.code = [0, 1, 2, 3]
    ∧ [SweepState.idle, .preparing, .baseSettle, .baseRead, .stepOn, .stepSettle, .stepRead, .stepOff, .restoreSettle, .restoreRead,
      .finishing, .aborting].map SweepState.code = List.range 12
    ∧ [CalKind.none, .ok, .weak, .drift, .aborted].map CalKind.code = [0, 1, 2, 3, 4]

/-! ### Chapters 2 and 3: sensors and daylight -/

/-- SET_SENSOR_LINE (R22), SET_PROFILE_DEFAULTS (R160), SET_SHADE_QUERY (R138), SET_OCC_INPUT (R164), DEFINE_PERIOD and
DELETE_PERIOD (R161, R162): an accepted request stores its fields, the setpoints clamped to 5000 lux; nothing else changes. The two bytes of the shade
query interval and of the vacancy delay in the replies are the model's inference (log 13). -/
def Obligations.ParameterRequestsStoreTheirFields : Prop :=
  ∀ (tag : Byte) (s : State), s.running = true → s.saving = false →
    (∀ r : SetSensorLine, s.sweeping = false → r.line < 2 → (∀ v ∈ r.speed, v ≤ 1) →
        (∀ v ∈ r.pollInterval, 100 ≤ v ∧ v ≤ 5000) → (∀ v ∈ r.missLimit, 1 ≤ v ∧ v ≤ 15) →
        let u := { s with sensorLines := s.sensorLines.modify r.line fun x => { x with
          speed := if r.speed = some 0 then .khz100 else if r.speed = some 1 then .khz400 else x.speed
          pollInterval := r.pollInterval.getD x.pollInterval, missLimit := r.missLimit.getD x.missLimit } }
        exec (.setSensorLine tag r) s
          = .next (answered .setSensorLine tag .ok (encSensorLine (u.sensorLine r.line)) u))
      ∧ (∀ p occupied unoccupied, p < 4 →
        let u := { s with profiles := s.profiles.modify p fun x =>
          { occupiedSp := clampGiven 0 5000 x.occupiedSp occupied
            unoccupiedSp := clampGiven 0 5000 x.unoccupiedSp unoccupied } }
        exec (.setProfileDefaults tag p occupied unoccupied) s = .next (answered .setProfileDefaults tag
          (okOrAdjusted (outside 0 5000 occupied || outside 0 5000 unoccupied)) (encProfile (u.profile p)) u))
      ∧ (∀ n, 1 ≤ n → n ≤ 10 →
        exec (.setShadeQuery tag n) s = .next (answered .setShadeQuery tag .ok (u16 n) { s with shadeQuery := n }))
      ∧ (∀ i n, i < 8 → 1 ≤ n → n ≤ 120 → exec (.setOccInput tag i n) s
          = .next (answered .setOccInput tag .ok (u16 n)
              { s with occ := s.occ.modify i fun o => { o with delay := n } }))
      ∧ (∀ r : DefinePeriod, r.index < 32 → r.profile < 4 → 1 ≤ r.days → r.days ≤ 127 → r.startMin % 5 = 0 →
        r.endMin % 5 = 0 → r.startMin < r.endMin → r.endMin ≤ 1440 →
        let p : Period := { profile := r.profile, days := BitVec.ofNat 7 r.days, startMin := r.startMin, endMin := r.endMin
                            occupiedSp := min 5000 r.occupiedSp, unoccupiedSp := min 5000 r.unoccupiedSp }
        (∀ j q, s.period j = some q → j ≠ r.index → q.profile = p.profile → p.days &&& q.days ≠ 0 →
          q.endMin ≤ p.startMin ∨ p.endMin ≤ q.startMin) →
        exec (.definePeriod tag r) s = .next (answered .definePeriod tag
          (okOrAdjusted (decide (5000 < r.occupiedSp) || decide (5000 < r.unoccupiedSp))) (encPeriod p)
          { s with periods := s.periods.set r.index (some p) }))
      ∧ (∀ i, i < 32 → (s.period i).isSome = true → exec (.deletePeriod tag i) s
          = .next (answered .deletePeriod tag .ok [] { s with periods := s.periods.set i none }))

/-- WRITE_CONTRIB (R40, R43): an accepted request stores its entries in ascending zone order, and the dark offset where it carries one;
nothing else changes. The two bytes of the dark offset in the reply are the model's inference (log 13). -/
def Obligations.WriteContribStoresTheListInZoneOrder : Prop :=
  ∀ (tag : Byte) (r : WriteContrib) (s : State) (x : Sensor),
    Undisturbed s → r.index < 64 → s.sensor r.index = some x → r.entries.length ≤ 8 →
    (∀ e ∈ r.entries, (s.zone e.1).isSome = true ∧ e.1 < 48 ∧ 1 ≤ e.2 ∧ e.2 ≤ 4095) → (r.entries.map Prod.fst).Nodup →
    (∀ v ∈ r.darkOffset, v ≤ 255) →
    ∃ l : List Contrib, l.Perm (r.entries.map fun e => ⟨e.1, e.2⟩) ∧ (l.map Contrib.zone).Pairwise (· < ·)
      ∧ exec (.writeContrib tag r) s = .next (answered .writeContrib tag .ok
          (u16 (r.darkOffset.getD x.darkOffset) ++ encContrib l)
          { s with
            sensors := s.sensors.set r.index
              (some { x with contrib := l, darkOffset := r.darkOffset.getD x.darkOffset }) })

/-- A step of the filter moves the filtered daylight toward the estimate by at least 1 lux while they differ, never past it, and onto
it with a coefficient of 16; the coefficients are those stored when the step is made (R50). -/
def Obligations.AFilterStepMovesTowardTheEstimate : Prop :=
  ∀ (i : Nat) (s : State) (x : Sensor), s.sensor i = some x → x.primed = true → 1 ≤ x.fallCoeff → x.fallCoeff ≤ 16 →
    1 ≤ x.riseCoeff → x.riseCoeff ≤ 16 → x.daylightF ≤ 65535 →
    ∃ y, (s.processReading i .step).sensor i = some y ∧ y.daylight ≤ 65535 ∧ y.daylightF ≤ 65535
      ∧ (y.daylight < x.daylightF → y.daylightF = x.daylightF - ((x.daylightF - y.daylight) * x.fallCoeff + 15) / 16
        ∧ y.daylight ≤ y.daylightF ∧ y.daylightF < x.daylightF ∧ (x.fallCoeff = 16 → y.daylightF = y.daylight))
      ∧ (x.daylightF < y.daylight → y.daylightF = x.daylightF + ((y.daylight - x.daylightF) * x.riseCoeff + 15) / 16
        ∧ y.daylightF ≤ y.daylight ∧ x.daylightF < y.daylightF ∧ (x.riseCoeff = 16 → y.daylightF = y.daylight))
      ∧ (y.daylight = x.daylightF → y.daylightF = x.daylightF)

/-- SENSOR_TRANSACTION_END with a good answer (R28, R30, R32, R46 to R50): the reading is converted, the health and the filter follow, the
cycle's report takes the reading, and a window sensor's reading, its filtered daylight, is noticed by each segment that names it
(R146); then the scanner goes on. That the segments are noticed in ascending index is the model's choice (log 49). -/
def Obligations.AGoodReadingIsTaken : Prop :=
  (∀ (s : State) (i : Nat) (x : Sensor) (segments : List Nat), s.sensor i = some x → segments.Pairwise (· < ·) →
      (∀ seg, seg ∈ segments ↔ ∃ g, s.segments[seg]? = some g ∧ g.cfg.windowSensor = some i) →
      s.noticeWindow i = segments.foldl (fun u seg => State.windowReading seg x.daylightF u) s)
  ∧ ∀ (l : Fin 2) (r : SensorReply) (s : State) (t : SensorTxn) (x : Sensor),
    (s.sensorLine l).txn = some t → t.discard = false → s.sensor t.sensor = some x → x.health ≠ .disabled → goodAnswer r →
    let y := sensorAfterReading s x ((r.status.toNat / 16) % 4) (256 * r.countHigh.toNat + r.countLow.toNat)
      (r.status.getLsbD 1)
    let u := { s with
      sensors := s.sensors.set t.sensor (some y)
      sensorLines := s.sensorLines.modify l fun n => { n with txn := none, report := n.report ++ [(t.sensor, y.lux)] } }
    exec (.sensorTransactionEnd l (some r)) s = .next (State.afterTxn l
      (if x.kind = .window ∧ ¬ (x.health = .failed ∧ x.recoverCount = 0) then u.noticeWindow t.sensor else u))

/-- SENSOR_TRANSACTION_END without a good answer and SENSOR_TRANSACTION_TIMEOUT (R28, R29, R33, R34): the miss is counted, an
entry into FAILED latches SENSOR_FAULT and resolves the zones that name the sensor; then the scanner goes on. A discarded outcome,
good or not, changes nothing but that the scanner goes on. That a timeout acts whenever a transaction is in progress is the model's
choice (log 2), and so are the ascending index in which the zones are resolved (log 49) and that a miss_limit set during the
transaction is the one applied (log 73). -/
def Obligations.AMissIsCounted : Prop :=
  ∀ (l : Fin 2) (r : Option SensorReply) (s : State) (t : SensorTxn), (s.sensorLine l).txn = some t →
    let v := { s with sensorLines := s.sensorLines.modify l fun n => { n with txn := none } }
    (t.discard = true → exec (.sensorTransactionEnd l r) s = .next (State.afterTxn l v)
        ∧ exec (.sensorTransactionTimeout l) s = .next (State.afterTxn l v))
      ∧ (∀ x, (∀ a ∈ r, ¬ goodAnswer a) → t.discard = false → s.sensor t.sensor = some x →
        let y := sensorAfterMiss (s.sensorLine l).missLimit x
        let u := ({ v with sensors := s.sensors.set t.sensor (some y) } : State).countBy (.misses t.sensor) 1
        ∃ w, (if y.health = .failed ∧ x.health ≠ .failed then NamersResolved t.sensor (u.latch .sensorFault) w else w = u)
          ∧ exec (.sensorTransactionEnd l r) s = .next (State.afterTxn l w)
          ∧ exec (.sensorTransactionTimeout l) s = .next (State.afterTxn l w))

/-- POLL_INTERVAL_EXPIRY (R24 to R27, R37), and what follows a transaction: in WAITING a cycle opens and its first sensor is
visited, or an empty cycle completes; in SCANNING the start is pending and the overrun is flagged; in PAUSED it is pending.
After a transaction the next sensor is visited, or the cycle completes and a pending start follows at once; a save that waits
for SL0 is granted the line (R36). A completion (R27) takes the tick, closes the cycle and empties its report; each enabled zone
of the line is resolved and evaluated in ascending index (R67), the line's overrides accrue their time (R172), and the sweep's
collections take the report (R97). That an expiry acts whenever its timer runs, and that nothing else changes where it does not,
is the model's choice (log 2, log 27), and so is that the grant comes before the completion of a cycle whose last transaction has
ended (log 62). -/
def Obligations.TheScannerVisitsItsSensorsInOrder : Prop :=
  ∀ (l : Fin 2) (s : State), s.sensorLines.length = 2 →
    let line := s.sensorLine l
    (line.interval.isSome = true →
      let stopped : State := { s with sensorLines := s.sensorLines.modify l fun x => { x with interval := none } }
      let waits : State := { s with sensorLines := s.sensorLines.modify l fun x => { x with interval := none, startPending := true } }
      let opened := cycleOpened l s
      (line.scan = .waiting → ∀ i, VisitsNext opened l i →
          exec (.pollIntervalExpiry l) s = .next (transacting l i opened))
        ∧ (line.scan = .waiting → (∀ i, ¬ VisitsNext opened l i) →
          exec (.pollIntervalExpiry l) s = .next (State.completeCycle l opened))
        ∧ (line.scan = .scanning → exec (.pollIntervalExpiry l) s = .next (waits.latch .sensorLineOverrun))
        ∧ (line.scan = .paused → exec (.pollIntervalExpiry l) s = .next waits)
        ∧ (line.scan = .stopped → exec (.pollIntervalExpiry l) s = .next stopped))
      ∧ (line.interval = none → exec (.pollIntervalExpiry l) s = .next s)
      ∧ (l = 1 ∨ (∀ j, s.loader.save = some j → j.phase ≠ .waitGrant) → CycleGoesOn l s (State.afterTxn l s))
      ∧ (∀ j, l = 0 → s.loader.save = some j → j.phase = .waitGrant → State.afterTxn l s = { s with
          sensorLines := s.sensorLines.modify 0 fun x => if x.scan = .stopped then x else { x with scan := .paused }
          loader := { s.loader with save := some { j with phase := .writing } } })
      ∧ (∀ zones : List Nat, ZonesInOrder s (fun x => x.cfg.enabled = true ∧ evalLineOf s x = l) zones →
        let closed : State := { s with sensorLines := s.sensorLines.modify l fun x => { x with
          lastCompletion := some s.tick, cycleOpen := false, scan := .waiting, report := [] } }
        ∃ t, OverridesAccrued l (zones.foldl (resolvedThenEvaluated l) closed) t
          ∧ State.completeCycle l s = State.takeReport l line.report t)

/-! ### Chapter 4: resolution and evaluation -/

/-- A zone's resolution (R63 to R66, R172): the state by the order, the effects of an entry, ZONE_FALLBACK, the override time, and a
changed level that is handed on. The setpoint in force (R163). An evaluation of a TRACKING or FALLBACK zone (R67 to R81): the day
and its source, the need, the target, the slew, the record for the counters (R170, R171), and what a TRACKING evaluation and a
half-hour boundary learn (R53, R54, R57, R58): a boundary changes what each zone has learned and nothing else. -/
def Obligations.AZoneIsResolvedAndEvaluated : Prop :=
  (∀ (s : State) (z : Nat) (x : Zone), s.zone z = some x →
      let n := stateByOrder s z x
      let y := resolvedZone s z n x
      let u := State.resolveHeld z s
      s.resolved z x = n
        ∧ u = { s with zones := s.zones.set z (some y), flags := u.flags, live := u.live }
        ∧ FlagsGrow [.counterSaturated, .zoneFallback] s u
        ∧ hasFlag u.flags.latched .zoneFallback = (hasFlag s.flags.latched .zoneFallback
          || (decide (n = .fallback) && decide (x.state ≠ .fallback) && decide (x.state ≠ .disabled)))
        ∧ (∀ k, k ≠ .overrideS z ∨ x.state ≠ .override ∨ n = .override → u.live.get k = s.live.get k)
        ∧ (∀ m, x.state = .override → n ≠ .override → x.rem.mark = some m → z < s.live.zones.length →
          u.live.get (.overrideS z) = min 4294967295 (s.live.get (.overrideS z) + (x.rem.override + s.tick.since m) / 1000))
        ∧ State.resolve z s = if y.level = x.level then u else State.handLevel z u)
    ∧ (∀ (s : State) (x : Zone),
      let minute := 60 * s.clock.hour + s.clock.minute
      let covers := fun i q => s.period i = some q ∧ q.profile = x.cfg.profile ∧ q.days.getLsbD s.clock.weekday = true
        ∧ q.startMin ≤ minute ∧ minute < q.endMin
      (∀ i q, s.clock.valid = true → covers i q → (∀ j p, j < i → ¬ covers j p) →
          s.setpointOf x = if x.occupancy = .vacant then q.unoccupiedSp else q.occupiedSp)
        ∧ (s.clock.valid = false ∨ (∀ i q, ¬ covers i q) → s.setpointOf x =
          if x.occupancy = .vacant then (s.profile x.cfg.profile).unoccupiedSp else (s.profile x.cfg.profile).occupiedSp))
    ∧ (∀ (s : State) (x : Zone),
      let window := match (s.segment x.cfg.segment).cfg.windowSensor.bind s.sensor with
        | none => none
        | some w => if serves w ∧ 16 ≤ x.learned.learnCount then some (w.daylightF * x.learned.rho / 1024) else none
      let bin := if s.clock.valid then x.learned.bins.getD ((60 * s.clock.hour + s.clock.minute) / 30) none else none
      s.dayOf x =
        if x.state = .tracking then (.none, (x.cfg.controlSensor.bind s.sensor).map Sensor.daylightF)
        else if x.fallbackReason ≠ .sensorFailed then (.fixed, none)
        else match window, bin with
          | some d, _ => (.windowRatio, some d)
          | none, some d => (.profile, some d)
          | none, none => (.fixed, none))
    ∧ (∀ (s : State) (z line : Nat) (x : Zone), s.zone z = some x → x.state = .tracking ∨ x.state = .fallback →
      let sp := s.setpointOf x
      let src := s.dayOf x
      let gain := ownGainOf s z x
      let need := fun day : Nat => (x.cfg.controlSensor.bind s.sensor).bind fun c => gain.map fun g : Nat => Demand.mk
        ((sp : Int) - day - ((c.contrib.filter fun k => k.zone != z).map fun k => rounded (k.gain * s.levelOf k.zone) 1000).sum) g
      let dt := match x.lastEval with
        | some t => min 5000 (s.tick.since t)
        | none => (s.sensorLine line).pollInterval
      let a := x.aim s.tick sp (src.2.bind need)
      let y := { a with
        setpoint := sp, fallbackSource := src.1, lastEval := some s.tick
        level := slew x.cfg.lmin x.cfg.deadband (allowance x.cfg.upRate dt) (allowance x.cfg.downRate dt) x.level a.target }
      let u : State := { s with zones := s.zones.set z (some y) }
      let v := if y.level = x.level then u else State.handLevel z u
      State.evaluate line z s = State.recordEval z { oldLevel := x.level, dt := dt, setpoint := sp, gain := gain, day := src.2 }
        (match src.2 with
          | some day => if x.state = .tracking then State.accumulate z day (State.learnRatio z day v) else v
          | none => v))
    ∧ (∀ (x : Zone) (now : Tick) (sp : Nat) (d : Demand), 0 < sp → 0 < d.gain →
      x.aim now 0 (some d) = { x with target := 0, belowMinSince := none, underlit := false }
        ∧ x.aim now 0 none = { x with target := 0, belowMinSince := none, underlit := false }
        ∧ x.aim now sp none
          = { x with target := x.cfg.fallbackLevel, belowMinSince := none, daylitOff := false, underlit := false }
        ∧ ∃ raw : Nat, (d.need ≤ 0 → raw = 0) ∧ (0 < d.need → d.need * 1000 ≤ raw * d.gain ∧ raw * d.gain < d.need * 1000 + d.gain)
          ∧ x.aim now sp (some d) =
            let t0 := min 1000 raw
            let lit := { x with underlit := decide (1000 < raw) }
            if x.cfg.offDelay = 0 then { lit with target := max x.cfg.lmin t0, belowMinSince := none, daylitOff := false }
            else if x.daylitOff = true then
              if (x.cfg.onMargin : Int) < d.need then { lit with target := max x.cfg.lmin t0, daylitOff := false }
              else { x with target := 0, underlit := false }
            else if x.cfg.lmin ≤ t0 then { lit with target := t0, belowMinSince := none }
            else match x.belowMinSince with
              | none => { lit with target := x.cfg.lmin, belowMinSince := some now }
              | some since => if x.cfg.offDelay * 60000 ≤ now.since since then
                  { x with target := 0, belowMinSince := none, daylitOff := true, underlit := false }
                else { lit with target := x.cfg.lmin })
    ∧ (∀ lmin deadband up down level target : Nat, LevelLegal lmin level → LevelLegal lmin target → 1 ≤ lmin →
      let new := slew lmin deadband up down level target
      (target ≠ 0 → level ≠ 0 → target ≤ level + deadband → level ≤ target + deadband → new = level)
        ∧ (target = 0 → new = if lmin + down ≤ level then level - down else 0)
        ∧ (target ≠ 0 → level = 0 → new = max lmin (min target up))
        ∧ (level ≠ 0 → level + deadband < target → new = min target (level + up))
        ∧ (target ≠ 0 → target + deadband < level → new = max target (level - down))
        ∧ LevelLegal lmin new)
    ∧ (∀ code dt : Nat, 15 ≤ code → allowance code dt = 1000)
    ∧ (∀ dt : Nat, [0, 1, 2, 3, 4, 5, 6, 7, 8, 9, 10, 11, 12, 13, 14].map (fun code => allowance code dt)
      = [1, 2, 5, 10, 20, 40, 60, 100, 150, 200, 300, 500, 750, 1000, 2000].map fun r => max 1 (r * dt / 1000))
    ∧ (∀ (s : State) (z : Nat) (x : Zone) (r : EvalRecord), s.zone z = some x → z < s.live.zones.length →
      let t := State.recordEval z r s
      let saved := match r.gain with
        | some g => (min 1000 ((r.setpoint * 1000 + g - 1) / g) - r.oldLevel) * r.dt
        | none => 0
      let daylit := match r.day with
        | some d => if 0 < r.setpoint ∧ r.setpoint ≤ d then r.dt else 0
        | none => 0
      let adds := fun before remainder added : Nat => min 4294967295 (before + (remainder + added) / 1000)
      t.live.get (.electric z) = adds (s.live.get (.electric z)) x.rem.electric (r.oldLevel * r.dt)
        ∧ t.live.get (.saved z) = adds (s.live.get (.saved z)) x.rem.saved saved
        ∧ t.live.get (.daylitS z) = adds (s.live.get (.daylitS z)) x.rem.daylit daylit
        ∧ (∀ k, k ≠ .electric z → k ≠ .saved z → k ≠ .daylitS z → t.live.get k = s.live.get k)
        ∧ FlagsGrow [.counterSaturated] s t
        ∧ t = { s with
          zones := s.zones.set z (some { x with rem := { x.rem with
            electric := (x.rem.electric + r.oldLevel * r.dt) % 1000, saved := (x.rem.saved + saved) % 1000
            daylit := (x.rem.daylit + daylit) % 1000 } })
          flags := t.flags, live := t.live })
    ∧ (∀ (s : State) (z day : Nat) (x : Zone), s.zone z = some x →
      let good := (x.cfg.controlSensor.bind s.sensor).any fun c => decide (c.health = .ok)
      let toward := fun d cur goal : Nat => if cur < goal then cur + max 1 ((goal - cur) / d)
        else if goal < cur then cur - max 1 ((cur - goal) / d) else cur
      State.learnRatio z day s = (match (s.segment x.cfg.segment).cfg.windowSensor.bind s.sensor with
          | none => s
          | some w => if good = true ∧ w.health = .ok ∧ 200 ≤ w.daylightF ∧ s.sweep.state = .idle then
              { s with zones := s.zones.set z (some { x with learned := { x.learned with
                rho := toward 16 x.learned.rho (min 1023 (day * 1024 / w.daylightF))
                learnCount := min 64 (x.learned.learnCount + 1) } }) }
            else s)
        ∧ State.accumulate z day s = (if good = true ∧ s.clock.valid = true ∧ s.sweep.state = .idle then
            { s with zones := s.zones.set z (some { x with learned := { x.learned with
              accSum := min 4294967295 (x.learned.accSum + day), accCount := min 4294967295 (x.learned.accCount + 1) } }) }
          else s)
        ∧ ∀ b : Nat, State.boundary b s = { s with zones := s.zones.map (Option.map fun y => { y with learned := { y.learned with
            accSum := 0, accCount := 0
            bins := if s.sweep.state ≠ .idle ∨ y.learned.accCount < 10 then y.learned.bins
              else y.learned.bins.modify b fun old =>
                let mean := y.learned.accSum / y.learned.accCount
                some (match old with
                  | none => mean
                  | some v => toward 4 v mean) } }) })

/-! ### Chapter 4: overrides -/

/-- OVERRIDE_ZONE (R12, R82): an accepted request records the override, with a level below the minimum raised to it; an enabled zone
stands in OVERRIDE at that level from this moment, and a level that differs from the one before is handed to the gear lines; a
disabled zone stays as it is but for the override recorded. -/
def Obligations.OverrideZoneTakesTheLevel : Prop :=
  ∀ (tag : Byte) (z level duration : Nat) (s : State) (x : Zone),
    s.running = true → s.sweeping = false → z < 48 → s.zone z = some x → level ≤ 1000 → duration ≤ 1440 →
    let stored := raised x.cfg.lmin level
    let w := { x with
      overrideActive := true, overrideLevel := stored
      overrideExpiry := if duration = 0 then none else some (s.tick + BitVec.ofNat 32 (duration * 60000)) }
    let y := if x.state = .override then { w with level := stored, target := stored } else overridden s.tick stored w
    let u : State := { s with zones := s.zones.set z (some y) }
    let result := okOrAdjusted (decide (stored ≠ level))
    (x.cfg.enabled = true → exec (.overrideZone tag z level duration) s
        = .next (answered .overrideZone tag result (u16 stored ++ u16 duration)
          (if x.level = stored then u else State.handLevel z u)))
      ∧ (x.cfg.enabled = false → x.state = .disabled → exec (.overrideZone tag z level duration) s
        = .next (answered .overrideZone tag result (u16 stored ++ u16 duration) { s with zones := s.zones.set z (some w) }))

/-- RELEASE_ZONE and OVERRIDE_EXPIRY (R83, R172): an active override ends, its time is counted in OVERRIDE_S, and the zone is
resolved, an enabled one with the level it had; without an active override, or an expiry, nothing changes. That an expiry acts whenever its timer runs, and that
nothing else changes where it does not, is the model's choice (log 2, log 27). -/
def Obligations.AnOverrideEnds : Prop :=
  ∀ (tag : Byte) (z : Fin 48) (s : State) (x : Zone), s.zone z = some x →
    let u := { s with zones := s.zones.set z (some { x with overrideActive := false, overrideExpiry := none }) }
    (x.overrideActive = false → (s.running = true →
          exec (.releaseZone tag z) s = .next (answered .releaseZone tag .ok [0] s))
        ∧ exec (.overrideExpiry z) s = .next s)
      ∧ (x.overrideActive = true → ∃ t, t = State.resolve z u ∧
        (s.running = true → exec (.releaseZone tag z) s = .next (answered .releaseZone tag .ok [1] t))
          ∧ exec (.overrideExpiry z) s = .next (if x.overrideExpiry.isSome then t else s)
          ∧ Resolves (fun k => k = z) u t
          ∧ (∀ y, t.zone z = some y → y.state ≠ .override ∧ y.overrideActive = false ∧ y.overrideExpiry = none
            ∧ (x.cfg.enabled = true → y.level = x.level))
          ∧ (∀ m, x.state = .override → x.rem.mark = some m → z < s.live.zones.length →
            t.live.get (.overrideS z)
              = min 4294967295 (s.live.get (.overrideS z) + (x.rem.override + s.tick.since m) / 1000)))

/-! ### Chapter 5: the calibration sweep -/

/-- START_CALIBRATION (R92, R93, R95, R96, R105): an accepted request makes the sweep record, sets the set's results to NONE, brings the
set's zones into CALIBRATING at level 0 and every other enabled zone into HOLD, and stops the glare and release timers; where the
output of the set's zones is settled already, the settle before the baseline begins at once. The zones of the set are resolved, the
others are held, and level 0 is then asked for each zone of the set, which hands it to the gear lines; that the zones are taken in
ascending index is the model's choice (log 49). The two bytes of settle, gain_floor and
drift_limit in the reply are the model's inference (log 13). -/
def Obligations.StartCalibrationStartsTheSweep : Prop :=
  (∀ (tag : Byte) (r : StartCalibration) (s : State), Undisturbed s → TablesWhole s → SweepMayStart s r →
    ∃ (zones measured : List Nat) (t : State),
      zones.Pairwise (· < ·) ∧ zones.Perm r.zones ∧ measured.Pairwise (· < ·)
        ∧ (∀ i, i ∈ measured ↔ ∃ x, s.sensor i = some x ∧ x.enabled = true)
        ∧ exec (.startCalibration tag r) s = .next (answered .startCalibration tag .ok
          (u8 r.parts ++ listOf u8 zones ++ u16 (r.settle.getD 30) ++ u16 (r.gainFloor.getD 5) ++ u16 (r.driftLimit.getD 10)) t)
        ∧ (∀ others : List Nat, others.Pairwise (· < ·) →
          (∀ z, z ∈ others ↔ z ∉ zones ∧ ∃ x, s.zone z = some x ∧ x.cfg.enabled = true) →
          let begun : State := { s with
            sweep := sweepStarted s r zones measured
            calResults := s.calResults.mapIdx fun z c => if z ∈ zones then CalResult.empty else c }
          let held := others.foldl (fun u z => State.setCalHold z true u) (zones.foldl (fun u z => State.resolve z u) begun)
          let dark := zones.foldl (fun u z => State.askLevel z 0 u)
            { held with segments := held.segments.map fun g => { g with glareStart := none } }
          t = dark.settledCheck)
        ∧ ((∀ z ∈ zones, Settled t z) → t.sweep = settling .baseSettle s.tick (sweepStarted s r zones measured))
        ∧ ((∃ z ∈ zones, ¬ Settled t z) → t.sweep = sweepStarted s r zones measured)
        ∧ (∀ z, z ∈ zones → t.calResult z = CalResult.empty
          ∧ ∀ x, t.zone z = some x → x.state = .calibrating ∧ x.level = 0 ∧ x.target = 0)
        ∧ (∀ z, z ∉ zones → t.calResult z = s.calResult z
          ∧ ∀ x y, s.zone z = some y → t.zone z = some x → x.cfg.enabled = true →
            x.holdCal = true ∧ (y.holdCal = false → y.overrideActive = false → x.state = .hold))
        ∧ (∀ g, (t.segment g).glareStart = none ∧ (t.segment g).phase = (s.segment g).phase)
        ∧ t.zones.map (Option.map Zone.cfg) = s.zones.map (Option.map Zone.cfg)
        ∧ t.segments.map Segment.cfg = s.segments.map Segment.cfg
        ∧ t.gear.map (Option.map gearCore) = s.gear.map (Option.map gearCore)
        ∧ t.gearLines.map lineCore = s.gearLines.map lineCore
        ∧ t = { s with
          zones := t.zones, segments := t.segments, gear := t.gear, gearLines := t.gearLines, sweep := t.sweep
          calResults := t.calResults, flags := t.flags, live := t.live })
    ∧ (∀ (s : State) (awaited : List Nat) (next : SweepState),
      (s.sweep.state = .preparing ∧ awaited = s.sweep.zones ∧ next = .baseSettle)
        ∨ (s.sweep.state = .stepOn ∧ awaited = s.sweep.current.toList ∧ next = .stepSettle)
        ∨ (s.sweep.state = .stepOff ∧ awaited = s.sweep.current.toList ∧ next = .restoreSettle) →
      ((∀ z ∈ awaited, Settled s z) → s.settledCheck = { s with sweep := settling next s.tick s.sweep })
        ∧ ((∃ z ∈ awaited, ¬ Settled s z) → s.settledCheck = s))
    ∧ (∀ s : State, s.sweep.state ≠ .preparing → s.sweep.state ≠ .stepOn → s.sweep.state ≠ .stepOff → s.settledCheck = s)
    ∧ (∀ (s : State) (z : Nat) (x : Zone) (held : Bool), s.zone z = some x →
      State.setCalHold z held s = if x.holdCal = held then s
        else State.resolve z { s with zones := s.zones.set z (some { x with holdCal := held }) })

/-- ABORT_CALIBRATION (R106, R107): without a sweep nothing changes; a sweep in progress ends as ABORTED by HOST, the result
of its zone in progress is ABORTED, no zone is held for it any longer, and CAL_FINISHED is latched. CAL_SETTLE_EXPIRY (R96,
R97): the read phase that follows the settle state is entered, with a fresh collection of each measured sensor; without a
settle timer nothing changes. That an expiry acts whenever its timer runs, and that nothing else changes where it does not, is
the model's choice (log 2, log 27). A sweep measures (R97 to R104): a completion adds to the line's open collections; a read phase
ends when all have closed; the baselines give the dark offsets; each zone is stepped to 1000 and back to 0; its gains and drift give
its outcome and its calibration write (R41, R42), and the last one ends the sweep. At an end the zones of the set are resolved, the
CAL holds leave, and the groups in AUTO recompute their glare phase (R104, R105, R107), in ascending index, which is the model's
choice (log 49). -/
def Obligations.ASweepIsAbortedOrReads : Prop :=
  ∀ (tag : Byte) (s : State),
    (s.running = true → s.sweeping = false →
        exec (.abortCalibration tag) s = .next (answered .abortCalibration tag .ok [0] s))
      ∧ (s.running = true → s.sweeping = true → ∃ t,
        exec (.abortCalibration tag) s = .next (answered .abortCalibration tag .ok [1] t)
          ∧ t = State.abortSweep .host s ∧ t.sweep = sweepEnded .aborted .host s.sweep
          ∧ t.calResults = (match s.sweep.current with
            | some z => s.calResults.set z { result := .aborted, ownGain := none, drift := none, written := 0, discarded := 0 }
            | none => s.calResults)
          ∧ (∀ z x, t.zone z = some x → x.holdCal = false) ∧ hasFlag t.flags.latched .calFinished = true
          ∧ t.zones.map (Option.map Zone.cfg) = s.zones.map (Option.map Zone.cfg)
          ∧ t.segments.map Segment.cfg = s.segments.map Segment.cfg
          ∧ t.gear.map (Option.map gearShadeCore) = s.gear.map (Option.map gearShadeCore)
          ∧ t.gearLines.map lineCore = s.gearLines.map lineCore
          ∧ t = { s with
            zones := t.zones, segments := t.segments, gear := t.gear, gearLines := t.gearLines, sweep := t.sweep
            calResults := t.calResults, flags := t.flags, live := t.live })
      ∧ (s.sweep.settle = none → exec .calSettleExpiry s = .next s)
      ∧ (∀ st, (s.sweep.state = .baseSettle ∧ st = .baseRead) ∨ (s.sweep.state = .stepSettle ∧ st = .stepRead)
            ∨ (s.sweep.state = .restoreSettle ∧ st = .restoreRead) →
          s.sweep.settle.isSome = true →
          let u := { s with sweep := { s.sweep with
            state := st, settle := none, measured := s.sweep.measured.map fun m => { m with coll := .opened 0 0 0 } } }
          exec .calSettleExpiry s = .next u.readCheck ∧ (s.sweep.measured ≠ [] → exec .calSettleExpiry s = .next u))
      ∧ (∀ (report : Option Nat) (v : Option Nat) (cycles good sum : Nat), good < 4 →
        (Collection.closed v).take report = .closed v
          ∧ (Collection.opened cycles good sum).take report =
            match report.filter fun e => decide (e < 65535) with
            | some e => if good = 3 then .closed (some (rounded (sum + e) 4))
              else if 7 ≤ cycles then .closed none else .opened (cycles + 1) (good + 1) (sum + e)
            | none => if 7 ≤ cycles then .closed none else .opened (cycles + 1) good sum)
      ∧ (∀ (l : Nat) (report : List (Nat × Nat)), State.takeReport l report s = State.readCheck { s with sweep := { s.sweep with
          measured := s.sweep.measured.map fun m =>
            if (s.sensor m.sensor).any (fun x => decide (x.line = l)) then
              { m with coll := m.coll.take ((report.find? fun r => r.1 == m.sensor).map Prod.snd) }
            else m } })
      ∧ ((∃ m ∈ s.sweep.measured, ∃ c g v, m.coll = .opened c g v) → s.readCheck = s)
      ∧ (∀ reading : Measured → Option Nat, (∀ m ∈ s.sweep.measured, m.coll = .closed (reading m)) →
          (s.sweep.measured.map Measured.sensor).Nodup →
        let step := fun (z : Nat) (u : State) => State.settledCheck (State.askLevel z 1000
          { u with sweep := { u.sweep with state := .stepOn, current := some z } })
        (s.sweep.state = .baseRead →
            let w := { s.sweep with measured := s.sweep.measured.map fun m => { m with base := reading m } }
            let dark := fun i => ((s.sweep.measured.find? fun m => m.sensor == i).bind reading).map fun b => min 255 b
            let u : State := if s.sweep.dark then
                { s with
                  sensors := s.sensors.mapIdx fun i o => o.map fun x => { x with darkOffset := (dark i).getD x.darkOffset }
                  sweep := { w with darkSet := (s.sweep.measured.filterMap reading).length } }
              else { s with sweep := w }
            s.readCheck = match s.sweep.gains, s.sweep.zones with
              | true, z :: _ => step z u
              | _, _ => u.finishSweep)
          ∧ (∀ z, s.sweep.state = .stepRead → s.sweep.current = some z →
            s.readCheck = State.settledCheck (State.askLevel z 0 { s with sweep := { s.sweep with
              state := .stepOff, measured := s.sweep.measured.map fun m => { m with step := reading m } } }))
          ∧ (∀ z, s.sweep.state = .restoreRead → s.sweep.current = some z →
            let u := State.decideZone z s
            let v : State := { u with sweep := { u.sweep with
              zonesDone := s.sweep.zonesDone + 1, measured := s.sweep.measured.map fun m => { m with base := reading m } } }
            s.readCheck = match s.sweep.zones.find? fun y => decide (z < y) with
              | some y => step y v
              | none => v.finishSweep))
      ∧ (∀ (z level : Nat) (x : Zone), s.zone z = some x →
        let u : State := { s with zones := s.zones.set z (some { x with level := level, target := level }) }
        State.askLevel z level s = if x.state ≠ .calibrating then s else if x.level = level then u else State.handLevel z u)
      ∧ (∀ (z : Nat) (x : Zone), s.zone z = some x →
        let control := x.cfg.controlSensor
        let here := control.bind fun c => s.sweep.measured.find? fun m => m.sensor == c
        let drift := here.bind driftMeasured
        let gain := here.bind gainMeasured
        let kind := outcomeDecided control.isSome drift gain s.sweep.driftLimit s.sweep.gainFloor
        let found := s.sweep.measured.filterMap fun m => match gainMeasured m with
          | some k => if (s.sweep.gainFloor : Int) ≤ k then some (m.sensor, k.toNat) else none
          | none => none
        let u := State.calibrationWrite z s.sweep.gainFloor found s
        let written := ((List.range u.sensors.length).filter fun i => (u.sensor i).any fun c => c.contrib.any fun k => k.zone == z).length
        State.decideZone z s = if kind = .drift then
            { s with calResults := s.calResults.set z ⟨.drift, gain, drift, 0, 0⟩ }
          else { u with calResults := s.calResults.set z ⟨kind, gain, drift, written, found.length - written⟩ })
      ∧ (∀ (z floor : Nat) (found : List (Nat × Nat)) (i : Nat) (x : Sensor), s.sensor i = some x →
          (found.map Prod.fst).Nodup → (x.contrib.map Contrib.zone).Pairwise (· < ·) → x.contrib.length ≤ 8 →
        let u := State.calibrationWrite z floor found s
        let l := x.contrib.filter fun c => c.zone != z
        u = { s with sensors := u.sensors } ∧ ∃ r, u.sensor i = some { x with contrib := r }
          ∧ ((∀ k, (i, k) ∈ found → k < floor) → r = l)
          ∧ ∀ k, (i, k) ∈ found → floor ≤ k →
            (r.map Contrib.zone).Pairwise (· < ·)
              ∧ (l.length < 8 → r.Perm (⟨z, min k 4095⟩ :: l))
              ∧ (∀ w, l.length = 8 → Weakest l w → if w.gain < min k 4095 then
                  r.Perm (⟨z, min k 4095⟩ :: l.filter fun c => c.zone != w.zone) else r = l))
      ∧ (∀ c, State.abortSweep c s = State.latch .calFinished (State.releaseZones { s with
          sweep := sweepEnded .aborted c s.sweep
          calResults := match s.sweep.current with
            | some z => s.calResults.set z { result := .aborted, ownGain := none, drift := none, written := 0, discarded := 0 }
            | none => s.calResults }))
      ∧ (∀ held auto : List Nat,
        let resolved := s.sweep.zones.foldl (fun u z => State.resolve z u) s
        ZonesInOrder resolved (fun x => x.holdCal = true) held →
        let freed := held.foldl (fun u z => State.setCalHold z false u) resolved
        auto.Pairwise (· < ·) → (∀ seg, seg ∈ auto ↔ ∃ g, freed.segments[seg]? = some g ∧ g.manual = false) →
        s.releaseZones = auto.foldl (fun u seg => State.recomputeGlare seg u) freed)
      ∧ (let t := s.finishSweep
        t = State.latch .calFinished (State.releaseZones { s with sweep := sweepEnded .finished .absent s.sweep })
          ∧ t.sweep = sweepEnded .finished .absent s.sweep ∧ (∀ z x, t.zone z = some x → x.holdCal = false)
          ∧ hasFlag t.flags.latched .calFinished = true
          ∧ t.zones.map (Option.map Zone.cfg) = s.zones.map (Option.map Zone.cfg)
          ∧ t.segments.map Segment.cfg = s.segments.map Segment.cfg
          ∧ t = { s with
            zones := t.zones, segments := t.segments, gear := t.gear, gearLines := t.gearLines, sweep := t.sweep
            flags := t.flags, live := t.live })

/-! ### Chapter 6: gear lines -/

/-- The value of a driver for a level through its curve, trim and min_value (R119): 0 for level 0; else the point on the curve,
trimmed and clamped, each fraction rounded; a positive level gives at least 1, and the curve's step lies between its points. -/
def Obligations.ALevelGivesAValueThroughTheCurve : Prop :=
  ∀ (p : List Nat) (trim minValue level : Nat), p.length = 9 → p.Pairwise (· ≤ ·) → minValue ≤ 254 → level ≤ 1000 →
    levelValue p trim minValue 0 = 0
      ∧ (0 < level → ∃ i a b v w, i = min 7 (level / 125) ∧ p[i]? = some a ∧ p[i + 1]? = some b
        ∧ v = a + (2 * ((b - a) * (level - 125 * i)) + 125) / 250 ∧ a ≤ v ∧ v ≤ b ∧ w = (2 * (v * trim) + 256) / 512
        ∧ levelValue p trim minValue level = max (max 1 minValue) (min 254 w) ∧ 1 ≤ levelValue p trim minValue level)

/-- How levels and values reach the transmit queues: an arrival is dropped, joins a waiting entry of its target and class, joins the
queue, or is deferred (R126, R130); a gear is marked dirty for its value, and the dirty set is served in ascending index below the
high watermark (R128); a line whose depth has fallen to the low watermark leaves CONGESTED and restores its gear (R130, R132); a
zone's level goes to each line, by group where the line is CONGESTED and the zone holds a group there, and else to each driver
(R119, R120, R129, R131). The order of offers within a line, and that a trim-pending gear which is a SHADE by then is not
restored, are the model's choice (log 49, log 69); that a group's value stays the expected value of a gear deferred at a full queue is
its inference (log 41). The restoration
compares the curves' points as they stand (R19). -/
def Obligations.LevelsReachTheTransmitQueues : Prop :=
  (∀ (s : State) (l : Nat) (d : Bool) (a : Entry) (x : GearLine), s.gearLines[l]? = some x →
      let queued := fun q => { s with gearLines := s.gearLines.set l { x with queue := q } }
      (DropsArrival s x d a → State.offer l d a s = s)
        ∧ (¬ DropsArrival s x d a →
          (∀ pre e post, x.queue = pre ++ e :: post → (∀ f ∈ pre, ¬ WaitsLike a f) → WaitsLike a e →
              State.offer l d a s = expecting a (queued (pre ++
                (if a.cmd.cls = .query then e else { e with cmd := a.cmd, value := a.value, group := a.group }) :: post)))
            ∧ ((∀ f ∈ x.queue, ¬ WaitsLike a f) → x.queue.length < 32 →
              State.offer l d a s = expecting a { s with gearLines := s.gearLines.set l { x with
                queue := x.queue ++ [a]
                congested := x.congested || decide (x.highWatermark ≤ x.queue.length + 1) } })
            ∧ ((∀ f ∈ x.queue, ¬ WaitsLike a f) → 32 ≤ x.queue.length →
              State.offer l d a s = match a.target with
                | .group _ => s
                | .gear i => if a.cmd.cls = .level ∨ a.cmd.cls = .position then (State.markValue i s).countBy (.deferrals l) 1
                  else s)))
    ∧ (∀ (s : State) (i : Nat) (g : Gear), s.gearAt i = some g →
      State.markValue i s = (if (s.gearLine g.cfg.line).state = .up ∧ g.state ≠ .silent ∧ g.dirty = .clear then
          { s with gear := s.gear.set i (some { g with dirty := .value }) } else s)
        ∧ State.serveGear i s =
          (let group := match g.cfg.role with
            | .driver z => (s.zone z).bind fun x => x.cfg.groups.on g.cfg.line
            | .shade _ => none
          let u := if g.dirty = .setup then
              State.offer g.cfg.line true (arriving (.gear i) .setLossLevel g.cfg.lossLevel group .setup) s else s
          let v := match g.cfg.role with
            | .driver z => State.offer g.cfg.line true (arriving (.gear i) .setValue
                (levelValue (s.curve g.cfg.curve) g.cfg.trim g.cfg.minValue (s.levelOf z)) none .zone) u
            | .shade seg => match (s.segment seg).target with
              | some p => State.offer g.cfg.line true (arriving (.gear i) .shadeGoto p none .shade) u
              | none => u
          { v with gear := v.gear.modify i (Option.map fun g => { g with dirty := .clear }) }))
    ∧ (∀ (s : State) (l : Nat) (dirty : List Nat), GearInOrder s (fun g => g.cfg.line = l ∧ g.dirty ≠ .clear) dirty →
      State.serveDirty l s = dirty.foldl (fun u i =>
        if (u.gearLine l).queue.length < (u.gearLine l).highWatermark then State.serveGear i u else u) s)
    ∧ (∀ (s : State) (l : Nat) (x : GearLine), s.gearLines[l]? = some x →
      State.tendLine l s = State.serveDirty l (if x.congested = true ∧ x.queue.length ≤ x.lowWatermark then
        { s with
          gearLines := s.gearLines.set l { x with congested := false }
          gear := s.gear.map (Option.map fun g => if g.cfg.line = l ∧ g.trimPending = true then
              { g with
                trimPending := false
                dirty := if x.state = .up ∧ g.state ≠ .silent ∧ g.dirty = .clear ∧ ownDiffers s g then .value else g.dirty }
            else g) }
        else s))
    ∧ (∀ (s : State) (z : Nat) (x : Zone), s.zone z = some x →
      State.handLevel z s = [0, 1, 2, 3].foldl (fun u l => State.handOnLine z x l u) s)
    ∧ (∀ (s : State) (z l : Nat) (x : Zone) (y : GearLine) (drivers : List Nat), s.gearLines[l]? = some y →
      GearInOrder s (fun g => g.cfg.role = .driver z ∧ g.cfg.line = l) drivers →
      let own := fun (u : State) (i : Nat) => match u.gearAt i with
        | some g => State.offer l false (arriving (.gear i) .setValue
            (levelValue (u.curve g.cfg.curve) g.cfg.trim g.cfg.minValue (u.levelOf z)) none .zone) u
        | none => u
      let ready := drivers.filter (readyForGroup s y)
      let value := levelValue (s.curve x.cfg.defaultCurve) 256 1 x.level
      let q := y.queue.filter fun e => !(!e.inFlight && decide (e.cmd = .setValue) && ready.any fun i => decide (e.target = .gear i))
      let u : State := { s with
        gearLines := s.gearLines.set l { y with queue := q }
        gear := s.gear.mapIdx fun i o => if i ∈ ready then
            o.map fun g => { g with dirty := .clear, trimPending := true, expected := some value } else o }
      (y.congested = false ∨ x.cfg.groups.on l = none ∨ ready = [] →
          State.handOnLine z x l s = State.tendLine l (drivers.foldl own s))
        ∧ (∀ k, y.state = .up → y.congested = true → x.cfg.groups.on l = some k → ready ≠ [] →
          let a := arriving (.group k) .setValue value none .zone
          (q.length < 32 ∨ (∃ f ∈ q, WaitsLike a f) → State.handOnLine z x l s =
              State.tendLine l ((drivers.filter fun i => !readyForGroup s y i).foldl own (State.offer l false a u)))
            ∧ (32 ≤ q.length → (∀ f ∈ q, ¬ WaitsLike a f) → State.handOnLine z x l s =
              State.tendLine l ((drivers.filter fun i => !readyForGroup s y i).foldl own (State.countBy (.deferrals l) 1 { u with
                gear := s.gear.mapIdx fun i o => if i ∈ ready then
                    o.map fun g => { g with dirty := .value, trimPending := false, expected := some value } else o })))))

/-- SET_GEAR_LINE (R111, R130): an accepted request stores its parameters, mapped, clamped and put in order; CONGESTED is entered
at the new high watermark, the audit timer follows the interval, and the line is tended. That the reply starts with enabled is the
model's inference (log 57). -/
def Obligations.SetGearLineStoresTheParameters : Prop :=
  ∀ (tag : Byte) (r : SetGearLine) (s : State) (x : GearLine),
    Undisturbed s → r.line < 4 → s.gearLines[r.line]? = some x → (∀ v ∈ r.rateCode, v ≤ 7) →
    (∀ v ∈ r.attemptLimit, 1 ≤ v ∧ v ≤ 7) → (∀ v ∈ r.auditInterval, v ≤ 60) → 8 ≤ x.highWatermark →
    let high := clampGiven 8 31 x.highWatermark r.highWatermark
    let low := max 1 (min (high - 1) (r.lowWatermark.getD x.lowWatermark))
    let interval := r.auditInterval.getD x.auditInterval
    let y := { x with
      rateCode := (r.rateCode.map rateStored).getD x.rateCode, attemptLimit := r.attemptLimit.getD x.attemptLimit
      highWatermark := high, lowWatermark := low, auditInterval := interval
      congested := x.congested || (decide (x.state = .up) && decide (high ≤ x.queue.length))
      audit := if interval = 0 then none
        else if x.auditInterval = 0 ∧ x.state = .up then some { start := s.tick, len := interval * 1000 } else x.audit }
    let t := State.tendLine r.line { s with gearLines := s.gearLines.set r.line y }
    exec (.setGearLine tag r) s = .next (answered .setGearLine tag
        (okOrAdjusted (r.rateCode.any (fun v => decide (rateStored v ≠ v)) || outside 8 31 r.highWatermark
          || decide (low ≠ r.lowWatermark.getD x.lowWatermark)))
        (flag8 y.enabled ++ encGearLine y ++ u8 x.state.code) t)

/-- LINE_CONTROL (R106, R112, R114, R115, R116, R136): ENABLE brings an OFF line, and RELEASE a HELD one, to STARTING or DOWN by its
supply; DISABLE takes a line OFF, and HOLD an enabled one to HELD, where its output is driven idle low; in any other state nothing but
the reply follows, and a HOLD of an OFF line is refused with CONFLICT. A line out of service has an empty queue, empty dirty and trim-pending
sets and no timer, the gear of a STARTING line are UNKNOWN and keep their expected values, which is the model's choice (log 63),
OUTPUT_LOST follows in both (R87), and a line that leaves UP sets the counts of its SHADE gear to 0 (R142) and aborts a sweep of a
zone that it serves. That a frame under way ends with it is the model's choice (log 58). -/
def Obligations.LineControlMovesTheLine : Prop :=
  ∀ (tag : Byte) (l : Nat) (s : State) (x : GearLine), s.running = true → l < 4 → s.gearLines[l]? = some x →
    let same := .next (answered .lineControl tag .ok (u8 x.state.code) s)
    let aborts := fun t : State => x.state = .up → s.sweeping = true → ServesSweep s l →
      t.sweep.state = .idle ∧ t.sweep.lastOutcome = .aborted ∧ t.sweep.abortCause = .line l
        ∧ hasFlag t.flags.latched .calFinished = true
    (if x.state = .off then ∃ t, exec (.lineControlEnable tag l) s
          = .next (answered .lineControl tag .ok (u8 (comesUp x).code) t)
          ∧ LineComesIn l { x with enabled := true } s t ∧ LineMoved l s t ∧ (t.gearLine l).output = .idleHigh
          ∧ (t.gearLine l).state = comesUp x ∧ (t.gearLine l).enabled = true
        else exec (.lineControlEnable tag l) s = same)
      ∧ (if x.state = .off then exec (.lineControlDisable tag l) s = same
        else ∃ t, exec (.lineControlDisable tag l) s = .next (answered .lineControl tag .ok (u8 0) t)
          ∧ LineGoesOut l .off { x with enabled := false } s t ∧ LineMoved l s t
          ∧ t.gearLine l = outOfService .off { x with enabled := false }
          ∧ (t.gearLine l).output = .idleHigh ∧ aborts t)
      ∧ (if x.state = .off then exec (.lineControlHold tag l) s = .next (answered .lineControl tag .conflict [] s)
        else if x.state = .held then exec (.lineControlHold tag l) s = same
        else ∃ t, exec (.lineControlHold tag l) s = .next (answered .lineControl tag .ok (u8 4) t)
          ∧ LineGoesOut l .held x s t ∧ LineMoved l s t ∧ t.gearLine l = outOfService .held x
          ∧ (t.gearLine l).output = .idleLow ∧ aborts t)
      ∧ (if x.state = .held then ∃ t, exec (.lineControlRelease tag l) s
          = .next (answered .lineControl tag .ok (u8 (comesUp x).code) t)
          ∧ LineComesIn l x s t ∧ LineMoved l s t ∧ (t.gearLine l).output = .idleHigh
          ∧ (t.gearLine l).state = comesUp x ∧ (t.gearLine l).enabled = x.enabled
        else exec (.lineControlRelease tag l) s = same)

/-- LPWR_INPUT_CHANGE and LINE_POWER_CHANGE (R112, R113): a change of the raw level starts the 20 ms afresh, and a return to
the debounced level ends it; a level that has held takes effect: a lost supply takes a line in service or HELD to DOWN and
latches LINE_DOWN, with its queue, its gear's marks and its timers cleared, and a line that was UP aborts a sweep of a zone that it
serves (R106, R116, R142); a supply that returns takes a DOWN line to STARTING (R115), and in any other state only the level is
taken. That a gear's expected value is kept through STARTING is the model's choice (log 63). That an expiry acts whenever its timer runs, and that
nothing else changes where it does not, is the model's choice (log 2, log 27). -/
def Obligations.TheSupplyMovesTheLine : Prop :=
  ∀ (l : Fin 4) (level : Bool) (s : State) (x : GearLine), s.gearLines[l.val]? = some x →
    (exec (.lpwrInputChange l level) s = .next (if level = x.supplyRaw then s
        else { s with gearLines := s.gearLines.set l { x with
          supplyRaw := level
          supplyDebounce := if level = x.supply then none else some { start := s.tick, len := 20 } } }))
      ∧ (x.supplyDebounce = none → exec (.linePowerChange l) s = .next s)
      ∧ (x.supplyDebounce.isSome = true →
        let y := { x with supply := x.supplyRaw, supplyDebounce := none }
        (x.supplyRaw = false → x.state = .up ∨ x.state = .starting ∨ x.state = .held →
            ∃ t, exec (.linePowerChange l) s = .next t ∧ LineGoesOut l .down y s t ∧ LineMoved l s t
              ∧ t.gearLine l = outOfService .down y ∧ hasFlag t.flags.latched .lineDown = true
              ∧ (x.state = .up → s.sweeping = true → ServesSweep s l →
                t.sweep.state = .idle ∧ t.sweep.lastOutcome = .aborted ∧ t.sweep.abortCause = .line l
                  ∧ hasFlag t.flags.latched .calFinished = true))
          ∧ (x.supplyRaw = true → x.state = .down →
            ∃ t, exec (.linePowerChange l) s = .next t ∧ LineComesIn l y s t ∧ LineMoved l s t
              ∧ t.gearLine l = { y with state := .starting, queue := [], settle := some { start := s.tick, len := 600 } })
          ∧ ((x.supplyRaw = true ∧ x.state ≠ .down) ∨ (x.supplyRaw = false ∧ (x.state = .off ∨ x.state = .down)) →
            exec (.linePowerChange l) s = .next (State.settledCheck { s with gearLines := s.gearLines.set l y })))

/-- START_SETTLE_EXPIRY (R115, R133): a STARTING line is UP with its audit timer, each of its gear is marked dirty with setup,
OUTPUT_LOST of its zones is recomputed, and the dirty set is served; a line that is not STARTING stays as it is. That an
expiry acts whenever its timer runs, and that nothing else changes where it does not, is the model's choice (log 2, log 27). -/
def Obligations.AStartedLineIsSetUp : Prop :=
  ∀ (l : Fin 4) (s : State) (x : GearLine), s.gearLines[l.val]? = some x → x.queue = [] →
    (x.state ≠ .starting → exec (.startSettleExpiry l) s = .next s)
      ∧ (x.state = .starting → x.settle.isSome = true → ∃ u, exec (.startSettleExpiry l) s = .next (State.tendLine l u)
        ∧ u = { s with
          gearLines := s.gearLines.set l { x with
            state := .up, congested := false, settle := none
            audit := if x.auditInterval = 0 then none else some { start := s.tick, len := x.auditInterval * 1000 } }
          gear := s.gear.map (Option.map fun g =>
            if g.cfg.line = l.val ∧ g.state ≠ .silent then { g with dirty := .setup } else g)
          zones := u.zones, flags := u.flags }
        ∧ OutputsRecomputed (DrivenOn s l) s u)

/-- FORWARD_FRAME_START and GROUP_FRAME_SENT (R121, R125, R173, R202): a line that is UP sends its head entry, as address,
command, value and check, when no attempt at it is under way: GLx_TX carries the four characters, 40 bit times, each a low start bit, the
data bits least significant first and a high stop bit, at the line's bit rate (R111; log 58); and it counts the frame, a group's frame,
and a resend; a group frame's entry leaves at the end of the frame. A line that is not UP, has no entry or has an attempt under way sends nothing. That an entry is
in flight from its first frame until it leaves, also while it waits for its resend, and that RETRIES counts at the resend, are the
model's inferences (log 11, log 12); where nothing is to be sent, see log 27. -/
def Obligations.TheHeadEntryIsSent : Prop :=
  ∀ (l : Fin 4) (s : State) (x : GearLine), s.gearLines[l.val]? = some x →
    (x.state ≠ .up ∨ x.queue = [] ∨ (∃ e rest, x.queue = e :: rest ∧ e.attempting = true) →
        exec (.forwardFrameStart l) s = .next s)
      ∧ (∀ e rest, x.queue = e :: rest → x.state = .up → e.attempting = false →
        let address := match e.target with
          | .gear i => (match s.gearAt i with
            | some g => BitVec.ofNat 8 g.cfg.address
            | none => 0)
          | .group k => BitVec.ofNat 8 (0x40 + k)
        let value := match e.cmd with
          | .setValue | .setLossLevel | .shadeGoto => e.value
          | .setGroup => e.group.getD 0xFF
          | _ => 0
        let bytes := [address, BitVec.ofNat 8 e.cmd.wire, BitVec.ofNat 8 value]
        let u := { s with gearLines := s.gearLines.set l { x with
          queue := { e with inFlight := true, attempting := true } :: rest, frameOut := bytes ++ [gearCheck bytes], frameRate := x.rateCode } }
        let v := u.countBy (.frames l) 1
        let w := match e.target with
          | .group _ => v.countBy (.groupFrames l) 1
          | .gear _ => v
        let t := if e.attempts = 0 then w else w.countBy (.retries l) 1
        exec (.forwardFrameStart l) s = .next t
          ∧ (t.gearLine l).output = .frame ((bytes ++ [gearCheck bytes]).flatMap lineLevels) (lineRate x.rateCode))
      ∧ (∀ e rest k, x.queue = e :: rest → e.attempting = true → e.target = .group k →
        exec (.groupFrameSent l) s = .next (State.settledCheck (State.tendLine l
          { s with gearLines := s.gearLines.set l { x with queue := rest } })))

/-- GEAR_ANSWER_RECEIVED with a valid answer (R117, R118, R122, R124, R127, R134, R141, R142, R202, R203): three
characters that carry its bytes, start bit low, data bits least significant first and stop bit high, make the command; the gear is
PRESENT; one that was SILENT is marked dirty with setup, and OUTPUT_LOST follows a change of state. A driver's record takes the lamp failure and,
where the command reports it, the applied value, and an audit's answer is compared with what is expected. A SHADE's record takes
its position, and while its group is MOVING and it is active the answer counts: a SHADE_GOTO's sets its count to 0, a SHADE_QUERY's
is tested for arrival and for a stall, which offers the target again or faults the gear, and the arrival test follows. A carried
value that comes back changed is a mismatch and a failed attempt; with any other answer the entry leaves, but for a setup entry,
which goes on to its second stage. Which answers report a position is the model's inference (log 19), and so are that a setup entry
stays in flight between its stages (log 11) and that the data byte 255 is stored and compared as it comes (log 38); that a gear
which joined its group in MOVING has not arrived until it reports a position is its choice (log 48), and so is that the shade logic
acts before the answered entry leaves the queue (log 64) and that the record is written before a mismatch fails the attempt (log 68). -/
def Obligations.AValidAnswerIsTaken : Prop :=
  ∀ (l : Fin 4) (data status : Byte) (s : State) (x : GearLine) (e : Entry) (rest : List Entry) (i : Nat) (g : Gear),
    s.gearLines[l.val]? = some x → x.queue = e :: rest → e.attempting = true → e.inFlight = true → e.orphan = false →
    e.target = .gear i → s.gearAt i = some g → g.cfg.line = l →
    let check := gearCheck [data, status]
    let present := { s with gear := s.gear.set i (some { g with state := .present }) }
    let marked := if g.state = .silent then setupMarked i present else present
    let ends := fun t : State => State.settledCheck (State.tendLine l
      (if (e.cmd = .setValue ∨ e.cmd = .setLossLevel ∨ e.cmd = .setGroup ∨ e.cmd = .shadeGoto) ∧ data.toNat ≠ e.wireValue then
        State.failHead l e (t.countBy (.mismatches l) 1)
      else { t with gearLines := t.gearLines.modify l fun y => { y with
        queue := if e.cmd = .setLossLevel then
            { e with cmd := .setGroup, attempts := 0, inFlight := true, attempting := false } :: y.queue.tail
          else y.queue.tail } }))
    (∀ first second third, Carries first data → Carries second status → Carries third check →
        answerCommand l first second third = some (.gearAnswerReceived l data status check false))
      ∧ (∀ z, g.cfg.role = .driver z → ∃ u,
        u = { marked with zones := u.zones, flags := u.flags }
        ∧ (if g.state = .present then u = marked else OutputRecomputed (.driver z) marked u)
        ∧ (let taken := State.latchIf (status.getLsbD 0 && !g.lampFail) .lampFail { u with
            gear := u.gear.modify i (Option.map fun h => { h with
              lampFail := status.getLsbD 0
              confirmed := if e.cmd = .setValue ∨ e.cmd = .queryValue ∨ e.cmd = .queryStatus then some data.toNat else g.confirmed }) }
          let group := (s.zone z).bind fun y => y.cfg.groups.on l
          let levels := (taken.gearLine l).queue.any fun f => !f.orphan && decide (f.cmd.cls = .level)
            && (decide (f.target = .gear i) || group.any fun k => decide (f.target = .group k))
          exec (.gearAnswerReceived l data status check false) s = .next (ends
            (if e.cmd = .queryValue ∧ e.origin = .audit ∧ g.expected.isSome ∧ g.expected ≠ some data.toNat ∧ levels = false
                ∧ (taken.gearAt i).any (fun h => decide (h.dirty = .clear)) then
              State.markValue i (taken.countBy (.mismatches l) 1)
            else taken))))
      ∧ (∀ seg y, g.cfg.role = .shade seg → s.segments[seg]? = some y →
        let reports := e.cmd = .shadeStop ∨ e.cmd = .shadeQuery ∨ e.cmd = .queryStatus
        let taken := if reports then
            { marked with gear := marked.gear.modify i (Option.map fun h =>
              { h with position := some data.toNat, atLimit := status.getLsbD 1, unreported := false }) }
          else marked
        let counted := fun (retries n : Nat) (t : State) =>
          { t with gear := t.gear.modify i (Option.map fun h => { h with retriesUsed := retries, unchanged := n }) }
        let heard :=
          if e.cmd = .shadeGoto then counted g.retriesUsed 0 taken
          else if e.cmd ≠ .shadeQuery then taken
          else if (∃ p, y.target = some p ∧ data.toNat ≤ p + 1 ∧ p ≤ data.toNat + 1) ∨ g.position ≠ some data.toNat then
            counted g.retriesUsed 0 taken
          else if g.unchanged < 2 then counted g.retriesUsed (g.unchanged + 1) taken
          else
            let stalled := (counted g.retriesUsed (g.unchanged + 1) taken).countBy (.stalls seg) 1
            if g.retriesUsed < y.retryLimitInForce then counted (g.retriesUsed + 1) 0 (State.offerGoto seg i stalled)
            else State.faultAndTest seg [i] stalled
        (reports → data.toNat ≤ 100) →
        exec (.gearAnswerReceived l data status check false) s = .next (ends
          (if y.state = .moving ∧ g.shadeFaulted = false then State.arrivalTest seg heard else taken)))

/-- REPLY_WINDOW_END, BACKWARD_FRAME_TIMEOUT and an answer with a stop-bit error (a character's stop bit that is not high, R202), with a check that does not agree, with a position
above 100 (log 19), or for a gear that has gone (R17, R117, R121 to R123, R143, R203): the attempt has failed. The entry leaves where it is
superseded or its gear has gone, waits for its resend while it has attempts left, and otherwise leaves and makes its gear SILENT,
whose other waiting entries leave and whose marks are cleared; a SHADE that becomes SILENT in a travel is faulted. Without an
attempt of a gear's entry under way nothing changes. That an entry that waits for its resend stays in flight is the model's inference (log
11), and so is how an orphan leaves (log 42); an answer in no window is log 27. -/
def Obligations.AFailedAttemptIsRetriedOrSilences : Prop :=
  (∀ (l : Fin 4) (data status check : Byte) (stopError : Bool) (s : State) (x : GearLine) (e : Entry) (rest : List Entry) (i : Nat),
      s.gearLines[l.val]? = some x → x.queue = e :: rest → e.attempting = true → e.target = .gear i →
      (∀ g, s.gearAt i = some g → g.cfg.line = l) → rest.all (fun f => !f.inFlight) = true →
      let u := State.failHead l e s
      let bad := stopError = true ∨ check ≠ gearCheck [data, status] ∨ e.orphan = true ∨ s.gearAt i = none
        ∨ ∃ g seg, s.gearAt i = some g ∧ g.cfg.role = .shade seg ∧ 100 < data.toNat
          ∧ (e.cmd = .shadeStop ∨ e.cmd = .shadeQuery ∨ e.cmd = .queryStatus)
      exec (.replyWindowEnd l) s = .next (State.settledCheck (State.tendLine l u))
        ∧ exec (.backwardFrameTimeout l) s = .next (State.settledCheck (State.tendLine l u))
        ∧ (bad → exec (.gearAnswerReceived l data status check stopError) s = .next (State.settledCheck (State.tendLine l u)))
        ∧ (match attemptFailed x e rest with
          | .leaves => u = { s with gearLines := s.gearLines.set l { x with queue := rest } }
          | .waits => u = { s with gearLines := s.gearLines.set l { x with
              queue := { e with attempts := e.attempts + 1, attempting := false } :: rest } }
          | .exhausted => match s.gearAt i with
            | none => u = { s with gearLines := s.gearLines.set l { x with queue := rest } }
            | some g =>
              let v := { s with
                gearLines := s.gearLines.set l { x with queue := rest.filter fun f => decide (f.target ≠ .gear i) }
                gear := s.gear.set i (some { g with state := .silent, dirty := .clear, trimPending := false }) }
              if g.state = .silent then u = v
              else
                let w := (v.latch .gearSilent).countBy (.silentEvents l) 1
                match g.cfg.role with
                | .driver z => OutputRecomputed (.driver z) w u ∧ u = { w with zones := u.zones, flags := u.flags }
                | .shade seg =>
                  if (s.segment seg).state = .moving ∧ g.shadeFaulted = false then u = w.faultAndTest seg [i] else u = w))
    ∧ (∀ (l : Fin 4) (data status check : Byte) (stopError : Bool) (s : State) (x : GearLine), s.gearLines[l.val]? = some x →
      (∀ e, x.queue.head? = some e → e.attempting = true → ∃ k, e.target = .group k) →
      exec (.replyWindowEnd l) s = .next s ∧ exec (.backwardFrameTimeout l) s = .next s
        ∧ exec (.gearAnswerReceived l data status check stopError) s = .next s)
    ∧ (∀ (l : Fin 4) (first second third : Character),
      first.getLsbD 0 = false → second.getLsbD 0 = false → third.getLsbD 0 = false →
      first.getLsbD 9 = false ∨ second.getLsbD 9 = false ∨ third.getLsbD 9 = false →
      ∃ data status check, answerCommand l first second third = some (.gearAnswerReceived l data status check true))

/-- AUDIT_TIMER_EXPIRY (R133): on an UP line the timer restarts; a line that is not CONGESTED visits the next of its gear in
cyclic index order, and offers it a query by its kind and state; a CONGESTED line makes no visit, and a line that is not UP
does nothing. That an expiry acts whenever its timer runs, and that nothing else changes where it does not, is the model's
choice (log 2, log 27). -/
def Obligations.TheAuditVisitsTheNextGear : Prop :=
  ∀ (l : Fin 4) (s : State) (x : GearLine), s.gearLines[l.val]? = some x →
    let timer : Option Timer := if x.auditInterval = 0 then none else some { start := s.tick, len := x.auditInterval * 1000 }
    let here := fun i => ∃ g, s.gearAt i = some g ∧ g.cfg.line = l
    (x.state ≠ .up ∨ x.audit = none → exec (.auditTimerExpiry l) s = .next s)
      ∧ (x.state = .up → x.audit.isSome = true → x.congested = true ∨ (∀ i, ¬ here i) →
        exec (.auditTimerExpiry l) s = .next { s with gearLines := s.gearLines.set l { x with audit := timer } })
      ∧ (∀ i g, x.state = .up → x.audit.isSome = true → x.congested = false → s.gearAt i = some g → g.cfg.line = l →
        (∃ p, x.auditPos = some p ∧ p < i ∧ ∀ j, here j → p < j → i ≤ j)
            ∨ ((∀ p j, x.auditPos = some p → here j → j ≤ p) ∧ ∀ j, here j → i ≤ j) →
        exec (.auditTimerExpiry l) s = .next (State.offer l false
          { target := .gear i, value := 0, group := none, origin := .audit, attempts := 0, inFlight := false, attempting := false, orphan := false
            cmd := if g.state ≠ .present then .queryStatus else if g.isDriver then .queryValue else .shadeQuery }
          { s with gearLines := s.gearLines.set l { x with audit := timer, auditPos := some i } }))

/-! ### Chapter 7: shades -/

/-- SHADE_COMMAND (R139, R140, R148, R149): GOTO makes the group MANUAL with its duration and gives it the target position; STOP makes it
MANUAL without a target, offers SHADE_STOP, and a MOVING group settles; AUTO returns a MANUAL group to the glare logic, and changes
nothing in AUTO. A new target acts by the group's state: it starts a travel, redirects it or is only stored. The arrival test
(R141) ends a travel in SETTLING, at once in IDLE where the settle is 0 (R144, log 43); the fault test (R143) ends it in FAULTED, and a gear
that leaves has both made (R145). The glare phase is tested by the table of R146 and recomputed by R148. Offers in ascending gear
index are the model's choice (log 49), and so is that a gear which joined the group in MOVING stays not arrived through every
travel until it reports a position (log 48). That the arrival test asks for an active gear (log 26), and that an emptied group
keeps its glare phase and timer (log 44), are its inferences. -/
def Obligations.ShadeCommandsMoveTheGroup : Prop :=
  ∀ (seg : Nat) (s : State) (g : Segment) (active : List Nat), s.segments[seg]? = some g →
    GearInOrder s (fun h => h.cfg.role = .shade seg ∧ h.shadeFaulted = false) active →
    let stored := fun h : Segment => { s with segments := s.segments.set seg h }
    let zeroed := fun (retries : Bool) (t : State) => { t with
      gear := t.gear.mapIdx fun i o =>
        if i ∈ active then o.map fun h => { h with unchanged := 0, retriesUsed := if retries then 0 else h.retriesUsed } else o }
    (∀ (tag : Byte) (position duration : Nat), s.running = true → s.sweeping = false → seg < 16 → position ≤ 100 → duration ≤ 1440 →
      let manual := { g with
        glareStart := none, manual := true
        manualExpiry := if duration = 0 then none else some (s.tick + BitVec.ofNat 32 (duration * 60000)) }
      (∃ t, exec (.shadeCommandGoto tag seg position duration) s
            = .next (answered .shadeCommand tag .ok (encShadeHead (t.segment seg)) t)
          ∧ t = State.setTarget seg position (stored manual)
          ∧ ShadesMoved s t ∧ (t.segment seg).manual = true ∧ (t.segment seg).manualExpiry = manual.manualExpiry
          ∧ (t.segment seg).target = some position ∧ (t.segment seg).glareStart = none
          ∧ (g.state = .faulted ∨ (g.state = .idle ∧ ∀ i ∈ active, ∀ h, s.gearAt i = some h → h.position = some position) →
            t = stored { manual with target := some position })
          ∧ (g.state = .idle → (∃ i ∈ active, ∃ h, s.gearAt i = some h ∧ h.position = none) →
            (t.segment seg).state = .moving ∧ ShadeHeld seg true t
              ∧ (t.segment seg).travel = some { start := s.tick, len := g.cfg.travelTimeout * 1000 }
              ∧ (t.segment seg).query = some { start := s.tick, len := s.shadeQuery * 1000 }))
        ∧ (∃ t, exec (.shadeCommandStop tag seg position duration) s
            = .next (answered .shadeCommand tag .ok (encShadeHead (t.segment seg)) t)
          ∧ (let u := active.foldl (sending .shadeStop 0) (stored { manual with target := none })
            t = if g.state = .moving then State.enterSettling seg u else u)
          ∧ ShadesMoved s t ∧ (t.segment seg).target = none ∧ (t.segment seg).manual = true
          ∧ (t.segment seg).manualExpiry = manual.manualExpiry
          ∧ (t.segment seg).state = (if g.state = .moving then (if g.settleInForce = 0 then .idle else .settling) else g.state))
        ∧ (g.manual = false → exec (.shadeCommandAuto tag seg position duration) s
            = .next (answered .shadeCommand tag .ok (encShadeHead g) s))
        ∧ (g.manual = true → ∃ t, exec (.shadeCommandAuto tag seg position duration) s
            = .next (answered .shadeCommand tag .ok (encShadeHead (t.segment seg)) t)
          ∧ t = State.recomputeGlare seg (stored { g with manual := false, manualExpiry := none, phase := .clear, glareStart := none })
          ∧ t = stored (t.segment seg)
          ∧ (t.segment seg).manual = false ∧ (t.segment seg).manualExpiry = none
          ∧ (t.segment seg).target = g.target ∧ (t.segment seg).state = g.state))
      ∧ (∀ p : Nat,
        let u := stored { g with target := some p }
        State.setTarget seg p s = match g.state with
          | .idle => if active.any (fun i => (s.gearAt i).any fun h => decide (h.position ≠ some p)) then State.startTravel seg u else u
          | .moving => State.redirect seg u
          | .settling => if active.any (fun i => !u.hasArrived seg i) then State.startTravel seg u else u
          | .faulted => u)
      ∧ State.startTravel seg s = State.arrivalTest seg ((State.setShadeHolds seg true
          (sendingTarget g.target active (zeroed true (stored { g with
            state := .moving, settle := none, travelTimeoutInForce := g.cfg.travelTimeout, settleInForce := g.cfg.settle
            retryLimitInForce := g.cfg.retryLimit, travel := some { start := s.tick, len := g.cfg.travelTimeout * 1000 }
            query := some { start := s.tick, len := s.shadeQuery * 1000 } })))).countBy (.moves seg) 1)
      ∧ State.redirect seg s = State.arrivalTest seg { zeroed false (sendingTarget g.target active s) with
          segments := s.segments.set seg { g with travel := some { start := s.tick, len := g.travelTimeoutInForce * 1000 } } }
      ∧ (∀ i, s.hasArrived seg i = true ↔ Arrived s seg i)
      ∧ State.arrivalTest seg s = (if g.state = .moving ∧ active ≠ [] ∧ active.all (s.hasArrived seg) = true then
          State.enterSettling seg s else s)
      ∧ State.enterSettling seg s = (if g.settleInForce = 0 then State.setShadeHolds seg false (stored (timersStopped .idle g))
          else stored { timersStopped .settling g with settle := some { start := s.tick, len := g.settleInForce * 1000 } })
      ∧ (∀ group, GearInOrder s (fun h => h.cfg.role = .shade seg) group →
        State.faultTest seg s = (if group ≠ [] ∧ active = [] ∧ g.state ≠ .faulted then
              State.setShadeHolds seg false (stored (timersStopped .faulted g))
            else s)
          ∧ State.gearLeftGroup seg s = (if group = [] then State.setShadeHolds seg false (stored (timersStopped .idle g))
            else State.arrivalTest seg (State.faultTest seg s)))
      ∧ (∀ late : List Nat, State.faultAndTest seg late s = State.faultTest seg (State.arrivalTest seg
          (State.latchIf (decide (late ≠ [])) .shadeFault { s with
            gear := s.gear.mapIdx fun i o => if i ∈ late then o.map fun h => { h with shadeFaulted := true } else o })))
      ∧ (∀ (held : Bool) (zones : List Nat), zones.Pairwise (· < ·) → (∀ z, z ∈ zones ↔ ∃ x, s.zone z = some x ∧ x.cfg.segment = seg) →
        State.setShadeHolds seg held s = zones.foldl (fun u z => match u.zone z with
          | some x => if x.holdShade = held then u
            else State.resolve z { u with zones := u.zones.set z (some { x with holdShade := held }) }
          | none => u) s)
      ∧ (∀ w, Segment.testGlare s.tick w g = glareTested s.tick w g)
      ∧ (g.glareStart = none ∨ g.glareLen = g.delay → ∀ w, State.windowReading seg w s =
          if g.manual = true ∨ s.sweeping = true then s else stored (glareTested s.tick w g))
      ∧ State.recomputeGlare seg s = stored (match (g.cfg.windowSensor.bind s.sensor).filter serves with
          | some w => glareTested s.tick w.daylightF { g with phase := .clear, glareStart := none }
          | none => { g with phase := .clear, glareStart := none })

/-- CLEAR_SHADE_FAULT (R151): the faults and counts of the group's gear are cleared. An IDLE or SETTLING group stays as it is; the gear
that were faulted of a MOVING group are offered its target; a FAULTED group becomes IDLE, and outside a sweep its glare phase is
recomputed in AUTO and its present target, where it has one, acts as a new one (R148, R139). That the offers come in ascending gear
index is the model's choice (log 49). -/
def Obligations.ClearShadeFaultClearsTheGroup : Prop :=
  ∀ (tag : Byte) (seg : Nat) (s : State) (g : Segment), s.running = true → seg < 16 → s.segments[seg]? = some g →
    let cleared := { s with gear := faultsCleared seg s.gear }
    let stored := fun h : Segment => { cleared with segments := s.segments.set seg h }
    ∀ faulted, GearInOrder s (fun h => h.cfg.role = .shade seg ∧ h.shadeFaulted = true) faulted →
    ∃ t, exec (.clearShadeFault tag seg) s = .next (answered .clearShadeFault tag .ok (flag8 !faulted.isEmpty) t)
      ∧ (g.state = .idle ∨ g.state = .settling → t = cleared)
      ∧ (g.state = .moving → t = sendingTarget g.target faulted cleared)
      ∧ (g.state = .faulted →
        let tested := { g with state := .idle, phase := .clear, glareStart := none }
        let taken := if g.manual = true then { g with state := .idle }
          else match (g.cfg.windowSensor.bind s.sensor).filter serves with
            | some w => glareTested s.tick w.daylightF tested
            | none => tested
        t = if s.sweeping then stored { g with state := .idle }
          else match g.target with
            | some p => State.setTarget seg p (stored taken)
            | none => stored taken)

/-- SHADE_QUERY_EXPIRY, TRAVEL_TIMEOUT and SHADE_SETTLE_EXPIRY (R140, R143, R144): a MOVING group's active gear that have not
arrived and whose line is UP are queried, and the timer restarts; at the travel timeout those that have not arrived are
faulted, with SHADE_FAULT, and the arrival and fault tests are made (R141, R143); at the settle's end the group is IDLE and its zones lose the hold. That an expiry acts whenever its
timer runs, and that nothing else changes where it does not, is the model's choice (log 2, log 27), and so are the queries in
ascending gear index (log 49) and that a gear which joined the group in MOVING has not arrived until it reports (log 48). -/
def Obligations.TheTravelTimersAct : Prop :=
  ∀ (seg : Fin 16) (s : State) (g : Segment), s.segments[seg.val]? = some g →
    (g.state = .moving → g.query.isSome = true →
        let asked := (s.activeGear seg).filter fun i =>
          !s.hasArrived seg i && (s.gearAt i).any fun h => decide ((s.gearLine h.cfg.line).state = .up)
        ∃ u, u = asked.foldl (sending .shadeQuery 0) s ∧ u.segments = s.segments
          ∧ exec (.shadeQueryExpiry seg) s = .next { u with
            segments := s.segments.set seg { g with query := some { start := s.tick, len := s.shadeQuery * 1000 } } })
      ∧ (g.state = .moving → g.travel.isSome = true →
        let late := (s.activeGear seg).filter fun i => !s.hasArrived seg i
        ∃ t, exec (.travelTimeout seg) s = .next t ∧ ShadesMoved s t
          ∧ t = State.faultAndTest seg late { s with segments := s.segments.set seg { g with travel := none, query := none } }
          ∧ (∀ i ∈ late, ∀ h, t.gearAt i = some h → h.shadeFaulted = true)
          ∧ (∀ i h k, i ∉ late → s.gearAt i = some h → t.gearAt i = some k → k.shadeFaulted = h.shadeFaulted)
          ∧ (late ≠ [] → hasFlag t.flags.latched .shadeFault = true)
          ∧ (t.segment seg).travel = none ∧ (t.segment seg).query = none)
      ∧ (g.settle.isSome = true → ∃ t, exec (.shadeSettleExpiry seg) s = .next t ∧ ShadesMoved s t ∧ ShadeHeld seg false t
        ∧ t.segments = s.segments.set seg { g with state := .idle, settle := none })
      ∧ (g.state ≠ .moving → exec (.shadeQueryExpiry seg) s = .next s ∧ exec (.travelTimeout seg) s = .next s)
      ∧ (g.settle = none → exec (.shadeSettleExpiry seg) s = .next s)

/-- GLARE_TIMER_EXPIRY, RELEASE_TIMER_EXPIRY and MANUAL_EXPIRY (R147, R148, R150): a glare delay's end makes the phase GLARED
and gives the glare position, a release delay's end makes it CLEAR and gives the open position, as a new target of the group;
a MANUAL period's end returns the group to AUTO, where its phase is recomputed from the window sensor's daylight, or is CLEAR until
the glare logic resumes during a sweep. A changed delay
acts at the next reading, before the phase is tested: the timer expires where it has run as long, and else runs on. That an expiry acts whenever its timer runs, and that nothing else changes where it does not, is the model's choice (log 2, log 27). -/
def Obligations.TheGlareTimersAct : Prop :=
  ∀ (seg : Fin 16) (s : State) (g : Segment), s.segments[seg.val]? = some g →
    (g.phase = .glarePending → g.glareStart.isSome = true →
        exec (.glareTimerExpiry seg) s = .next (State.setTarget seg g.cfg.glarePosition
          { s with segments := s.segments.set seg { g with phase := .glared, glareStart := none } }))
      ∧ (g.phase = .releasePending → g.glareStart.isSome = true →
        exec (.releaseTimerExpiry seg) s = .next (State.setTarget seg g.cfg.openPosition
          { s with segments := s.segments.set seg { g with phase := .clear, glareStart := none } }))
      ∧ (g.phase ≠ .glarePending → exec (.glareTimerExpiry seg) s = .next s)
      ∧ (g.phase ≠ .releasePending → exec (.releaseTimerExpiry seg) s = .next s)
      ∧ (g.manual = true → g.manualExpiry.isSome = true →
        let auto : State := { s with
          segments := s.segments.set seg { g with manual := false, manualExpiry := none, phase := .clear, glareStart := none } }
        ∃ h, exec (.manualExpiry seg) s = .next { s with segments := s.segments.set seg h }
          ∧ exec (.manualExpiry seg) s = .next (if s.sweeping then auto else State.recomputeGlare seg auto)
          ∧ h.manual = false ∧ h.manualExpiry = none ∧ h.target = g.target ∧ h.state = g.state ∧ h.cfg = g.cfg)
      ∧ (g.manual = false ∨ g.manualExpiry = none → exec (.manualExpiry seg) s = .next s)
      ∧ (∀ w start, g.manual = false → s.sweeping = false → g.glareStart = some start → g.glareLen ≠ g.delay →
        let ends := fun (phase : GlarePhase) (position : Nat) => State.setTarget seg position
          { s with segments := s.segments.set seg { g with glareLen := g.delay, phase := phase, glareStart := none } }
        let expires := decide (g.delay * 1000 ≤ s.tick.since start)
        let u := match g.phase, expires with
          | .glarePending, true => ends .glared g.cfg.glarePosition
          | .releasePending, true => ends .clear g.cfg.openPosition
          | _, _ => { s with segments := s.segments.set seg { g with glareLen := g.delay } }
        State.windowReading seg w s = { u with segments := u.segments.modify seg (glareTested s.tick w) })

/-! ### Chapter 8: the clock and the occupancy inputs -/

/-- SET_CLOCK, CLOCK_SECOND_ADVANCE, OSCILLATOR_STOP and OSCILLATOR_RESUME (R154 to R157, R159): a set takes a date and time
of the range, makes the clock valid and clears the accumulators; a second advances the clock, and at second 0 of minute 0 and
30 of a valid clock the bin that ended is updated; the end of the range and an oscillator stop make the clock invalid and
latch CLOCK_INVALID. Clearing the accumulators makes every zone's sum and count 0 and changes nothing else (R59). What a second
takes off the sub-second count is the model's choice (log 23); the one-byte fields of the reply's date are its inference (log 13). -/
def Obligations.TheClockIsSetAndAdvances : Prop :=
  ∀ (tag : Byte) (r : SetClock) (s : State),
    s.clearAccumulators = { s with
        zones := s.zones.map (Option.map fun x => { x with learned := { x.learned with accSum := 0, accCount := 0 } }) }
      ∧ (s.running = true → 2000 ≤ r.year → r.year ≤ 2099 → 1 ≤ r.month → r.month ≤ 12 → 1 ≤ r.day →
      r.day ≤ daysInMonth r.year r.month → r.hour ≤ 23 → r.minute ≤ 59 → r.second ≤ 59 →
        let c := { s.clock with
          year := r.year, month := r.month, day := r.day, hour := r.hour, minute := r.minute, second := r.second
          weekday := weekdayOf r.year r.month r.day, subsec := 0, valid := true }
        exec (.setClock tag r) s = .next (answered .setClock tag .ok (encDate c) { s.clearAccumulators with clock := c }))
      ∧ (s.clock.stopped = true → exec .clockSecondAdvance s = .next s ∧ exec .oscillatorStop s = .next s)
      ∧ (s.clock.stopped = false → s.clock.second < 59 → exec .clockSecondAdvance s = .next
          { s with clock := { s.clock with subsec := s.clock.subsec - 32768000, second := s.clock.second + 1 } })
      ∧ (s.clock.stopped = false → s.clock.second = 59 → s.clock.minute < 59 → s.clock.hour ≤ 23 → ∃ c,
          c = { s.clock with subsec := s.clock.subsec - 32768000, second := 0, minute := s.clock.minute + 1 }
          ∧ exec .clockSecondAdvance s = .next
            (if s.clock.valid = true ∧ s.clock.minute = 29 then
              State.boundary (2 * s.clock.hour) { s with clock := c } else { s with clock := c }))
      ∧ (s.clock.stopped = false → s.clock.second = 59 → s.clock.minute = 59 → s.clock.hour < 23 → ∃ c,
          c = { s.clock with subsec := s.clock.subsec - 32768000, second := 0, minute := 0, hour := s.clock.hour + 1 }
          ∧ exec .clockSecondAdvance s = .next
            (if s.clock.valid = true then State.boundary (2 * s.clock.hour + 1) { s with clock := c } else { s with clock := c }))
      ∧ (s.clock.stopped = false → s.clock.second = 59 → s.clock.minute = 59 → s.clock.hour = 23 →
          s.clock.month ≤ 12 → s.clock.day ≤ daysInMonth s.clock.year s.clock.month →
          let c := { s.clock with
            subsec := s.clock.subsec - 32768000, second := 0, minute := 0, hour := 0
            weekday := (s.clock.weekday + 1) % 7
            day := if s.clock.day < daysInMonth s.clock.year s.clock.month then s.clock.day + 1 else 1
            month := if s.clock.day < daysInMonth s.clock.year s.clock.month then s.clock.month
              else if s.clock.month = 12 then 1 else s.clock.month + 1
            year := if s.clock.day = daysInMonth s.clock.year s.clock.month ∧ s.clock.month = 12 then s.clock.year + 1
              else s.clock.year }
          exec .clockSecondAdvance s = .next
            (if s.clock.year = 2099 ∧ s.clock.month = 12 ∧ s.clock.day = 31 then
              State.latch .clockInvalid { (if s.clock.valid then s.clearAccumulators else s) with
                clock := { c with year := 2000, weekday := 5, valid := false } }
            else if s.clock.valid = true then State.boundary 47 { s with clock := c } else { s with clock := c }))
      ∧ (s.clock.stopped = false → exec .oscillatorStop s = .next (State.latch .clockInvalid
          { (if s.clock.valid then s.clearAccumulators else s) with
            clock := { s.clock with stopped := true, valid := false } }))
      ∧ exec .oscillatorResume s = .next { s with clock := { s.clock with stopped := false } }

/-- OCC_INPUT_CHANGE, OCC_DEBOUNCE_EXPIRY and VACANCY_TIMER_EXPIRY (R164, R165): a raw change starts the 50 ms afresh, and a
return to the debounced level ends it; a level that has held is the debounced level, joins the change set, latches OCC_CHANGE,
and gives the zones that name the input OCCUPIED, or their vacancy delay; at the delay's end a zone is VACANT. That an expiry
acts whenever its timer runs, and that nothing else changes where it does not, is the model's choice (log 2, log 27). -/
def Obligations.OccupancyFollowsItsInput : Prop :=
  ∀ (i : Fin 8) (level : Bool) (z : Fin 48) (s : State) (o : OccInput), s.occ[i.val]? = some o →
    exec (.occInputChange i level) s = .next (if level = o.raw then s
        else { s with occ := s.occ.set i { o with
          raw := level, debounce := if level = o.active then none else some { start := s.tick, len := 50 } } })
      ∧ (o.debounce = none → exec (.occDebounceExpiry i) s = .next s)
      ∧ (o.debounce.isSome = true → exec (.occDebounceExpiry i) s = .next (State.latch .occChange { s with
          occ := s.occ.set i { o with active := o.raw, changed := true, debounce := none }
          zones := s.zones.map (Option.map fun x =>
            if x.cfg.occInput ≠ some i.val then x
            else if o.raw then { x with occupancy := .occupied, vacancy := none }
            else if x.occupancy = .occupied then
              { x with occupancy := .vacancyPending, vacancy := some { start := s.tick, len := o.delay * 60000 } }
            else x) }))
      ∧ (∀ x, s.zone z = some x → exec (.vacancyTimerExpiry z) s = .next (if x.vacancy = none then s
          else { s with zones := s.zones.set z (some { x with occupancy := .vacant, vacancy := none }) }))

/-! ### Chapter 9: counters -/

/-- SNAPSHOT (R174): the shadow set takes the live counters, its header the tick, the live since_tick and clear; with clear the live set is
zeroed and its since_tick takes the tick. Nothing else changes: no remainder, no override mark, no flag. -/
def Obligations.SnapshotCopiesAndClears : Prop :=
  ∀ (tag : Byte) (clear : Nat) (s : State), s.running = true → clear ≤ 1 →
    ∃ t, exec (.snapshot tag clear) s
        = .next (answered .snapshot tag .ok (u32 s.tick.toNat ++ [BitVec.ofNat 8 clear]) t)
      ∧ (∀ k, t.shadow.get k = s.live.get k) ∧ t.shadowHeader.snapshotTick = some s.tick
      ∧ t.shadowHeader.sinceTick = some s.liveSince ∧ t.shadowHeader.cleared = decide (clear = 1)
      ∧ (∀ k, t.live.get k = if clear = 1 then 0 else s.live.get k)
      ∧ t.liveSince = (if clear = 1 then s.tick else s.liveSince)
      ∧ t = { s with
        shadow := t.shadow, shadowHeader := t.shadowHeader, live := t.live, liveSince := t.liveSince }

/-! ### Chapter 11: the configuration image -/

/-- STARTUP_DELAY_EXPIRY, AUTOLOAD_PAGE_READ_END and MEMORY_TRANSACTION_TIMEOUT (R191 to R195, R206, R207): the start-up
delay's end begins the autoload with the header of slot 0; a page that has been read is classified or joins the body, and the
next page follows; a failed attempt is repeated twice. Of two candidates the newer is read first, and the other where that one is
damaged, by an unreadable page, its check or its content; the load ends, with an image or the factory state, in RUNNING. A header is
classified by its fields, and an image that is taken has its ten sections and passes the content checks; its zones start as R89 says.
At the entry into RUNNING the zones take their occupancy and OUTPUT_LOST and are resolved, the lines come up, and the scanners start
(R38, R136, R167), SL0's before SL1's, which is the model's choice (log 67). Whether the address byte of a read that timed out was acknowledged is a free value, the model's choice (log 40),
and so are an expiry at any time (log 2) and no change without a load (log 27). -/
def Obligations.TheAutoloadReadsTheSlots : Prop :=
  (∀ (bytes : List Byte) (s : State) (j : LoadJob),
    (s.loader.device = .starting → s.loader.startup.isSome = true → exec .startupDelayExpiry s
        = .next { s with loader := { s.loader with
          device := .loading, startup := none
          load := some { slot := 0, page := 0, attempts := 0, addressed := false, finding0 := .unread, finding1 := .unread, body := [], later := []
                         second := false, txn := some { start := s.tick, len := 25 } } } })
      ∧ (s.loader.device ≠ .starting → exec .startupDelayExpiry s = .next s)
      ∧ (s.loader.load = none → exec (.autoloadPageReadEnd (.data bytes)) s = .next s ∧ exec .memoryTransactionTimeout s = .next s)
      ∧ (s.loader.load = some j →
        exec .memoryTransactionTimeout s
            = exec (.autoloadPageReadEnd (if s.timeoutAcked j then .noLaterAck else .noAddressAck)) s
          ∧ (j.attempts < 2 → exec (.autoloadPageReadEnd .noAddressAck) s = .next (loading
              { j with attempts := j.attempts + 1, txn := some { start := s.tick, len := 25 } } s)
            ∧ exec (.autoloadPageReadEnd .noLaterAck) s = .next (loading
              { j with attempts := j.attempts + 1, addressed := true, txn := some { start := s.tick, len := 25 } } s))
          ∧ (bytes.length = 64 → j.slot = 0 → j.page = 0 → exec (.autoloadPageReadEnd (.data bytes)) s
            = .next (loading (readingPage s.tick { j with finding0 := classifyHeader bytes } 1 0) s))
          ∧ (j.slot = 0 → j.page = 0 → j.attempts = 2 →
            exec (.autoloadPageReadEnd .noLaterAck) s
                = .next (loading (readingPage s.tick { j with finding0 := .damaged } 1 0) s)
              ∧ exec (.autoloadPageReadEnd .noAddressAck) s = .next (loading (readingPage s.tick
                { j with finding0 := if j.addressed then .damaged else .noMemory } 1 0) s))
          ∧ (s.gearLines.length = 4 → s.sensorLines.length = 2 →
            (j.slot = 1 → j.page = 0 →
              (bytes.length = 64 → ∃ t, exec (.autoloadPageReadEnd (.data bytes)) s = .next t
                  ∧ HeadersRead s { j with finding1 := classifyHeader bytes } t)
                ∧ (j.attempts = 2 → (∃ t, exec (.autoloadPageReadEnd .noLaterAck) s = .next t
                    ∧ HeadersRead s { j with finding1 := .damaged } t)
                  ∧ ∃ t, exec (.autoloadPageReadEnd .noAddressAck) s = .next t
                    ∧ HeadersRead s { j with finding1 := if j.addressed then .damaged else .noMemory } t))
              ∧ (j.page ≠ 0 → j.attempts = 2 → ∃ t, exec (.autoloadPageReadEnd .noLaterAck) s = .next t
                ∧ exec (.autoloadPageReadEnd .noAddressAck) s = .next t ∧ SlotDamaged s j t))
          ∧ (∀ g n k, bytes.length = 64 → j.page ≠ 0 → j.finding j.slot = .candidate g n k →
            let body := (j.body ++ bytes).take n
            (j.body.length + 64 < n → exec (.autoloadPageReadEnd (.data bytes)) s
                = .next (loading (readingPage s.tick { j with body := j.body ++ bytes } j.slot (j.page + 1)) s))
              ∧ (n ≤ j.body.length + 64 → s.gearLines.length = 4 → s.sensorLines.length = 2 →
                ∃ t, exec (.autoloadPageReadEnd (.data bytes)) s = .next t
                  ∧ ((crc16 body).toNat ≠ k ∨ imageOf s body = none → SlotDamaged s j t)
                  ∧ ∀ m, (crc16 body).toNat = k → imageOf s body = some m → Entered (s.withImage m) t
                    ∧ t.loader = { s.loader with
                      device := .running, load := none, loadReport := some (if j.second then .loadedOlder else .loaded)
                      knownSlot := some j.slot, knownGen := g }
                    ∧ hasFlag t.flags.latched .storeError = (hasFlag s.flags.latched .storeError || j.second)))))
    ∧ (∀ (m0 m1 m2 m3 family part version g3 g2 g1 g0 l1 l0 k1 k0 : Byte) (rest : List Byte),
      let generation := g3 ++ g2 ++ g1 ++ g0
      let length := l1 ++ l0
      classifyHeader (m0 :: m1 :: m2 :: m3 :: family :: part :: version :: g3 :: g2 :: g1 :: g0 :: l1 :: l0 :: k1 :: k0 :: rest)
        = if [m0, m1, m2, m3] ≠ [0x4D, 0x4A, 0x49, 0x47] then .blank
          else if family = 0x4C ∧ part = 0x30 ∧ version = 0x01 ∧ generation ≠ 0 ∧ length ≠ 0 ∧ length.toNat ≤ 16320 then
            .candidate generation.toNat length.toNat (k1 ++ k0).toNat
          else .damaged)
    ∧ (∀ (s : State) (body : List Byte) (m : RawImage), imageOf s body = some m → SectionsFill body ∧ ModelChecked (s.withImage m)
      ∧ ∀ z x, (s.withImage m).zone z = some x → ZoneAtStart x
        ∧ (s.sweep.state = .idle → stateByOrder (s.withImage m) z x = if x.cfg.enabled then .fallback else .disabled))

/-- SAVE_CONFIG and the events of a save (R36, R37, R191, R196 to R198, R206, R208): an accepted request captures the image, in its
ten sections, as pages of 64 bytes with the header last, and waits for SL0, which it gets at once where no transaction is in
progress; each page is written, polled and read back, up to three times; the verified last page ends the save with the slot and
generation known, and a failed one with its cause; both release SL0 and latch SAVE_FINISHED. The bytes that the part sends are a
sensor's address byte, or the memory's address bytes with the page's address and data; on the bus each group of them follows a start
condition, the bytes read are acknowledged but for the last, and a stop condition ends it (R204; the order of the bits sent is the model's
inference, log 71). A released scanner goes on with its open
cycle, starts a pending one, or waits; a STOPPED one stays. That an event of something not in progress changes nothing (log 27) and
that ACK_POLL_TIMEOUT acts at any time (log 2) are the model's choices; the dark offset's and the interval's two bytes (log 13), the
shades section of the interval alone and the records' order (log 20) are its inferences. -/
def Obligations.ASaveWritesAndVerifiesItsPages : Prop :=
  ∀ (tag : Byte) (bytes : List Byte) (s : State),
    (Undisturbed s → s.loader.knownGen < 2 ^ 32 →
        let generation := if s.loader.knownGen + 1 = 2 ^ 32 then 1 else s.loader.knownGen + 1
        let job : SaveJob :=
          { phase := if (s.sensorLine 0).txn.isNone then .writing else .waitGrant
            slot := match s.loader.knownSlot with
              | none => 0
              | some n => 1 - n
            generation := generation, pages := savePages generation s.imageBody, page := 0, attempts := 0
            addressed := false, poll := none }
        exec (.saveConfig tag) s = .next (answered .saveConfig tag .ok [] { s with
          loader := { s.loader with save := some job }
          sensorLines := if (s.sensorLine 0).txn.isNone then
              s.sensorLines.modify 0 fun x => if x.scan = .stopped then x else { x with scan := .paused }
            else s.sensorLines }))
      ∧ (∀ j, s.loader.save = some j →
        let now := fun k : SaveJob => { s with loader := { s.loader with save := some k } }
        let again := fun acked => now { j with
          phase := .writing, attempts := j.attempts + 1, addressed := j.addressed || acked, poll := none }
        let ended := fun r : SaveReport => { s with loader := { s.loader with save := none, saveReport := r } }
        let cause := fun acked c => if j.page = 0 ∧ (j.addressed || acked) = false then SaveFailure.noMemory else c
        let fails := fun acked c => if j.attempts < 2 then again acked
          else State.latch .storeError (State.latch .saveFinished (State.releaseSL0 (ended (.failed (cause acked c)))))
        (j.phase = .writing → exec (.savePageWriteEnd .acknowledged) s
              = .next (now { j with phase := .polling, addressed := true, poll := some { start := s.tick, len := 10 } })
            ∧ exec (.savePageWriteEnd .noAddressAck) s = .next (fails false .writeFailed)
            ∧ exec (.savePageWriteEnd .noLaterAck) s = .next (fails true .writeFailed))
          ∧ (j.phase = .polling → exec .ackPollAnswered s = .next (now { j with phase := .readback, poll := none })
            ∧ exec .ackPollTimeout s = .next (fails true .writeFailed))
          ∧ (j.phase = .readback → exec (.saveReadbackEnd .noAddressAck) s = .next (fails false .writeFailed)
            ∧ exec (.saveReadbackEnd .noLaterAck) s = .next (fails true .writeFailed)
            ∧ exec (.saveReadbackEnd (.data bytes)) s = .next
              (if j.pages.getD j.page [] ≠ bytes then fails true .verifyFailed
              else if j.page + 1 < j.pages.length then
                now { j with phase := .writing, page := j.page + 1, attempts := 0, addressed := false, poll := none }
              else State.latch .saveFinished (State.releaseSL0 { s with loader := { s.loader with
                save := none, saveReport := .ok j.slot j.generation, knownSlot := some j.slot, knownGen := j.generation } })))
          ∧ (j.phase ≠ .writing → exec (.savePageWriteEnd .acknowledged) s = .next s)
          ∧ (j.phase ≠ .polling → exec .ackPollAnswered s = .next s ∧ exec .ackPollTimeout s = .next s)
          ∧ (j.phase ≠ .readback → exec (.saveReadbackEnd (.data bytes)) s = .next s))
      ∧ (∀ x, s.sensorLines[0]? = some x →
        (x.scan ≠ .paused → s.releaseSL0 = s)
          ∧ (x.scan = .paused → x.cycleOpen = true →
            CycleGoesOn 0 { s with sensorLines := s.sensorLines.set 0 { x with scan := .scanning } } s.releaseSL0)
          ∧ (x.scan = .paused → x.cycleOpen = false → x.startPending = true → CycleStarts 0 s s.releaseSL0)
          ∧ (x.scan = .paused → x.cycleOpen = false → x.startPending = false →
            s.releaseSL0 = { s with sensorLines := s.sensorLines.set 0 { x with scan := .waiting } }))
      ∧ (∀ (generation : Nat) (body : List Byte), ∃ pages,
        savePages generation body = pages ++ [[0x4D, 0x4A, 0x49, 0x47, 0x4C, 0x30, 0x01] ++ u32 generation ++ u16 body.length
            ++ u16 (crc16 body).toNat ++ List.replicate 49 0]
          ∧ pages.length = (body.length + 63) / 64 ∧ (∀ p ∈ pages, p.length = 64)
          ∧ pages.flatten = body ++ List.replicate (64 * pages.length - body.length) 0)
      ∧ s.imageBody = (let part := fun (code : Byte) (bytes : List Byte) => code :: u16 bytes.length ++ bytes
        part 1 (records s.sensors fun i x => u8 i ++ encSensorDef x ++ u16 x.darkOffset ++ encContrib x.contrib)
          ++ part 2 (records s.zones fun z x => u8 z ++ encZoneDef x.cfg ++ u16 x.learned.rho ++ u8 x.learned.learnCount
            ++ x.learned.bins.flatMap fun b => match b with
              | some v => 1 :: u16 v
              | none => [0, 0, 0])
          ++ part 3 (recordsAll s.segments fun g => encSegmentDef g.cfg)
          ++ part 4 (records s.gear fun i g => u8 i ++ encGearDef g.cfg)
          ++ part 5 (recordsAll s.curves fun l => l.map (BitVec.ofNat 8))
          ++ part 6 (recordsAll s.sensorLines encSensorLine)
          ++ part 7 (recordsAll s.gearLines fun x => encGearLine x ++ flag8 x.enabled)
          ++ part 8 (u16 s.shadeQuery)
          ++ part 9 (recordsAll s.profiles encProfile ++ records s.periods fun i p => u8 i ++ encPeriod p)
          ++ part 10 (recordsAll s.occ fun o => u16 o.delay))
      ∧ (∀ l, (∀ t, (s.sensorLine l).txn = some t → s.busBytes l = [[t.sent]])
        ∧ ((s.sensorLine l).txn = none → s.busBytes l = if l ≠ 0 then [] else match s.loader.load, s.loader.save with
          | some j, _ => [0xB4 :: u16 (16384 * j.slot + 64 * j.page), [0xB5]]
          | none, some j =>
            let address := 16384 * j.slot + if j.page + 1 = j.pages.length then 0 else 64 * (j.page + 1)
            match j.phase with
              | .waitGrant => []
              | .writing => [0xB4 :: u16 address ++ j.pages.getD j.page []]
              | .polling => [[0xB4]]
              | .readback => [0xB4 :: u16 address, [0xB5]]
          | none, none => [])
        ∧ (∀ t, (s.sensorLine l).txn = some t → s.busSignals l = .start :: busOut t.sent ++ busIn 3 ++ [.stop])
        ∧ ((s.sensorLine l).txn = none → s.busSignals l = if s.busBytes l = [] then [] else
          (s.busBytes l).flatMap (fun sent => .start :: sent.flatMap busOut)
            ++ (if (s.busBytes l).length = 2 then busIn 63 else []) ++ [.stop]))

/-- LOAD_DEFAULTS (R21, R39, R111, R136, R199): an accepted request brings every table and every imaged parameter to its factory state, enables and starts the
OFF gear lines, and latches CONFIG_DEFAULTS; a sensor transaction in progress is discarded, a gear line's entries leave but for one
with an attempt under way, its audit position is absent, and its audit timer and CONGESTED follow the parameters. That an entry which
waits for its resend or between its setup stages leaves with the others (log 42), and the audit timer (log 24), are the model's
inferences; the clock, the inputs' levels, the snapshot, the port and the loader stay as they are. -/
def Obligations.LoadDefaultsRestoresTheFactoryState : Prop :=
  ∀ (tag : Byte) (s : State), Undisturbed s → TablesWhole s →
    ∃ t, exec (.loadDefaults tag) s = .next (answered .loadDefaults tag .ok [] t)
      ∧ (∀ i, t.sensor i = none ∧ t.zone i = none ∧ t.gearAt i = none ∧ t.period i = none)
      ∧ (∀ g, g < 16 → t.segment g = Segment.atReset SegmentDef.factory)
      ∧ (∀ c, c < 4 → t.curve c = [0, 32, 64, 95, 127, 159, 191, 222, 254])
      ∧ t.sensorLines = s.sensorLines.map (fun x => { x with
        speed := .khz100, pollInterval := 500, missLimit := 3, txn := x.txn.map fun n => { n with discard := true } })
      ∧ (∀ (l : Nat) (x : GearLine), s.gearLines[l]? = some x →
        let left := (x.queue.filter Entry.attempting).map fun e => { e with orphan := match e.target with
          | .gear _ => true
          | .group _ => false }
        let y := { x with
          enabled := true, rateCode := 5, attemptLimit := 3, highWatermark := 24, lowWatermark := 8, auditInterval := 10
          queue := left, auditPos := none
          congested := (x.congested || (decide (x.state = .up) && decide (24 ≤ left.length))) && decide (8 < left.length)
          audit := if x.auditInterval = 0 ∧ x.state = .up then some { start := s.tick, len := 10000 } else x.audit }
        t.gearLines[l]? = some (if x.state ≠ .off then y
          else if x.supply then { y with state := .starting, queue := [], settle := some { start := s.tick, len := 600 } }
          else { y with state := .down, queue := [] }))
      ∧ (hasFlag t.flags.latched .lineDown = true ↔ hasFlag s.flags.latched .lineDown = true
        ∨ ∃ x ∈ s.gearLines, x.state = .off ∧ x.supply = false)
      ∧ (∀ p, p < 4 → (t.profile p).occupiedSp = 500 ∧ (t.profile p).unoccupiedSp = 0)
      ∧ t.occ = s.occ.map (fun o => { o with delay := 15 }) ∧ (∀ z, z < 48 → t.calResult z = CalResult.empty)
      ∧ hasFlag t.flags.latched .configDefaults = true ∧ FlagsGrow [.configDefaults, .lineDown] s t
      ∧ t = { s with
        sensors := t.sensors, sensorLines := t.sensorLines, zones := t.zones, segments := t.segments, gear := t.gear
        curves := t.curves, gearLines := t.gearLines, calResults := t.calResults, profiles := t.profiles, periods := t.periods
        occ := t.occ, shadeQuery := 2, sweep := { s.sweep with lastOutcome := .none }, flags := t.flags }

end Statements
end

