-- ==== Sys2Proof/Laws/State.lean ====
section
/-! SUPPORT. One lemma for each field of the state and each named update of it: what the update leaves there. -/

namespace Sys2Proof.Machine

set_option Elab.async false

variable (s : State)

/-! ### `State.withFlags` -/

@[simp] theorem State.withFlags_pending (w e : Word16) : (s.withFlags w e).pending = s.pending := rfl
@[simp] theorem State.withFlags_tick (w e : Word16) : (s.withFlags w e).tick = s.tick := rfl
@[simp] theorem State.withFlags_straps (w e : Word16) : (s.withFlags w e).straps = s.straps := rfl
@[simp] theorem State.withFlags_replyCount (w e : Word16) : (s.withFlags w e).replyCount = s.replyCount := rfl
@[simp] theorem State.withFlags_sensors (w e : Word16) : (s.withFlags w e).sensors = s.sensors := rfl
@[simp] theorem State.withFlags_sensorLines (w e : Word16) : (s.withFlags w e).sensorLines = s.sensorLines := rfl
@[simp] theorem State.withFlags_zones (w e : Word16) : (s.withFlags w e).zones = s.zones := rfl
@[simp] theorem State.withFlags_segments (w e : Word16) : (s.withFlags w e).segments = s.segments := rfl
@[simp] theorem State.withFlags_gear (w e : Word16) : (s.withFlags w e).gear = s.gear := rfl
@[simp] theorem State.withFlags_curves (w e : Word16) : (s.withFlags w e).curves = s.curves := rfl
@[simp] theorem State.withFlags_gearLines (w e : Word16) : (s.withFlags w e).gearLines = s.gearLines := rfl
@[simp] theorem State.withFlags_sweep (w e : Word16) : (s.withFlags w e).sweep = s.sweep := rfl
@[simp] theorem State.withFlags_calResults (w e : Word16) : (s.withFlags w e).calResults = s.calResults := rfl
@[simp] theorem State.withFlags_shadeQuery (w e : Word16) : (s.withFlags w e).shadeQuery = s.shadeQuery := rfl
@[simp] theorem State.withFlags_clock (w e : Word16) : (s.withFlags w e).clock = s.clock := rfl
@[simp] theorem State.withFlags_profiles (w e : Word16) : (s.withFlags w e).profiles = s.profiles := rfl
@[simp] theorem State.withFlags_periods (w e : Word16) : (s.withFlags w e).periods = s.periods := rfl
@[simp] theorem State.withFlags_occ (w e : Word16) : (s.withFlags w e).occ = s.occ := rfl
@[simp] theorem State.withFlags_live (w e : Word16) : (s.withFlags w e).live = s.live := rfl
@[simp] theorem State.withFlags_liveSince (w e : Word16) : (s.withFlags w e).liveSince = s.liveSince := rfl
@[simp] theorem State.withFlags_shadow (w e : Word16) : (s.withFlags w e).shadow = s.shadow := rfl
@[simp] theorem State.withFlags_shadowHeader (w e : Word16) : (s.withFlags w e).shadowHeader = s.shadowHeader := rfl
@[simp] theorem State.withFlags_flags (w e : Word16) :
    (s.withFlags w e).flags = { latched := w, enables := e, attn := attnDue w e } := rfl
@[simp] theorem State.withFlags_port (w e : Word16) : (s.withFlags w e).port = s.port := rfl
@[simp] theorem State.withFlags_loader (w e : Word16) : (s.withFlags w e).loader = s.loader := rfl

/-! ### `State.latch` -/

@[simp] theorem State.latch_pending (f : Flag) : (s.latch f).pending = s.pending := rfl
@[simp] theorem State.latch_tick (f : Flag) : (s.latch f).tick = s.tick := rfl
@[simp] theorem State.latch_straps (f : Flag) : (s.latch f).straps = s.straps := rfl
@[simp] theorem State.latch_replyCount (f : Flag) : (s.latch f).replyCount = s.replyCount := rfl
@[simp] theorem State.latch_sensors (f : Flag) : (s.latch f).sensors = s.sensors := rfl
@[simp] theorem State.latch_sensorLines (f : Flag) : (s.latch f).sensorLines = s.sensorLines := rfl
@[simp] theorem State.latch_zones (f : Flag) : (s.latch f).zones = s.zones := rfl
@[simp] theorem State.latch_segments (f : Flag) : (s.latch f).segments = s.segments := rfl
@[simp] theorem State.latch_gear (f : Flag) : (s.latch f).gear = s.gear := rfl
@[simp] theorem State.latch_curves (f : Flag) : (s.latch f).curves = s.curves := rfl
@[simp] theorem State.latch_gearLines (f : Flag) : (s.latch f).gearLines = s.gearLines := rfl
@[simp] theorem State.latch_sweep (f : Flag) : (s.latch f).sweep = s.sweep := rfl
@[simp] theorem State.latch_calResults (f : Flag) : (s.latch f).calResults = s.calResults := rfl
@[simp] theorem State.latch_shadeQuery (f : Flag) : (s.latch f).shadeQuery = s.shadeQuery := rfl
@[simp] theorem State.latch_clock (f : Flag) : (s.latch f).clock = s.clock := rfl
@[simp] theorem State.latch_profiles (f : Flag) : (s.latch f).profiles = s.profiles := rfl
@[simp] theorem State.latch_periods (f : Flag) : (s.latch f).periods = s.periods := rfl
@[simp] theorem State.latch_occ (f : Flag) : (s.latch f).occ = s.occ := rfl
@[simp] theorem State.latch_live (f : Flag) : (s.latch f).live = s.live := rfl
@[simp] theorem State.latch_liveSince (f : Flag) : (s.latch f).liveSince = s.liveSince := rfl
@[simp] theorem State.latch_shadow (f : Flag) : (s.latch f).shadow = s.shadow := rfl
@[simp] theorem State.latch_shadowHeader (f : Flag) : (s.latch f).shadowHeader = s.shadowHeader := rfl
@[simp] theorem State.latch_flags (f : Flag) :
    (s.latch f).flags = { latched := s.flags.latched ||| flagMask f, enables := s.flags.enables, attn := attnDue (s.flags.latched ||| flagMask f) s.flags.enables } := rfl
@[simp] theorem State.latch_port (f : Flag) : (s.latch f).port = s.port := rfl
@[simp] theorem State.latch_loader (f : Flag) : (s.latch f).loader = s.loader := rfl

/-! ### `State.unlatch` -/

@[simp] theorem State.unlatch_pending (w : Word16) : (s.unlatch w).pending = s.pending := rfl
@[simp] theorem State.unlatch_tick (w : Word16) : (s.unlatch w).tick = s.tick := rfl
@[simp] theorem State.unlatch_straps (w : Word16) : (s.unlatch w).straps = s.straps := rfl
@[simp] theorem State.unlatch_replyCount (w : Word16) : (s.unlatch w).replyCount = s.replyCount := rfl
@[simp] theorem State.unlatch_sensors (w : Word16) : (s.unlatch w).sensors = s.sensors := rfl
@[simp] theorem State.unlatch_sensorLines (w : Word16) : (s.unlatch w).sensorLines = s.sensorLines := rfl
@[simp] theorem State.unlatch_zones (w : Word16) : (s.unlatch w).zones = s.zones := rfl
@[simp] theorem State.unlatch_segments (w : Word16) : (s.unlatch w).segments = s.segments := rfl
@[simp] theorem State.unlatch_gear (w : Word16) : (s.unlatch w).gear = s.gear := rfl
@[simp] theorem State.unlatch_curves (w : Word16) : (s.unlatch w).curves = s.curves := rfl
@[simp] theorem State.unlatch_gearLines (w : Word16) : (s.unlatch w).gearLines = s.gearLines := rfl
@[simp] theorem State.unlatch_sweep (w : Word16) : (s.unlatch w).sweep = s.sweep := rfl
@[simp] theorem State.unlatch_calResults (w : Word16) : (s.unlatch w).calResults = s.calResults := rfl
@[simp] theorem State.unlatch_shadeQuery (w : Word16) : (s.unlatch w).shadeQuery = s.shadeQuery := rfl
@[simp] theorem State.unlatch_clock (w : Word16) : (s.unlatch w).clock = s.clock := rfl
@[simp] theorem State.unlatch_profiles (w : Word16) : (s.unlatch w).profiles = s.profiles := rfl
@[simp] theorem State.unlatch_periods (w : Word16) : (s.unlatch w).periods = s.periods := rfl
@[simp] theorem State.unlatch_occ (w : Word16) : (s.unlatch w).occ = s.occ := rfl
@[simp] theorem State.unlatch_live (w : Word16) : (s.unlatch w).live = s.live := rfl
@[simp] theorem State.unlatch_liveSince (w : Word16) : (s.unlatch w).liveSince = s.liveSince := rfl
@[simp] theorem State.unlatch_shadow (w : Word16) : (s.unlatch w).shadow = s.shadow := rfl
@[simp] theorem State.unlatch_shadowHeader (w : Word16) : (s.unlatch w).shadowHeader = s.shadowHeader := rfl
@[simp] theorem State.unlatch_flags (w : Word16) :
    (s.unlatch w).flags = { latched := s.flags.latched &&& ~~~w, enables := s.flags.enables, attn := attnDue (s.flags.latched &&& ~~~w) s.flags.enables } := rfl
@[simp] theorem State.unlatch_port (w : Word16) : (s.unlatch w).port = s.port := rfl
@[simp] theorem State.unlatch_loader (w : Word16) : (s.unlatch w).loader = s.loader := rfl

/-! ### `State.setEnables` -/

@[simp] theorem State.setEnables_pending (e : Word16) : (s.setEnables e).pending = s.pending := rfl
@[simp] theorem State.setEnables_tick (e : Word16) : (s.setEnables e).tick = s.tick := rfl
@[simp] theorem State.setEnables_straps (e : Word16) : (s.setEnables e).straps = s.straps := rfl
@[simp] theorem State.setEnables_replyCount (e : Word16) : (s.setEnables e).replyCount = s.replyCount := rfl
@[simp] theorem State.setEnables_sensors (e : Word16) : (s.setEnables e).sensors = s.sensors := rfl
@[simp] theorem State.setEnables_sensorLines (e : Word16) : (s.setEnables e).sensorLines = s.sensorLines := rfl
@[simp] theorem State.setEnables_zones (e : Word16) : (s.setEnables e).zones = s.zones := rfl
@[simp] theorem State.setEnables_segments (e : Word16) : (s.setEnables e).segments = s.segments := rfl
@[simp] theorem State.setEnables_gear (e : Word16) : (s.setEnables e).gear = s.gear := rfl
@[simp] theorem State.setEnables_curves (e : Word16) : (s.setEnables e).curves = s.curves := rfl
@[simp] theorem State.setEnables_gearLines (e : Word16) : (s.setEnables e).gearLines = s.gearLines := rfl
@[simp] theorem State.setEnables_sweep (e : Word16) : (s.setEnables e).sweep = s.sweep := rfl
@[simp] theorem State.setEnables_calResults (e : Word16) : (s.setEnables e).calResults = s.calResults := rfl
@[simp] theorem State.setEnables_shadeQuery (e : Word16) : (s.setEnables e).shadeQuery = s.shadeQuery := rfl
@[simp] theorem State.setEnables_clock (e : Word16) : (s.setEnables e).clock = s.clock := rfl
@[simp] theorem State.setEnables_profiles (e : Word16) : (s.setEnables e).profiles = s.profiles := rfl
@[simp] theorem State.setEnables_periods (e : Word16) : (s.setEnables e).periods = s.periods := rfl
@[simp] theorem State.setEnables_occ (e : Word16) : (s.setEnables e).occ = s.occ := rfl
@[simp] theorem State.setEnables_live (e : Word16) : (s.setEnables e).live = s.live := rfl
@[simp] theorem State.setEnables_liveSince (e : Word16) : (s.setEnables e).liveSince = s.liveSince := rfl
@[simp] theorem State.setEnables_shadow (e : Word16) : (s.setEnables e).shadow = s.shadow := rfl
@[simp] theorem State.setEnables_shadowHeader (e : Word16) : (s.setEnables e).shadowHeader = s.shadowHeader := rfl
@[simp] theorem State.setEnables_flags (e : Word16) :
    (s.setEnables e).flags = { latched := s.flags.latched, enables := e, attn := attnDue s.flags.latched e } := rfl
@[simp] theorem State.setEnables_port (e : Word16) : (s.setEnables e).port = s.port := rfl
@[simp] theorem State.setEnables_loader (e : Word16) : (s.setEnables e).loader = s.loader := rfl

/-! ### `State.setSensor` -/

@[simp] theorem State.setSensor_pending (i : Nat) (x : Option Sensor) : (s.setSensor i x).pending = s.pending := rfl
@[simp] theorem State.setSensor_tick (i : Nat) (x : Option Sensor) : (s.setSensor i x).tick = s.tick := rfl
@[simp] theorem State.setSensor_straps (i : Nat) (x : Option Sensor) : (s.setSensor i x).straps = s.straps := rfl
@[simp] theorem State.setSensor_replyCount (i : Nat) (x : Option Sensor) :
    (s.setSensor i x).replyCount = s.replyCount := rfl
@[simp] theorem State.setSensor_sensors (i : Nat) (x : Option Sensor) :
    (s.setSensor i x).sensors = s.sensors.set i x := rfl
@[simp] theorem State.setSensor_sensorLines (i : Nat) (x : Option Sensor) :
    (s.setSensor i x).sensorLines = s.sensorLines := rfl
@[simp] theorem State.setSensor_zones (i : Nat) (x : Option Sensor) : (s.setSensor i x).zones = s.zones := rfl
@[simp] theorem State.setSensor_segments (i : Nat) (x : Option Sensor) :
    (s.setSensor i x).segments = s.segments := rfl
@[simp] theorem State.setSensor_gear (i : Nat) (x : Option Sensor) : (s.setSensor i x).gear = s.gear := rfl
@[simp] theorem State.setSensor_curves (i : Nat) (x : Option Sensor) : (s.setSensor i x).curves = s.curves := rfl
@[simp] theorem State.setSensor_gearLines (i : Nat) (x : Option Sensor) :
    (s.setSensor i x).gearLines = s.gearLines := rfl
@[simp] theorem State.setSensor_sweep (i : Nat) (x : Option Sensor) : (s.setSensor i x).sweep = s.sweep := rfl
@[simp] theorem State.setSensor_calResults (i : Nat) (x : Option Sensor) :
    (s.setSensor i x).calResults = s.calResults := rfl
@[simp] theorem State.setSensor_shadeQuery (i : Nat) (x : Option Sensor) :
    (s.setSensor i x).shadeQuery = s.shadeQuery := rfl
@[simp] theorem State.setSensor_clock (i : Nat) (x : Option Sensor) : (s.setSensor i x).clock = s.clock := rfl
@[simp] theorem State.setSensor_profiles (i : Nat) (x : Option Sensor) :
    (s.setSensor i x).profiles = s.profiles := rfl
@[simp] theorem State.setSensor_periods (i : Nat) (x : Option Sensor) : (s.setSensor i x).periods = s.periods := rfl
@[simp] theorem State.setSensor_occ (i : Nat) (x : Option Sensor) : (s.setSensor i x).occ = s.occ := rfl
@[simp] theorem State.setSensor_live (i : Nat) (x : Option Sensor) : (s.setSensor i x).live = s.live := rfl
@[simp] theorem State.setSensor_liveSince (i : Nat) (x : Option Sensor) :
    (s.setSensor i x).liveSince = s.liveSince := rfl
@[simp] theorem State.setSensor_shadow (i : Nat) (x : Option Sensor) : (s.setSensor i x).shadow = s.shadow := rfl
@[simp] theorem State.setSensor_shadowHeader (i : Nat) (x : Option Sensor) :
    (s.setSensor i x).shadowHeader = s.shadowHeader := rfl
@[simp] theorem State.setSensor_flags (i : Nat) (x : Option Sensor) : (s.setSensor i x).flags = s.flags := rfl
@[simp] theorem State.setSensor_port (i : Nat) (x : Option Sensor) : (s.setSensor i x).port = s.port := rfl
@[simp] theorem State.setSensor_loader (i : Nat) (x : Option Sensor) : (s.setSensor i x).loader = s.loader := rfl

/-! ### `State.modSensor` -/

@[simp] theorem State.modSensor_pending (i : Nat) (f : Sensor → Sensor) : (s.modSensor i f).pending = s.pending := rfl
@[simp] theorem State.modSensor_tick (i : Nat) (f : Sensor → Sensor) : (s.modSensor i f).tick = s.tick := rfl
@[simp] theorem State.modSensor_straps (i : Nat) (f : Sensor → Sensor) : (s.modSensor i f).straps = s.straps := rfl
@[simp] theorem State.modSensor_replyCount (i : Nat) (f : Sensor → Sensor) :
    (s.modSensor i f).replyCount = s.replyCount := rfl
@[simp] theorem State.modSensor_sensors (i : Nat) (f : Sensor → Sensor) :
    (s.modSensor i f).sensors = s.sensors.modify i (Option.map f) := rfl
@[simp] theorem State.modSensor_sensorLines (i : Nat) (f : Sensor → Sensor) :
    (s.modSensor i f).sensorLines = s.sensorLines := rfl
@[simp] theorem State.modSensor_zones (i : Nat) (f : Sensor → Sensor) : (s.modSensor i f).zones = s.zones := rfl
@[simp] theorem State.modSensor_segments (i : Nat) (f : Sensor → Sensor) :
    (s.modSensor i f).segments = s.segments := rfl
@[simp] theorem State.modSensor_gear (i : Nat) (f : Sensor → Sensor) : (s.modSensor i f).gear = s.gear := rfl
@[simp] theorem State.modSensor_curves (i : Nat) (f : Sensor → Sensor) : (s.modSensor i f).curves = s.curves := rfl
@[simp] theorem State.modSensor_gearLines (i : Nat) (f : Sensor → Sensor) :
    (s.modSensor i f).gearLines = s.gearLines := rfl
@[simp] theorem State.modSensor_sweep (i : Nat) (f : Sensor → Sensor) : (s.modSensor i f).sweep = s.sweep := rfl
@[simp] theorem State.modSensor_calResults (i : Nat) (f : Sensor → Sensor) :
    (s.modSensor i f).calResults = s.calResults := rfl
@[simp] theorem State.modSensor_shadeQuery (i : Nat) (f : Sensor → Sensor) :
    (s.modSensor i f).shadeQuery = s.shadeQuery := rfl
@[simp] theorem State.modSensor_clock (i : Nat) (f : Sensor → Sensor) : (s.modSensor i f).clock = s.clock := rfl
@[simp] theorem State.modSensor_profiles (i : Nat) (f : Sensor → Sensor) :
    (s.modSensor i f).profiles = s.profiles := rfl
@[simp] theorem State.modSensor_periods (i : Nat) (f : Sensor → Sensor) : (s.modSensor i f).periods = s.periods := rfl
@[simp] theorem State.modSensor_occ (i : Nat) (f : Sensor → Sensor) : (s.modSensor i f).occ = s.occ := rfl
@[simp] theorem State.modSensor_live (i : Nat) (f : Sensor → Sensor) : (s.modSensor i f).live = s.live := rfl
@[simp] theorem State.modSensor_liveSince (i : Nat) (f : Sensor → Sensor) :
    (s.modSensor i f).liveSince = s.liveSince := rfl
@[simp] theorem State.modSensor_shadow (i : Nat) (f : Sensor → Sensor) : (s.modSensor i f).shadow = s.shadow := rfl
@[simp] theorem State.modSensor_shadowHeader (i : Nat) (f : Sensor → Sensor) :
    (s.modSensor i f).shadowHeader = s.shadowHeader := rfl
@[simp] theorem State.modSensor_flags (i : Nat) (f : Sensor → Sensor) : (s.modSensor i f).flags = s.flags := rfl
@[simp] theorem State.modSensor_port (i : Nat) (f : Sensor → Sensor) : (s.modSensor i f).port = s.port := rfl
@[simp] theorem State.modSensor_loader (i : Nat) (f : Sensor → Sensor) : (s.modSensor i f).loader = s.loader := rfl

/-! ### `State.setZone` -/

@[simp] theorem State.setZone_pending (i : Nat) (x : Option Zone) : (s.setZone i x).pending = s.pending := rfl
@[simp] theorem State.setZone_tick (i : Nat) (x : Option Zone) : (s.setZone i x).tick = s.tick := rfl
@[simp] theorem State.setZone_straps (i : Nat) (x : Option Zone) : (s.setZone i x).straps = s.straps := rfl
@[simp] theorem State.setZone_replyCount (i : Nat) (x : Option Zone) :
    (s.setZone i x).replyCount = s.replyCount := rfl
@[simp] theorem State.setZone_sensors (i : Nat) (x : Option Zone) : (s.setZone i x).sensors = s.sensors := rfl
@[simp] theorem State.setZone_sensorLines (i : Nat) (x : Option Zone) :
    (s.setZone i x).sensorLines = s.sensorLines := rfl
@[simp] theorem State.setZone_zones (i : Nat) (x : Option Zone) : (s.setZone i x).zones = s.zones.set i x := rfl
@[simp] theorem State.setZone_segments (i : Nat) (x : Option Zone) : (s.setZone i x).segments = s.segments := rfl
@[simp] theorem State.setZone_gear (i : Nat) (x : Option Zone) : (s.setZone i x).gear = s.gear := rfl
@[simp] theorem State.setZone_curves (i : Nat) (x : Option Zone) : (s.setZone i x).curves = s.curves := rfl
@[simp] theorem State.setZone_gearLines (i : Nat) (x : Option Zone) : (s.setZone i x).gearLines = s.gearLines := rfl
@[simp] theorem State.setZone_sweep (i : Nat) (x : Option Zone) : (s.setZone i x).sweep = s.sweep := rfl
@[simp] theorem State.setZone_calResults (i : Nat) (x : Option Zone) :
    (s.setZone i x).calResults = s.calResults := rfl
@[simp] theorem State.setZone_shadeQuery (i : Nat) (x : Option Zone) :
    (s.setZone i x).shadeQuery = s.shadeQuery := rfl
@[simp] theorem State.setZone_clock (i : Nat) (x : Option Zone) : (s.setZone i x).clock = s.clock := rfl
@[simp] theorem State.setZone_profiles (i : Nat) (x : Option Zone) : (s.setZone i x).profiles = s.profiles := rfl
@[simp] theorem State.setZone_periods (i : Nat) (x : Option Zone) : (s.setZone i x).periods = s.periods := rfl
@[simp] theorem State.setZone_occ (i : Nat) (x : Option Zone) : (s.setZone i x).occ = s.occ := rfl
@[simp] theorem State.setZone_live (i : Nat) (x : Option Zone) : (s.setZone i x).live = s.live := rfl
@[simp] theorem State.setZone_liveSince (i : Nat) (x : Option Zone) : (s.setZone i x).liveSince = s.liveSince := rfl
@[simp] theorem State.setZone_shadow (i : Nat) (x : Option Zone) : (s.setZone i x).shadow = s.shadow := rfl
@[simp] theorem State.setZone_shadowHeader (i : Nat) (x : Option Zone) :
    (s.setZone i x).shadowHeader = s.shadowHeader := rfl
@[simp] theorem State.setZone_flags (i : Nat) (x : Option Zone) : (s.setZone i x).flags = s.flags := rfl
@[simp] theorem State.setZone_port (i : Nat) (x : Option Zone) : (s.setZone i x).port = s.port := rfl
@[simp] theorem State.setZone_loader (i : Nat) (x : Option Zone) : (s.setZone i x).loader = s.loader := rfl

/-! ### `State.modZone` -/

@[simp] theorem State.modZone_pending (i : Nat) (f : Zone → Zone) : (s.modZone i f).pending = s.pending := rfl
@[simp] theorem State.modZone_tick (i : Nat) (f : Zone → Zone) : (s.modZone i f).tick = s.tick := rfl
@[simp] theorem State.modZone_straps (i : Nat) (f : Zone → Zone) : (s.modZone i f).straps = s.straps := rfl
@[simp] theorem State.modZone_replyCount (i : Nat) (f : Zone → Zone) :
    (s.modZone i f).replyCount = s.replyCount := rfl
@[simp] theorem State.modZone_sensors (i : Nat) (f : Zone → Zone) : (s.modZone i f).sensors = s.sensors := rfl
@[simp] theorem State.modZone_sensorLines (i : Nat) (f : Zone → Zone) :
    (s.modZone i f).sensorLines = s.sensorLines := rfl
@[simp] theorem State.modZone_zones (i : Nat) (f : Zone → Zone) :
    (s.modZone i f).zones = s.zones.modify i (Option.map f) := rfl
@[simp] theorem State.modZone_segments (i : Nat) (f : Zone → Zone) : (s.modZone i f).segments = s.segments := rfl
@[simp] theorem State.modZone_gear (i : Nat) (f : Zone → Zone) : (s.modZone i f).gear = s.gear := rfl
@[simp] theorem State.modZone_curves (i : Nat) (f : Zone → Zone) : (s.modZone i f).curves = s.curves := rfl
@[simp] theorem State.modZone_gearLines (i : Nat) (f : Zone → Zone) : (s.modZone i f).gearLines = s.gearLines := rfl
@[simp] theorem State.modZone_sweep (i : Nat) (f : Zone → Zone) : (s.modZone i f).sweep = s.sweep := rfl
@[simp] theorem State.modZone_calResults (i : Nat) (f : Zone → Zone) :
    (s.modZone i f).calResults = s.calResults := rfl
@[simp] theorem State.modZone_shadeQuery (i : Nat) (f : Zone → Zone) :
    (s.modZone i f).shadeQuery = s.shadeQuery := rfl
@[simp] theorem State.modZone_clock (i : Nat) (f : Zone → Zone) : (s.modZone i f).clock = s.clock := rfl
@[simp] theorem State.modZone_profiles (i : Nat) (f : Zone → Zone) : (s.modZone i f).profiles = s.profiles := rfl
@[simp] theorem State.modZone_periods (i : Nat) (f : Zone → Zone) : (s.modZone i f).periods = s.periods := rfl
@[simp] theorem State.modZone_occ (i : Nat) (f : Zone → Zone) : (s.modZone i f).occ = s.occ := rfl
@[simp] theorem State.modZone_live (i : Nat) (f : Zone → Zone) : (s.modZone i f).live = s.live := rfl
@[simp] theorem State.modZone_liveSince (i : Nat) (f : Zone → Zone) : (s.modZone i f).liveSince = s.liveSince := rfl
@[simp] theorem State.modZone_shadow (i : Nat) (f : Zone → Zone) : (s.modZone i f).shadow = s.shadow := rfl
@[simp] theorem State.modZone_shadowHeader (i : Nat) (f : Zone → Zone) :
    (s.modZone i f).shadowHeader = s.shadowHeader := rfl
@[simp] theorem State.modZone_flags (i : Nat) (f : Zone → Zone) : (s.modZone i f).flags = s.flags := rfl
@[simp] theorem State.modZone_port (i : Nat) (f : Zone → Zone) : (s.modZone i f).port = s.port := rfl
@[simp] theorem State.modZone_loader (i : Nat) (f : Zone → Zone) : (s.modZone i f).loader = s.loader := rfl

/-! ### `State.setGear` -/

@[simp] theorem State.setGear_pending (i : Nat) (x : Option Gear) : (s.setGear i x).pending = s.pending := rfl
@[simp] theorem State.setGear_tick (i : Nat) (x : Option Gear) : (s.setGear i x).tick = s.tick := rfl
@[simp] theorem State.setGear_straps (i : Nat) (x : Option Gear) : (s.setGear i x).straps = s.straps := rfl
@[simp] theorem State.setGear_replyCount (i : Nat) (x : Option Gear) :
    (s.setGear i x).replyCount = s.replyCount := rfl
@[simp] theorem State.setGear_sensors (i : Nat) (x : Option Gear) : (s.setGear i x).sensors = s.sensors := rfl
@[simp] theorem State.setGear_sensorLines (i : Nat) (x : Option Gear) :
    (s.setGear i x).sensorLines = s.sensorLines := rfl
@[simp] theorem State.setGear_zones (i : Nat) (x : Option Gear) : (s.setGear i x).zones = s.zones := rfl
@[simp] theorem State.setGear_segments (i : Nat) (x : Option Gear) : (s.setGear i x).segments = s.segments := rfl
@[simp] theorem State.setGear_gear (i : Nat) (x : Option Gear) : (s.setGear i x).gear = s.gear.set i x := rfl
@[simp] theorem State.setGear_curves (i : Nat) (x : Option Gear) : (s.setGear i x).curves = s.curves := rfl
@[simp] theorem State.setGear_gearLines (i : Nat) (x : Option Gear) : (s.setGear i x).gearLines = s.gearLines := rfl
@[simp] theorem State.setGear_sweep (i : Nat) (x : Option Gear) : (s.setGear i x).sweep = s.sweep := rfl
@[simp] theorem State.setGear_calResults (i : Nat) (x : Option Gear) :
    (s.setGear i x).calResults = s.calResults := rfl
@[simp] theorem State.setGear_shadeQuery (i : Nat) (x : Option Gear) :
    (s.setGear i x).shadeQuery = s.shadeQuery := rfl
@[simp] theorem State.setGear_clock (i : Nat) (x : Option Gear) : (s.setGear i x).clock = s.clock := rfl
@[simp] theorem State.setGear_profiles (i : Nat) (x : Option Gear) : (s.setGear i x).profiles = s.profiles := rfl
@[simp] theorem State.setGear_periods (i : Nat) (x : Option Gear) : (s.setGear i x).periods = s.periods := rfl
@[simp] theorem State.setGear_occ (i : Nat) (x : Option Gear) : (s.setGear i x).occ = s.occ := rfl
@[simp] theorem State.setGear_live (i : Nat) (x : Option Gear) : (s.setGear i x).live = s.live := rfl
@[simp] theorem State.setGear_liveSince (i : Nat) (x : Option Gear) : (s.setGear i x).liveSince = s.liveSince := rfl
@[simp] theorem State.setGear_shadow (i : Nat) (x : Option Gear) : (s.setGear i x).shadow = s.shadow := rfl
@[simp] theorem State.setGear_shadowHeader (i : Nat) (x : Option Gear) :
    (s.setGear i x).shadowHeader = s.shadowHeader := rfl
@[simp] theorem State.setGear_flags (i : Nat) (x : Option Gear) : (s.setGear i x).flags = s.flags := rfl
@[simp] theorem State.setGear_port (i : Nat) (x : Option Gear) : (s.setGear i x).port = s.port := rfl
@[simp] theorem State.setGear_loader (i : Nat) (x : Option Gear) : (s.setGear i x).loader = s.loader := rfl

/-! ### `State.modGear` -/

@[simp] theorem State.modGear_pending (i : Nat) (f : Gear → Gear) : (s.modGear i f).pending = s.pending := rfl
@[simp] theorem State.modGear_tick (i : Nat) (f : Gear → Gear) : (s.modGear i f).tick = s.tick := rfl
@[simp] theorem State.modGear_straps (i : Nat) (f : Gear → Gear) : (s.modGear i f).straps = s.straps := rfl
@[simp] theorem State.modGear_replyCount (i : Nat) (f : Gear → Gear) :
    (s.modGear i f).replyCount = s.replyCount := rfl
@[simp] theorem State.modGear_sensors (i : Nat) (f : Gear → Gear) : (s.modGear i f).sensors = s.sensors := rfl
@[simp] theorem State.modGear_sensorLines (i : Nat) (f : Gear → Gear) :
    (s.modGear i f).sensorLines = s.sensorLines := rfl
@[simp] theorem State.modGear_zones (i : Nat) (f : Gear → Gear) : (s.modGear i f).zones = s.zones := rfl
@[simp] theorem State.modGear_segments (i : Nat) (f : Gear → Gear) : (s.modGear i f).segments = s.segments := rfl
@[simp] theorem State.modGear_gear (i : Nat) (f : Gear → Gear) :
    (s.modGear i f).gear = s.gear.modify i (Option.map f) := rfl
@[simp] theorem State.modGear_curves (i : Nat) (f : Gear → Gear) : (s.modGear i f).curves = s.curves := rfl
@[simp] theorem State.modGear_gearLines (i : Nat) (f : Gear → Gear) : (s.modGear i f).gearLines = s.gearLines := rfl
@[simp] theorem State.modGear_sweep (i : Nat) (f : Gear → Gear) : (s.modGear i f).sweep = s.sweep := rfl
@[simp] theorem State.modGear_calResults (i : Nat) (f : Gear → Gear) :
    (s.modGear i f).calResults = s.calResults := rfl
@[simp] theorem State.modGear_shadeQuery (i : Nat) (f : Gear → Gear) :
    (s.modGear i f).shadeQuery = s.shadeQuery := rfl
@[simp] theorem State.modGear_clock (i : Nat) (f : Gear → Gear) : (s.modGear i f).clock = s.clock := rfl
@[simp] theorem State.modGear_profiles (i : Nat) (f : Gear → Gear) : (s.modGear i f).profiles = s.profiles := rfl
@[simp] theorem State.modGear_periods (i : Nat) (f : Gear → Gear) : (s.modGear i f).periods = s.periods := rfl
@[simp] theorem State.modGear_occ (i : Nat) (f : Gear → Gear) : (s.modGear i f).occ = s.occ := rfl
@[simp] theorem State.modGear_live (i : Nat) (f : Gear → Gear) : (s.modGear i f).live = s.live := rfl
@[simp] theorem State.modGear_liveSince (i : Nat) (f : Gear → Gear) : (s.modGear i f).liveSince = s.liveSince := rfl
@[simp] theorem State.modGear_shadow (i : Nat) (f : Gear → Gear) : (s.modGear i f).shadow = s.shadow := rfl
@[simp] theorem State.modGear_shadowHeader (i : Nat) (f : Gear → Gear) :
    (s.modGear i f).shadowHeader = s.shadowHeader := rfl
@[simp] theorem State.modGear_flags (i : Nat) (f : Gear → Gear) : (s.modGear i f).flags = s.flags := rfl
@[simp] theorem State.modGear_port (i : Nat) (f : Gear → Gear) : (s.modGear i f).port = s.port := rfl
@[simp] theorem State.modGear_loader (i : Nat) (f : Gear → Gear) : (s.modGear i f).loader = s.loader := rfl

/-! ### `State.modSegment` -/

@[simp] theorem State.modSegment_pending (i : Nat) (f : Segment → Segment) :
    (s.modSegment i f).pending = s.pending := rfl
@[simp] theorem State.modSegment_tick (i : Nat) (f : Segment → Segment) : (s.modSegment i f).tick = s.tick := rfl
@[simp] theorem State.modSegment_straps (i : Nat) (f : Segment → Segment) :
    (s.modSegment i f).straps = s.straps := rfl
@[simp] theorem State.modSegment_replyCount (i : Nat) (f : Segment → Segment) :
    (s.modSegment i f).replyCount = s.replyCount := rfl
@[simp] theorem State.modSegment_sensors (i : Nat) (f : Segment → Segment) :
    (s.modSegment i f).sensors = s.sensors := rfl
@[simp] theorem State.modSegment_sensorLines (i : Nat) (f : Segment → Segment) :
    (s.modSegment i f).sensorLines = s.sensorLines := rfl
@[simp] theorem State.modSegment_zones (i : Nat) (f : Segment → Segment) : (s.modSegment i f).zones = s.zones := rfl
@[simp] theorem State.modSegment_segments (i : Nat) (f : Segment → Segment) :
    (s.modSegment i f).segments = s.segments.modify i f := rfl
@[simp] theorem State.modSegment_gear (i : Nat) (f : Segment → Segment) : (s.modSegment i f).gear = s.gear := rfl
@[simp] theorem State.modSegment_curves (i : Nat) (f : Segment → Segment) :
    (s.modSegment i f).curves = s.curves := rfl
@[simp] theorem State.modSegment_gearLines (i : Nat) (f : Segment → Segment) :
    (s.modSegment i f).gearLines = s.gearLines := rfl
@[simp] theorem State.modSegment_sweep (i : Nat) (f : Segment → Segment) : (s.modSegment i f).sweep = s.sweep := rfl
@[simp] theorem State.modSegment_calResults (i : Nat) (f : Segment → Segment) :
    (s.modSegment i f).calResults = s.calResults := rfl
@[simp] theorem State.modSegment_shadeQuery (i : Nat) (f : Segment → Segment) :
    (s.modSegment i f).shadeQuery = s.shadeQuery := rfl
@[simp] theorem State.modSegment_clock (i : Nat) (f : Segment → Segment) : (s.modSegment i f).clock = s.clock := rfl
@[simp] theorem State.modSegment_profiles (i : Nat) (f : Segment → Segment) :
    (s.modSegment i f).profiles = s.profiles := rfl
@[simp] theorem State.modSegment_periods (i : Nat) (f : Segment → Segment) :
    (s.modSegment i f).periods = s.periods := rfl
@[simp] theorem State.modSegment_occ (i : Nat) (f : Segment → Segment) : (s.modSegment i f).occ = s.occ := rfl
@[simp] theorem State.modSegment_live (i : Nat) (f : Segment → Segment) : (s.modSegment i f).live = s.live := rfl
@[simp] theorem State.modSegment_liveSince (i : Nat) (f : Segment → Segment) :
    (s.modSegment i f).liveSince = s.liveSince := rfl
@[simp] theorem State.modSegment_shadow (i : Nat) (f : Segment → Segment) :
    (s.modSegment i f).shadow = s.shadow := rfl
@[simp] theorem State.modSegment_shadowHeader (i : Nat) (f : Segment → Segment) :
    (s.modSegment i f).shadowHeader = s.shadowHeader := rfl
@[simp] theorem State.modSegment_flags (i : Nat) (f : Segment → Segment) : (s.modSegment i f).flags = s.flags := rfl
@[simp] theorem State.modSegment_port (i : Nat) (f : Segment → Segment) : (s.modSegment i f).port = s.port := rfl
@[simp] theorem State.modSegment_loader (i : Nat) (f : Segment → Segment) :
    (s.modSegment i f).loader = s.loader := rfl

/-! ### `State.modSensorLine` -/

@[simp] theorem State.modSensorLine_pending (i : Nat) (f : SensorLine → SensorLine) :
    (s.modSensorLine i f).pending = s.pending := rfl
@[simp] theorem State.modSensorLine_tick (i : Nat) (f : SensorLine → SensorLine) :
    (s.modSensorLine i f).tick = s.tick := rfl
@[simp] theorem State.modSensorLine_straps (i : Nat) (f : SensorLine → SensorLine) :
    (s.modSensorLine i f).straps = s.straps := rfl
@[simp] theorem State.modSensorLine_replyCount (i : Nat) (f : SensorLine → SensorLine) :
    (s.modSensorLine i f).replyCount = s.replyCount := rfl
@[simp] theorem State.modSensorLine_sensors (i : Nat) (f : SensorLine → SensorLine) :
    (s.modSensorLine i f).sensors = s.sensors := rfl
@[simp] theorem State.modSensorLine_sensorLines (i : Nat) (f : SensorLine → SensorLine) :
    (s.modSensorLine i f).sensorLines = s.sensorLines.modify i f := rfl
@[simp] theorem State.modSensorLine_zones (i : Nat) (f : SensorLine → SensorLine) :
    (s.modSensorLine i f).zones = s.zones := rfl
@[simp] theorem State.modSensorLine_segments (i : Nat) (f : SensorLine → SensorLine) :
    (s.modSensorLine i f).segments = s.segments := rfl
@[simp] theorem State.modSensorLine_gear (i : Nat) (f : SensorLine → SensorLine) :
    (s.modSensorLine i f).gear = s.gear := rfl
@[simp] theorem State.modSensorLine_curves (i : Nat) (f : SensorLine → SensorLine) :
    (s.modSensorLine i f).curves = s.curves := rfl
@[simp] theorem State.modSensorLine_gearLines (i : Nat) (f : SensorLine → SensorLine) :
    (s.modSensorLine i f).gearLines = s.gearLines := rfl
@[simp] theorem State.modSensorLine_sweep (i : Nat) (f : SensorLine → SensorLine) :
    (s.modSensorLine i f).sweep = s.sweep := rfl
@[simp] theorem State.modSensorLine_calResults (i : Nat) (f : SensorLine → SensorLine) :
    (s.modSensorLine i f).calResults = s.calResults := rfl
@[simp] theorem State.modSensorLine_shadeQuery (i : Nat) (f : SensorLine → SensorLine) :
    (s.modSensorLine i f).shadeQuery = s.shadeQuery := rfl
@[simp] theorem State.modSensorLine_clock (i : Nat) (f : SensorLine → SensorLine) :
    (s.modSensorLine i f).clock = s.clock := rfl
@[simp] theorem State.modSensorLine_profiles (i : Nat) (f : SensorLine → SensorLine) :
    (s.modSensorLine i f).profiles = s.profiles := rfl
@[simp] theorem State.modSensorLine_periods (i : Nat) (f : SensorLine → SensorLine) :
    (s.modSensorLine i f).periods = s.periods := rfl
@[simp] theorem State.modSensorLine_occ (i : Nat) (f : SensorLine → SensorLine) :
    (s.modSensorLine i f).occ = s.occ := rfl
@[simp] theorem State.modSensorLine_live (i : Nat) (f : SensorLine → SensorLine) :
    (s.modSensorLine i f).live = s.live := rfl
@[simp] theorem State.modSensorLine_liveSince (i : Nat) (f : SensorLine → SensorLine) :
    (s.modSensorLine i f).liveSince = s.liveSince := rfl
@[simp] theorem State.modSensorLine_shadow (i : Nat) (f : SensorLine → SensorLine) :
    (s.modSensorLine i f).shadow = s.shadow := rfl
@[simp] theorem State.modSensorLine_shadowHeader (i : Nat) (f : SensorLine → SensorLine) :
    (s.modSensorLine i f).shadowHeader = s.shadowHeader := rfl
@[simp] theorem State.modSensorLine_flags (i : Nat) (f : SensorLine → SensorLine) :
    (s.modSensorLine i f).flags = s.flags := rfl
@[simp] theorem State.modSensorLine_port (i : Nat) (f : SensorLine → SensorLine) :
    (s.modSensorLine i f).port = s.port := rfl
@[simp] theorem State.modSensorLine_loader (i : Nat) (f : SensorLine → SensorLine) :
    (s.modSensorLine i f).loader = s.loader := rfl

/-! ### `State.modGearLine` -/

@[simp] theorem State.modGearLine_pending (i : Nat) (f : GearLine → GearLine) :
    (s.modGearLine i f).pending = s.pending := rfl
@[simp] theorem State.modGearLine_tick (i : Nat) (f : GearLine → GearLine) : (s.modGearLine i f).tick = s.tick := rfl
@[simp] theorem State.modGearLine_straps (i : Nat) (f : GearLine → GearLine) :
    (s.modGearLine i f).straps = s.straps := rfl
@[simp] theorem State.modGearLine_replyCount (i : Nat) (f : GearLine → GearLine) :
    (s.modGearLine i f).replyCount = s.replyCount := rfl
@[simp] theorem State.modGearLine_sensors (i : Nat) (f : GearLine → GearLine) :
    (s.modGearLine i f).sensors = s.sensors := rfl
@[simp] theorem State.modGearLine_sensorLines (i : Nat) (f : GearLine → GearLine) :
    (s.modGearLine i f).sensorLines = s.sensorLines := rfl
@[simp] theorem State.modGearLine_zones (i : Nat) (f : GearLine → GearLine) :
    (s.modGearLine i f).zones = s.zones := rfl
@[simp] theorem State.modGearLine_segments (i : Nat) (f : GearLine → GearLine) :
    (s.modGearLine i f).segments = s.segments := rfl
@[simp] theorem State.modGearLine_gear (i : Nat) (f : GearLine → GearLine) : (s.modGearLine i f).gear = s.gear := rfl
@[simp] theorem State.modGearLine_curves (i : Nat) (f : GearLine → GearLine) :
    (s.modGearLine i f).curves = s.curves := rfl
@[simp] theorem State.modGearLine_gearLines (i : Nat) (f : GearLine → GearLine) :
    (s.modGearLine i f).gearLines = s.gearLines.modify i f := rfl
@[simp] theorem State.modGearLine_sweep (i : Nat) (f : GearLine → GearLine) :
    (s.modGearLine i f).sweep = s.sweep := rfl
@[simp] theorem State.modGearLine_calResults (i : Nat) (f : GearLine → GearLine) :
    (s.modGearLine i f).calResults = s.calResults := rfl
@[simp] theorem State.modGearLine_shadeQuery (i : Nat) (f : GearLine → GearLine) :
    (s.modGearLine i f).shadeQuery = s.shadeQuery := rfl
@[simp] theorem State.modGearLine_clock (i : Nat) (f : GearLine → GearLine) :
    (s.modGearLine i f).clock = s.clock := rfl
@[simp] theorem State.modGearLine_profiles (i : Nat) (f : GearLine → GearLine) :
    (s.modGearLine i f).profiles = s.profiles := rfl
@[simp] theorem State.modGearLine_periods (i : Nat) (f : GearLine → GearLine) :
    (s.modGearLine i f).periods = s.periods := rfl
@[simp] theorem State.modGearLine_occ (i : Nat) (f : GearLine → GearLine) : (s.modGearLine i f).occ = s.occ := rfl
@[simp] theorem State.modGearLine_live (i : Nat) (f : GearLine → GearLine) : (s.modGearLine i f).live = s.live := rfl
@[simp] theorem State.modGearLine_liveSince (i : Nat) (f : GearLine → GearLine) :
    (s.modGearLine i f).liveSince = s.liveSince := rfl
@[simp] theorem State.modGearLine_shadow (i : Nat) (f : GearLine → GearLine) :
    (s.modGearLine i f).shadow = s.shadow := rfl
@[simp] theorem State.modGearLine_shadowHeader (i : Nat) (f : GearLine → GearLine) :
    (s.modGearLine i f).shadowHeader = s.shadowHeader := rfl
@[simp] theorem State.modGearLine_flags (i : Nat) (f : GearLine → GearLine) :
    (s.modGearLine i f).flags = s.flags := rfl
@[simp] theorem State.modGearLine_port (i : Nat) (f : GearLine → GearLine) : (s.modGearLine i f).port = s.port := rfl
@[simp] theorem State.modGearLine_loader (i : Nat) (f : GearLine → GearLine) :
    (s.modGearLine i f).loader = s.loader := rfl

/-! ### `State.modOcc` -/

@[simp] theorem State.modOcc_pending (i : Nat) (f : OccInput → OccInput) : (s.modOcc i f).pending = s.pending := rfl
@[simp] theorem State.modOcc_tick (i : Nat) (f : OccInput → OccInput) : (s.modOcc i f).tick = s.tick := rfl
@[simp] theorem State.modOcc_straps (i : Nat) (f : OccInput → OccInput) : (s.modOcc i f).straps = s.straps := rfl
@[simp] theorem State.modOcc_replyCount (i : Nat) (f : OccInput → OccInput) :
    (s.modOcc i f).replyCount = s.replyCount := rfl
@[simp] theorem State.modOcc_sensors (i : Nat) (f : OccInput → OccInput) : (s.modOcc i f).sensors = s.sensors := rfl
@[simp] theorem State.modOcc_sensorLines (i : Nat) (f : OccInput → OccInput) :
    (s.modOcc i f).sensorLines = s.sensorLines := rfl
@[simp] theorem State.modOcc_zones (i : Nat) (f : OccInput → OccInput) : (s.modOcc i f).zones = s.zones := rfl
@[simp] theorem State.modOcc_segments (i : Nat) (f : OccInput → OccInput) :
    (s.modOcc i f).segments = s.segments := rfl
@[simp] theorem State.modOcc_gear (i : Nat) (f : OccInput → OccInput) : (s.modOcc i f).gear = s.gear := rfl
@[simp] theorem State.modOcc_curves (i : Nat) (f : OccInput → OccInput) : (s.modOcc i f).curves = s.curves := rfl
@[simp] theorem State.modOcc_gearLines (i : Nat) (f : OccInput → OccInput) :
    (s.modOcc i f).gearLines = s.gearLines := rfl
@[simp] theorem State.modOcc_sweep (i : Nat) (f : OccInput → OccInput) : (s.modOcc i f).sweep = s.sweep := rfl
@[simp] theorem State.modOcc_calResults (i : Nat) (f : OccInput → OccInput) :
    (s.modOcc i f).calResults = s.calResults := rfl
@[simp] theorem State.modOcc_shadeQuery (i : Nat) (f : OccInput → OccInput) :
    (s.modOcc i f).shadeQuery = s.shadeQuery := rfl
@[simp] theorem State.modOcc_clock (i : Nat) (f : OccInput → OccInput) : (s.modOcc i f).clock = s.clock := rfl
@[simp] theorem State.modOcc_profiles (i : Nat) (f : OccInput → OccInput) :
    (s.modOcc i f).profiles = s.profiles := rfl
@[simp] theorem State.modOcc_periods (i : Nat) (f : OccInput → OccInput) : (s.modOcc i f).periods = s.periods := rfl
@[simp] theorem State.modOcc_occ (i : Nat) (f : OccInput → OccInput) : (s.modOcc i f).occ = s.occ.modify i f := rfl
@[simp] theorem State.modOcc_live (i : Nat) (f : OccInput → OccInput) : (s.modOcc i f).live = s.live := rfl
@[simp] theorem State.modOcc_liveSince (i : Nat) (f : OccInput → OccInput) :
    (s.modOcc i f).liveSince = s.liveSince := rfl
@[simp] theorem State.modOcc_shadow (i : Nat) (f : OccInput → OccInput) : (s.modOcc i f).shadow = s.shadow := rfl
@[simp] theorem State.modOcc_shadowHeader (i : Nat) (f : OccInput → OccInput) :
    (s.modOcc i f).shadowHeader = s.shadowHeader := rfl
@[simp] theorem State.modOcc_flags (i : Nat) (f : OccInput → OccInput) : (s.modOcc i f).flags = s.flags := rfl
@[simp] theorem State.modOcc_port (i : Nat) (f : OccInput → OccInput) : (s.modOcc i f).port = s.port := rfl
@[simp] theorem State.modOcc_loader (i : Nat) (f : OccInput → OccInput) : (s.modOcc i f).loader = s.loader := rfl

/-! ### `State.setCalResult` -/

@[simp] theorem State.setCalResult_pending (i : Nat) (r : CalResult) : (s.setCalResult i r).pending = s.pending := rfl
@[simp] theorem State.setCalResult_tick (i : Nat) (r : CalResult) : (s.setCalResult i r).tick = s.tick := rfl
@[simp] theorem State.setCalResult_straps (i : Nat) (r : CalResult) : (s.setCalResult i r).straps = s.straps := rfl
@[simp] theorem State.setCalResult_replyCount (i : Nat) (r : CalResult) :
    (s.setCalResult i r).replyCount = s.replyCount := rfl
@[simp] theorem State.setCalResult_sensors (i : Nat) (r : CalResult) : (s.setCalResult i r).sensors = s.sensors := rfl
@[simp] theorem State.setCalResult_sensorLines (i : Nat) (r : CalResult) :
    (s.setCalResult i r).sensorLines = s.sensorLines := rfl
@[simp] theorem State.setCalResult_zones (i : Nat) (r : CalResult) : (s.setCalResult i r).zones = s.zones := rfl
@[simp] theorem State.setCalResult_segments (i : Nat) (r : CalResult) :
    (s.setCalResult i r).segments = s.segments := rfl
@[simp] theorem State.setCalResult_gear (i : Nat) (r : CalResult) : (s.setCalResult i r).gear = s.gear := rfl
@[simp] theorem State.setCalResult_curves (i : Nat) (r : CalResult) : (s.setCalResult i r).curves = s.curves := rfl
@[simp] theorem State.setCalResult_gearLines (i : Nat) (r : CalResult) :
    (s.setCalResult i r).gearLines = s.gearLines := rfl
@[simp] theorem State.setCalResult_sweep (i : Nat) (r : CalResult) : (s.setCalResult i r).sweep = s.sweep := rfl
@[simp] theorem State.setCalResult_calResults (i : Nat) (r : CalResult) :
    (s.setCalResult i r).calResults = s.calResults.set i r := rfl
@[simp] theorem State.setCalResult_shadeQuery (i : Nat) (r : CalResult) :
    (s.setCalResult i r).shadeQuery = s.shadeQuery := rfl
@[simp] theorem State.setCalResult_clock (i : Nat) (r : CalResult) : (s.setCalResult i r).clock = s.clock := rfl
@[simp] theorem State.setCalResult_profiles (i : Nat) (r : CalResult) :
    (s.setCalResult i r).profiles = s.profiles := rfl
@[simp] theorem State.setCalResult_periods (i : Nat) (r : CalResult) : (s.setCalResult i r).periods = s.periods := rfl
@[simp] theorem State.setCalResult_occ (i : Nat) (r : CalResult) : (s.setCalResult i r).occ = s.occ := rfl
@[simp] theorem State.setCalResult_live (i : Nat) (r : CalResult) : (s.setCalResult i r).live = s.live := rfl
@[simp] theorem State.setCalResult_liveSince (i : Nat) (r : CalResult) :
    (s.setCalResult i r).liveSince = s.liveSince := rfl
@[simp] theorem State.setCalResult_shadow (i : Nat) (r : CalResult) : (s.setCalResult i r).shadow = s.shadow := rfl
@[simp] theorem State.setCalResult_shadowHeader (i : Nat) (r : CalResult) :
    (s.setCalResult i r).shadowHeader = s.shadowHeader := rfl
@[simp] theorem State.setCalResult_flags (i : Nat) (r : CalResult) : (s.setCalResult i r).flags = s.flags := rfl
@[simp] theorem State.setCalResult_port (i : Nat) (r : CalResult) : (s.setCalResult i r).port = s.port := rfl
@[simp] theorem State.setCalResult_loader (i : Nat) (r : CalResult) : (s.setCalResult i r).loader = s.loader := rfl

/-! ### `State.modSweep` -/

@[simp] theorem State.modSweep_pending (f : Sweep → Sweep) : (s.modSweep f).pending = s.pending := rfl
@[simp] theorem State.modSweep_tick (f : Sweep → Sweep) : (s.modSweep f).tick = s.tick := rfl
@[simp] theorem State.modSweep_straps (f : Sweep → Sweep) : (s.modSweep f).straps = s.straps := rfl
@[simp] theorem State.modSweep_replyCount (f : Sweep → Sweep) : (s.modSweep f).replyCount = s.replyCount := rfl
@[simp] theorem State.modSweep_sensors (f : Sweep → Sweep) : (s.modSweep f).sensors = s.sensors := rfl
@[simp] theorem State.modSweep_sensorLines (f : Sweep → Sweep) : (s.modSweep f).sensorLines = s.sensorLines := rfl
@[simp] theorem State.modSweep_zones (f : Sweep → Sweep) : (s.modSweep f).zones = s.zones := rfl
@[simp] theorem State.modSweep_segments (f : Sweep → Sweep) : (s.modSweep f).segments = s.segments := rfl
@[simp] theorem State.modSweep_gear (f : Sweep → Sweep) : (s.modSweep f).gear = s.gear := rfl
@[simp] theorem State.modSweep_curves (f : Sweep → Sweep) : (s.modSweep f).curves = s.curves := rfl
@[simp] theorem State.modSweep_gearLines (f : Sweep → Sweep) : (s.modSweep f).gearLines = s.gearLines := rfl
@[simp] theorem State.modSweep_sweep (f : Sweep → Sweep) : (s.modSweep f).sweep = f s.sweep := rfl
@[simp] theorem State.modSweep_calResults (f : Sweep → Sweep) : (s.modSweep f).calResults = s.calResults := rfl
@[simp] theorem State.modSweep_shadeQuery (f : Sweep → Sweep) : (s.modSweep f).shadeQuery = s.shadeQuery := rfl
@[simp] theorem State.modSweep_clock (f : Sweep → Sweep) : (s.modSweep f).clock = s.clock := rfl
@[simp] theorem State.modSweep_profiles (f : Sweep → Sweep) : (s.modSweep f).profiles = s.profiles := rfl
@[simp] theorem State.modSweep_periods (f : Sweep → Sweep) : (s.modSweep f).periods = s.periods := rfl
@[simp] theorem State.modSweep_occ (f : Sweep → Sweep) : (s.modSweep f).occ = s.occ := rfl
@[simp] theorem State.modSweep_live (f : Sweep → Sweep) : (s.modSweep f).live = s.live := rfl
@[simp] theorem State.modSweep_liveSince (f : Sweep → Sweep) : (s.modSweep f).liveSince = s.liveSince := rfl
@[simp] theorem State.modSweep_shadow (f : Sweep → Sweep) : (s.modSweep f).shadow = s.shadow := rfl
@[simp] theorem State.modSweep_shadowHeader (f : Sweep → Sweep) : (s.modSweep f).shadowHeader = s.shadowHeader := rfl
@[simp] theorem State.modSweep_flags (f : Sweep → Sweep) : (s.modSweep f).flags = s.flags := rfl
@[simp] theorem State.modSweep_port (f : Sweep → Sweep) : (s.modSweep f).port = s.port := rfl
@[simp] theorem State.modSweep_loader (f : Sweep → Sweep) : (s.modSweep f).loader = s.loader := rfl

/-! ### `State.modClock` -/

@[simp] theorem State.modClock_pending (f : Clock → Clock) : (s.modClock f).pending = s.pending := rfl
@[simp] theorem State.modClock_tick (f : Clock → Clock) : (s.modClock f).tick = s.tick := rfl
@[simp] theorem State.modClock_straps (f : Clock → Clock) : (s.modClock f).straps = s.straps := rfl
@[simp] theorem State.modClock_replyCount (f : Clock → Clock) : (s.modClock f).replyCount = s.replyCount := rfl
@[simp] theorem State.modClock_sensors (f : Clock → Clock) : (s.modClock f).sensors = s.sensors := rfl
@[simp] theorem State.modClock_sensorLines (f : Clock → Clock) : (s.modClock f).sensorLines = s.sensorLines := rfl
@[simp] theorem State.modClock_zones (f : Clock → Clock) : (s.modClock f).zones = s.zones := rfl
@[simp] theorem State.modClock_segments (f : Clock → Clock) : (s.modClock f).segments = s.segments := rfl
@[simp] theorem State.modClock_gear (f : Clock → Clock) : (s.modClock f).gear = s.gear := rfl
@[simp] theorem State.modClock_curves (f : Clock → Clock) : (s.modClock f).curves = s.curves := rfl
@[simp] theorem State.modClock_gearLines (f : Clock → Clock) : (s.modClock f).gearLines = s.gearLines := rfl
@[simp] theorem State.modClock_sweep (f : Clock → Clock) : (s.modClock f).sweep = s.sweep := rfl
@[simp] theorem State.modClock_calResults (f : Clock → Clock) : (s.modClock f).calResults = s.calResults := rfl
@[simp] theorem State.modClock_shadeQuery (f : Clock → Clock) : (s.modClock f).shadeQuery = s.shadeQuery := rfl
@[simp] theorem State.modClock_clock (f : Clock → Clock) : (s.modClock f).clock = f s.clock := rfl
@[simp] theorem State.modClock_profiles (f : Clock → Clock) : (s.modClock f).profiles = s.profiles := rfl
@[simp] theorem State.modClock_periods (f : Clock → Clock) : (s.modClock f).periods = s.periods := rfl
@[simp] theorem State.modClock_occ (f : Clock → Clock) : (s.modClock f).occ = s.occ := rfl
@[simp] theorem State.modClock_live (f : Clock → Clock) : (s.modClock f).live = s.live := rfl
@[simp] theorem State.modClock_liveSince (f : Clock → Clock) : (s.modClock f).liveSince = s.liveSince := rfl
@[simp] theorem State.modClock_shadow (f : Clock → Clock) : (s.modClock f).shadow = s.shadow := rfl
@[simp] theorem State.modClock_shadowHeader (f : Clock → Clock) : (s.modClock f).shadowHeader = s.shadowHeader := rfl
@[simp] theorem State.modClock_flags (f : Clock → Clock) : (s.modClock f).flags = s.flags := rfl
@[simp] theorem State.modClock_port (f : Clock → Clock) : (s.modClock f).port = s.port := rfl
@[simp] theorem State.modClock_loader (f : Clock → Clock) : (s.modClock f).loader = s.loader := rfl

/-! ### `State.modLive` -/

@[simp] theorem State.modLive_pending (f : Counters → Counters) : (s.modLive f).pending = s.pending := rfl
@[simp] theorem State.modLive_tick (f : Counters → Counters) : (s.modLive f).tick = s.tick := rfl
@[simp] theorem State.modLive_straps (f : Counters → Counters) : (s.modLive f).straps = s.straps := rfl
@[simp] theorem State.modLive_replyCount (f : Counters → Counters) : (s.modLive f).replyCount = s.replyCount := rfl
@[simp] theorem State.modLive_sensors (f : Counters → Counters) : (s.modLive f).sensors = s.sensors := rfl
@[simp] theorem State.modLive_sensorLines (f : Counters → Counters) : (s.modLive f).sensorLines = s.sensorLines := rfl
@[simp] theorem State.modLive_zones (f : Counters → Counters) : (s.modLive f).zones = s.zones := rfl
@[simp] theorem State.modLive_segments (f : Counters → Counters) : (s.modLive f).segments = s.segments := rfl
@[simp] theorem State.modLive_gear (f : Counters → Counters) : (s.modLive f).gear = s.gear := rfl
@[simp] theorem State.modLive_curves (f : Counters → Counters) : (s.modLive f).curves = s.curves := rfl
@[simp] theorem State.modLive_gearLines (f : Counters → Counters) : (s.modLive f).gearLines = s.gearLines := rfl
@[simp] theorem State.modLive_sweep (f : Counters → Counters) : (s.modLive f).sweep = s.sweep := rfl
@[simp] theorem State.modLive_calResults (f : Counters → Counters) : (s.modLive f).calResults = s.calResults := rfl
@[simp] theorem State.modLive_shadeQuery (f : Counters → Counters) : (s.modLive f).shadeQuery = s.shadeQuery := rfl
@[simp] theorem State.modLive_clock (f : Counters → Counters) : (s.modLive f).clock = s.clock := rfl
@[simp] theorem State.modLive_profiles (f : Counters → Counters) : (s.modLive f).profiles = s.profiles := rfl
@[simp] theorem State.modLive_periods (f : Counters → Counters) : (s.modLive f).periods = s.periods := rfl
@[simp] theorem State.modLive_occ (f : Counters → Counters) : (s.modLive f).occ = s.occ := rfl
@[simp] theorem State.modLive_live (f : Counters → Counters) : (s.modLive f).live = f s.live := rfl
@[simp] theorem State.modLive_liveSince (f : Counters → Counters) : (s.modLive f).liveSince = s.liveSince := rfl
@[simp] theorem State.modLive_shadow (f : Counters → Counters) : (s.modLive f).shadow = s.shadow := rfl
@[simp] theorem State.modLive_shadowHeader (f : Counters → Counters) :
    (s.modLive f).shadowHeader = s.shadowHeader := rfl
@[simp] theorem State.modLive_flags (f : Counters → Counters) : (s.modLive f).flags = s.flags := rfl
@[simp] theorem State.modLive_port (f : Counters → Counters) : (s.modLive f).port = s.port := rfl
@[simp] theorem State.modLive_loader (f : Counters → Counters) : (s.modLive f).loader = s.loader := rfl

/-! ### `State.modPort` -/

@[simp] theorem State.modPort_pending (f : Port → Port) : (s.modPort f).pending = s.pending := rfl
@[simp] theorem State.modPort_tick (f : Port → Port) : (s.modPort f).tick = s.tick := rfl
@[simp] theorem State.modPort_straps (f : Port → Port) : (s.modPort f).straps = s.straps := rfl
@[simp] theorem State.modPort_replyCount (f : Port → Port) : (s.modPort f).replyCount = s.replyCount := rfl
@[simp] theorem State.modPort_sensors (f : Port → Port) : (s.modPort f).sensors = s.sensors := rfl
@[simp] theorem State.modPort_sensorLines (f : Port → Port) : (s.modPort f).sensorLines = s.sensorLines := rfl
@[simp] theorem State.modPort_zones (f : Port → Port) : (s.modPort f).zones = s.zones := rfl
@[simp] theorem State.modPort_segments (f : Port → Port) : (s.modPort f).segments = s.segments := rfl
@[simp] theorem State.modPort_gear (f : Port → Port) : (s.modPort f).gear = s.gear := rfl
@[simp] theorem State.modPort_curves (f : Port → Port) : (s.modPort f).curves = s.curves := rfl
@[simp] theorem State.modPort_gearLines (f : Port → Port) : (s.modPort f).gearLines = s.gearLines := rfl
@[simp] theorem State.modPort_sweep (f : Port → Port) : (s.modPort f).sweep = s.sweep := rfl
@[simp] theorem State.modPort_calResults (f : Port → Port) : (s.modPort f).calResults = s.calResults := rfl
@[simp] theorem State.modPort_shadeQuery (f : Port → Port) : (s.modPort f).shadeQuery = s.shadeQuery := rfl
@[simp] theorem State.modPort_clock (f : Port → Port) : (s.modPort f).clock = s.clock := rfl
@[simp] theorem State.modPort_profiles (f : Port → Port) : (s.modPort f).profiles = s.profiles := rfl
@[simp] theorem State.modPort_periods (f : Port → Port) : (s.modPort f).periods = s.periods := rfl
@[simp] theorem State.modPort_occ (f : Port → Port) : (s.modPort f).occ = s.occ := rfl
@[simp] theorem State.modPort_live (f : Port → Port) : (s.modPort f).live = s.live := rfl
@[simp] theorem State.modPort_liveSince (f : Port → Port) : (s.modPort f).liveSince = s.liveSince := rfl
@[simp] theorem State.modPort_shadow (f : Port → Port) : (s.modPort f).shadow = s.shadow := rfl
@[simp] theorem State.modPort_shadowHeader (f : Port → Port) : (s.modPort f).shadowHeader = s.shadowHeader := rfl
@[simp] theorem State.modPort_flags (f : Port → Port) : (s.modPort f).flags = s.flags := rfl
@[simp] theorem State.modPort_port (f : Port → Port) : (s.modPort f).port = f s.port := rfl
@[simp] theorem State.modPort_loader (f : Port → Port) : (s.modPort f).loader = s.loader := rfl

/-! ### `State.modLoader` -/

@[simp] theorem State.modLoader_pending (f : Loader → Loader) : (s.modLoader f).pending = s.pending := rfl
@[simp] theorem State.modLoader_tick (f : Loader → Loader) : (s.modLoader f).tick = s.tick := rfl
@[simp] theorem State.modLoader_straps (f : Loader → Loader) : (s.modLoader f).straps = s.straps := rfl
@[simp] theorem State.modLoader_replyCount (f : Loader → Loader) : (s.modLoader f).replyCount = s.replyCount := rfl
@[simp] theorem State.modLoader_sensors (f : Loader → Loader) : (s.modLoader f).sensors = s.sensors := rfl
@[simp] theorem State.modLoader_sensorLines (f : Loader → Loader) : (s.modLoader f).sensorLines = s.sensorLines := rfl
@[simp] theorem State.modLoader_zones (f : Loader → Loader) : (s.modLoader f).zones = s.zones := rfl
@[simp] theorem State.modLoader_segments (f : Loader → Loader) : (s.modLoader f).segments = s.segments := rfl
@[simp] theorem State.modLoader_gear (f : Loader → Loader) : (s.modLoader f).gear = s.gear := rfl
@[simp] theorem State.modLoader_curves (f : Loader → Loader) : (s.modLoader f).curves = s.curves := rfl
@[simp] theorem State.modLoader_gearLines (f : Loader → Loader) : (s.modLoader f).gearLines = s.gearLines := rfl
@[simp] theorem State.modLoader_sweep (f : Loader → Loader) : (s.modLoader f).sweep = s.sweep := rfl
@[simp] theorem State.modLoader_calResults (f : Loader → Loader) : (s.modLoader f).calResults = s.calResults := rfl
@[simp] theorem State.modLoader_shadeQuery (f : Loader → Loader) : (s.modLoader f).shadeQuery = s.shadeQuery := rfl
@[simp] theorem State.modLoader_clock (f : Loader → Loader) : (s.modLoader f).clock = s.clock := rfl
@[simp] theorem State.modLoader_profiles (f : Loader → Loader) : (s.modLoader f).profiles = s.profiles := rfl
@[simp] theorem State.modLoader_periods (f : Loader → Loader) : (s.modLoader f).periods = s.periods := rfl
@[simp] theorem State.modLoader_occ (f : Loader → Loader) : (s.modLoader f).occ = s.occ := rfl
@[simp] theorem State.modLoader_live (f : Loader → Loader) : (s.modLoader f).live = s.live := rfl
@[simp] theorem State.modLoader_liveSince (f : Loader → Loader) : (s.modLoader f).liveSince = s.liveSince := rfl
@[simp] theorem State.modLoader_shadow (f : Loader → Loader) : (s.modLoader f).shadow = s.shadow := rfl
@[simp] theorem State.modLoader_shadowHeader (f : Loader → Loader) :
    (s.modLoader f).shadowHeader = s.shadowHeader := rfl
@[simp] theorem State.modLoader_flags (f : Loader → Loader) : (s.modLoader f).flags = s.flags := rfl
@[simp] theorem State.modLoader_port (f : Loader → Loader) : (s.modLoader f).port = s.port := rfl
@[simp] theorem State.modLoader_loader (f : Loader → Loader) : (s.modLoader f).loader = f s.loader := rfl

/-! ### `State.pushReply` -/

@[simp] theorem State.pushReply_pending (r : Reply) : (s.pushReply r).pending = s.pending := rfl
@[simp] theorem State.pushReply_tick (r : Reply) : (s.pushReply r).tick = s.tick := rfl
@[simp] theorem State.pushReply_straps (r : Reply) : (s.pushReply r).straps = s.straps := rfl
@[simp] theorem State.pushReply_replyCount (r : Reply) : (s.pushReply r).replyCount = s.replyCount + 1 := rfl
@[simp] theorem State.pushReply_sensors (r : Reply) : (s.pushReply r).sensors = s.sensors := rfl
@[simp] theorem State.pushReply_sensorLines (r : Reply) : (s.pushReply r).sensorLines = s.sensorLines := rfl
@[simp] theorem State.pushReply_zones (r : Reply) : (s.pushReply r).zones = s.zones := rfl
@[simp] theorem State.pushReply_segments (r : Reply) : (s.pushReply r).segments = s.segments := rfl
@[simp] theorem State.pushReply_gear (r : Reply) : (s.pushReply r).gear = s.gear := rfl
@[simp] theorem State.pushReply_curves (r : Reply) : (s.pushReply r).curves = s.curves := rfl
@[simp] theorem State.pushReply_gearLines (r : Reply) : (s.pushReply r).gearLines = s.gearLines := rfl
@[simp] theorem State.pushReply_sweep (r : Reply) : (s.pushReply r).sweep = s.sweep := rfl
@[simp] theorem State.pushReply_calResults (r : Reply) : (s.pushReply r).calResults = s.calResults := rfl
@[simp] theorem State.pushReply_shadeQuery (r : Reply) : (s.pushReply r).shadeQuery = s.shadeQuery := rfl
@[simp] theorem State.pushReply_clock (r : Reply) : (s.pushReply r).clock = s.clock := rfl
@[simp] theorem State.pushReply_profiles (r : Reply) : (s.pushReply r).profiles = s.profiles := rfl
@[simp] theorem State.pushReply_periods (r : Reply) : (s.pushReply r).periods = s.periods := rfl
@[simp] theorem State.pushReply_occ (r : Reply) : (s.pushReply r).occ = s.occ := rfl
@[simp] theorem State.pushReply_live (r : Reply) : (s.pushReply r).live = s.live := rfl
@[simp] theorem State.pushReply_liveSince (r : Reply) : (s.pushReply r).liveSince = s.liveSince := rfl
@[simp] theorem State.pushReply_shadow (r : Reply) : (s.pushReply r).shadow = s.shadow := rfl
@[simp] theorem State.pushReply_shadowHeader (r : Reply) : (s.pushReply r).shadowHeader = s.shadowHeader := rfl
@[simp] theorem State.pushReply_flags (r : Reply) : (s.pushReply r).flags = s.flags := rfl
@[simp] theorem State.pushReply_port (r : Reply) :
    (s.pushReply r).port = { s.port with replies := s.port.replies ++ [r] } := rfl
@[simp] theorem State.pushReply_loader (r : Reply) : (s.pushReply r).loader = s.loader := rfl

/-! ### `State.latchIf` -/

@[simp] theorem State.latchIf_pending (c : Bool) (f : Flag) : (s.latchIf c f).pending = s.pending := by cases c <;> rfl
@[simp] theorem State.latchIf_tick (c : Bool) (f : Flag) : (s.latchIf c f).tick = s.tick := by cases c <;> rfl
@[simp] theorem State.latchIf_straps (c : Bool) (f : Flag) : (s.latchIf c f).straps = s.straps := by cases c <;> rfl
@[simp] theorem State.latchIf_replyCount (c : Bool) (f : Flag) : (s.latchIf c f).replyCount = s.replyCount := by cases c <;> rfl
@[simp] theorem State.latchIf_sensors (c : Bool) (f : Flag) : (s.latchIf c f).sensors = s.sensors := by cases c <;> rfl
@[simp] theorem State.latchIf_sensorLines (c : Bool) (f : Flag) : (s.latchIf c f).sensorLines = s.sensorLines := by cases c <;> rfl
@[simp] theorem State.latchIf_zones (c : Bool) (f : Flag) : (s.latchIf c f).zones = s.zones := by cases c <;> rfl
@[simp] theorem State.latchIf_segments (c : Bool) (f : Flag) : (s.latchIf c f).segments = s.segments := by cases c <;> rfl
@[simp] theorem State.latchIf_gear (c : Bool) (f : Flag) : (s.latchIf c f).gear = s.gear := by cases c <;> rfl
@[simp] theorem State.latchIf_curves (c : Bool) (f : Flag) : (s.latchIf c f).curves = s.curves := by cases c <;> rfl
@[simp] theorem State.latchIf_gearLines (c : Bool) (f : Flag) : (s.latchIf c f).gearLines = s.gearLines := by cases c <;> rfl
@[simp] theorem State.latchIf_sweep (c : Bool) (f : Flag) : (s.latchIf c f).sweep = s.sweep := by cases c <;> rfl
@[simp] theorem State.latchIf_calResults (c : Bool) (f : Flag) : (s.latchIf c f).calResults = s.calResults := by cases c <;> rfl
@[simp] theorem State.latchIf_shadeQuery (c : Bool) (f : Flag) : (s.latchIf c f).shadeQuery = s.shadeQuery := by cases c <;> rfl
@[simp] theorem State.latchIf_clock (c : Bool) (f : Flag) : (s.latchIf c f).clock = s.clock := by cases c <;> rfl
@[simp] theorem State.latchIf_profiles (c : Bool) (f : Flag) : (s.latchIf c f).profiles = s.profiles := by cases c <;> rfl
@[simp] theorem State.latchIf_periods (c : Bool) (f : Flag) : (s.latchIf c f).periods = s.periods := by cases c <;> rfl
@[simp] theorem State.latchIf_occ (c : Bool) (f : Flag) : (s.latchIf c f).occ = s.occ := by cases c <;> rfl
@[simp] theorem State.latchIf_live (c : Bool) (f : Flag) : (s.latchIf c f).live = s.live := by cases c <;> rfl
@[simp] theorem State.latchIf_liveSince (c : Bool) (f : Flag) : (s.latchIf c f).liveSince = s.liveSince := by cases c <;> rfl
@[simp] theorem State.latchIf_shadow (c : Bool) (f : Flag) : (s.latchIf c f).shadow = s.shadow := by cases c <;> rfl
@[simp] theorem State.latchIf_shadowHeader (c : Bool) (f : Flag) : (s.latchIf c f).shadowHeader = s.shadowHeader := by cases c <;> rfl
theorem State.latchIf_flags (c : Bool) (f : Flag) :
    (s.latchIf c f).flags = if c then (s.latch f).flags else s.flags := by cases c <;> rfl
@[simp] theorem State.latchIf_port (c : Bool) (f : Flag) : (s.latchIf c f).port = s.port := by cases c <;> rfl
@[simp] theorem State.latchIf_loader (c : Bool) (f : Flag) : (s.latchIf c f).loader = s.loader := by cases c <;> rfl

/-! ### `State.countBy` and `State.count` -/

@[simp] theorem State.countBy_pending (k : Counter) (n : Nat) : (s.countBy k n).pending = s.pending := by
  simp [State.countBy]
@[simp] theorem State.countBy_tick (k : Counter) (n : Nat) : (s.countBy k n).tick = s.tick := by
  simp [State.countBy]
@[simp] theorem State.countBy_straps (k : Counter) (n : Nat) : (s.countBy k n).straps = s.straps := by
  simp [State.countBy]
@[simp] theorem State.countBy_replyCount (k : Counter) (n : Nat) : (s.countBy k n).replyCount = s.replyCount := by
  simp [State.countBy]
@[simp] theorem State.countBy_sensors (k : Counter) (n : Nat) : (s.countBy k n).sensors = s.sensors := by
  simp [State.countBy]
@[simp] theorem State.countBy_sensorLines (k : Counter) (n : Nat) : (s.countBy k n).sensorLines = s.sensorLines := by
  simp [State.countBy]
@[simp] theorem State.countBy_zones (k : Counter) (n : Nat) : (s.countBy k n).zones = s.zones := by
  simp [State.countBy]
@[simp] theorem State.countBy_segments (k : Counter) (n : Nat) : (s.countBy k n).segments = s.segments := by
  simp [State.countBy]
@[simp] theorem State.countBy_gear (k : Counter) (n : Nat) : (s.countBy k n).gear = s.gear := by
  simp [State.countBy]
@[simp] theorem State.countBy_curves (k : Counter) (n : Nat) : (s.countBy k n).curves = s.curves := by
  simp [State.countBy]
@[simp] theorem State.countBy_gearLines (k : Counter) (n : Nat) : (s.countBy k n).gearLines = s.gearLines := by
  simp [State.countBy]
@[simp] theorem State.countBy_sweep (k : Counter) (n : Nat) : (s.countBy k n).sweep = s.sweep := by
  simp [State.countBy]
@[simp] theorem State.countBy_calResults (k : Counter) (n : Nat) : (s.countBy k n).calResults = s.calResults := by
  simp [State.countBy]
@[simp] theorem State.countBy_shadeQuery (k : Counter) (n : Nat) : (s.countBy k n).shadeQuery = s.shadeQuery := by
  simp [State.countBy]
@[simp] theorem State.countBy_clock (k : Counter) (n : Nat) : (s.countBy k n).clock = s.clock := by
  simp [State.countBy]
@[simp] theorem State.countBy_profiles (k : Counter) (n : Nat) : (s.countBy k n).profiles = s.profiles := by
  simp [State.countBy]
@[simp] theorem State.countBy_periods (k : Counter) (n : Nat) : (s.countBy k n).periods = s.periods := by
  simp [State.countBy]
@[simp] theorem State.countBy_occ (k : Counter) (n : Nat) : (s.countBy k n).occ = s.occ := by
  simp [State.countBy]
@[simp] theorem State.countBy_live (k : Counter) (n : Nat) :
    (s.countBy k n).live = s.live.put k (satAdd (s.live.get k) n) := by simp [State.countBy]
@[simp] theorem State.countBy_liveSince (k : Counter) (n : Nat) : (s.countBy k n).liveSince = s.liveSince := by
  simp [State.countBy]
@[simp] theorem State.countBy_shadow (k : Counter) (n : Nat) : (s.countBy k n).shadow = s.shadow := by
  simp [State.countBy]
@[simp] theorem State.countBy_shadowHeader (k : Counter) (n : Nat) : (s.countBy k n).shadowHeader = s.shadowHeader := by
  simp [State.countBy]
theorem State.countBy_flags (k : Counter) (n : Nat) :
    (s.countBy k n).flags
      = if saturates (s.live.get k) n then (s.latch .counterSaturated).flags else s.flags := by
  unfold State.countBy; cases saturates (s.live.get k) n <;> rfl
@[simp] theorem State.countBy_port (k : Counter) (n : Nat) : (s.countBy k n).port = s.port := by
  simp [State.countBy]
@[simp] theorem State.countBy_loader (k : Counter) (n : Nat) : (s.countBy k n).loader = s.loader := by
  simp [State.countBy]
@[simp] theorem State.count_pending (k : Counter) : (s.count k).pending = s.pending := s.countBy_pending k 1
@[simp] theorem State.count_tick (k : Counter) : (s.count k).tick = s.tick := s.countBy_tick k 1
@[simp] theorem State.count_straps (k : Counter) : (s.count k).straps = s.straps := s.countBy_straps k 1
@[simp] theorem State.count_replyCount (k : Counter) : (s.count k).replyCount = s.replyCount := s.countBy_replyCount k 1
@[simp] theorem State.count_sensors (k : Counter) : (s.count k).sensors = s.sensors := s.countBy_sensors k 1
@[simp] theorem State.count_sensorLines (k : Counter) : (s.count k).sensorLines = s.sensorLines := s.countBy_sensorLines k 1
@[simp] theorem State.count_zones (k : Counter) : (s.count k).zones = s.zones := s.countBy_zones k 1
@[simp] theorem State.count_segments (k : Counter) : (s.count k).segments = s.segments := s.countBy_segments k 1
@[simp] theorem State.count_gear (k : Counter) : (s.count k).gear = s.gear := s.countBy_gear k 1
@[simp] theorem State.count_curves (k : Counter) : (s.count k).curves = s.curves := s.countBy_curves k 1
@[simp] theorem State.count_gearLines (k : Counter) : (s.count k).gearLines = s.gearLines := s.countBy_gearLines k 1
@[simp] theorem State.count_sweep (k : Counter) : (s.count k).sweep = s.sweep := s.countBy_sweep k 1
@[simp] theorem State.count_calResults (k : Counter) : (s.count k).calResults = s.calResults := s.countBy_calResults k 1
@[simp] theorem State.count_shadeQuery (k : Counter) : (s.count k).shadeQuery = s.shadeQuery := s.countBy_shadeQuery k 1
@[simp] theorem State.count_clock (k : Counter) : (s.count k).clock = s.clock := s.countBy_clock k 1
@[simp] theorem State.count_profiles (k : Counter) : (s.count k).profiles = s.profiles := s.countBy_profiles k 1
@[simp] theorem State.count_periods (k : Counter) : (s.count k).periods = s.periods := s.countBy_periods k 1
@[simp] theorem State.count_occ (k : Counter) : (s.count k).occ = s.occ := s.countBy_occ k 1
@[simp] theorem State.count_liveSince (k : Counter) : (s.count k).liveSince = s.liveSince := s.countBy_liveSince k 1
@[simp] theorem State.count_shadow (k : Counter) : (s.count k).shadow = s.shadow := s.countBy_shadow k 1
@[simp] theorem State.count_shadowHeader (k : Counter) : (s.count k).shadowHeader = s.shadowHeader := s.countBy_shadowHeader k 1
@[simp] theorem State.count_port (k : Counter) : (s.count k).port = s.port := s.countBy_port k 1
@[simp] theorem State.count_loader (k : Counter) : (s.count k).loader = s.loader := s.countBy_loader k 1
@[simp] theorem State.count_live (k : Counter) : (s.count k).live = s.live.put k (satAdd (s.live.get k) 1) :=
  s.countBy_live k 1

end Sys2Proof.Machine
end

