-- ==== Sys2Proof/Laws/Tables.lean ====
section
/-! SUPPORT. What a lookup in a table gives after the table's named updates, and the basic laws of the shared operations on
lists, timers and checks. -/

namespace Sys2Proof.Machine

set_option Elab.async false

/-! ### Tables of optional entries -/

theorem entryAt_set {α : Type} (l : List (Option α)) (i j : Nat) (x : Option α) :
    entryAt (l.set i x) j = if i = j ∧ i < l.length then x else entryAt l j := by
  unfold entryAt
  by_cases h : i = j
  · subst h
    by_cases hl : i < l.length
    · simp [hl]
    · simp [hl]
  · simp [List.getElem?_set_ne h, h]

theorem entryAt_modify {α : Type} (l : List (Option α)) (i j : Nat) (f : α → α) :
    entryAt (l.modify i (Option.map f)) j = if i = j then (entryAt l j).map f else entryAt l j := by
  unfold entryAt
  rw [List.getElem?_modify]
  split
  · subst i; cases l[j]? <;> simp
  · simp

theorem entryAt_map {α : Type} (l : List (Option α)) (j : Nat) (f : α → α) :
    entryAt (l.map (Option.map f)) j = (entryAt l j).map f := by
  unfold entryAt; rw [List.getElem?_map]; cases l[j]? <;> simp

/-- A defined entry lies in its table. -/
theorem entryAt_lt {α : Type} {l : List (Option α)} {i : Nat} {x : α} (h : entryAt l i = some x) : i < l.length := by
  unfold entryAt at h
  by_contra hl
  rw [List.getElem?_eq_none (by omega)] at h; cases h

theorem mem_of_entryAt {α : Type} {l : List (Option α)} {i : Nat} {x : α} (h : entryAt l i = some x) : some x ∈ l := by
  unfold entryAt at h
  cases hi : l[i]? with
  | none => simp [hi] at h
  | some o =>
    simp only [hi, Option.join_some] at h
    subst h; exact List.mem_of_getElem? hi

theorem State.sensor_setSensor (s : State) (i j : Nat) (x : Option Sensor) :
    (s.setSensor i x).sensor j = if i = j ∧ i < s.sensors.length then x else s.sensor j := entryAt_set ..
theorem State.sensor_modSensor (s : State) (i j : Nat) (f : Sensor → Sensor) :
    (s.modSensor i f).sensor j = if i = j then (s.sensor j).map f else s.sensor j := entryAt_modify ..
theorem State.zone_setZone (s : State) (i j : Nat) (x : Option Zone) :
    (s.setZone i x).zone j = if i = j ∧ i < s.zones.length then x else s.zone j := entryAt_set ..
theorem State.zone_modZone (s : State) (i j : Nat) (f : Zone → Zone) :
    (s.modZone i f).zone j = if i = j then (s.zone j).map f else s.zone j := entryAt_modify ..
theorem State.gearAt_setGear (s : State) (i j : Nat) (x : Option Gear) :
    (s.setGear i x).gearAt j = if i = j ∧ i < s.gear.length then x else s.gearAt j := entryAt_set ..
theorem State.gearAt_modGear (s : State) (i j : Nat) (f : Gear → Gear) :
    (s.modGear i f).gearAt j = if i = j then (s.gearAt j).map f else s.gearAt j := entryAt_modify ..

/-! ### Tables without undefined entries -/

theorem getD_modify {α : Type} (l : List α) (i j : Nat) (f : α → α) (d : α) :
    (l.modify i f).getD j d = if i = j ∧ j < l.length then f (l.getD j d) else l.getD j d := by
  simp only [List.getD_eq_getElem?_getD, List.getElem?_modify]
  by_cases h : i = j
  · subst h
    by_cases hl : i < l.length
    · simp [hl]
    · simp [hl]
  · simp [h]

theorem State.segment_modSegment (s : State) (i j : Nat) (f : Segment → Segment) :
    (s.modSegment i f).segment j = if i = j ∧ j < s.segments.length then f (s.segment j) else s.segment j :=
  getD_modify ..
theorem State.sensorLine_modSensorLine (s : State) (i j : Nat) (f : SensorLine → SensorLine) :
    (s.modSensorLine i f).sensorLine j
      = if i = j ∧ j < s.sensorLines.length then f (s.sensorLine j) else s.sensorLine j := getD_modify ..
theorem State.gearLine_modGearLine (s : State) (i j : Nat) (f : GearLine → GearLine) :
    (s.modGearLine i f).gearLine j = if i = j ∧ j < s.gearLines.length then f (s.gearLine j) else s.gearLine j :=
  getD_modify ..
theorem State.occInput_modOcc (s : State) (i j : Nat) (f : OccInput → OccInput) :
    (s.modOcc i f).occInput j = if i = j ∧ j < s.occ.length then f (s.occInput j) else s.occInput j := getD_modify ..

/-! ### Lists of indices -/

theorem mem_indicesWhere {n i : Nat} {p : Nat → Bool} : i ∈ indicesWhere n p ↔ i < n ∧ p i = true := by
  simp [indicesWhere]

theorem State.mem_zonesWhere {s : State} {p : Zone → Bool} {z : Nat} :
    z ∈ s.zonesWhere p ↔ ∃ x, s.zone z = some x ∧ p x = true := by
  rw [State.zonesWhere, mem_indicesWhere, Option.any_eq_true]
  exact ⟨fun h => h.2, fun ⟨x, h, hp⟩ => ⟨entryAt_lt h, x, h, hp⟩⟩

theorem State.mem_gearWhere {s : State} {p : Gear → Bool} {i : Nat} :
    i ∈ s.gearWhere p ↔ ∃ g, s.gearAt i = some g ∧ p g = true := by
  rw [State.gearWhere, mem_indicesWhere, Option.any_eq_true]
  exact ⟨fun h => h.2, fun ⟨x, h, hp⟩ => ⟨entryAt_lt h, x, h, hp⟩⟩

theorem State.mem_sensorsWhere {s : State} {p : Sensor → Bool} {i : Nat} :
    i ∈ s.sensorsWhere p ↔ ∃ x, s.sensor i = some x ∧ p x = true := by
  rw [State.sensorsWhere, mem_indicesWhere, Option.any_eq_true]
  exact ⟨fun h => h.2, fun ⟨x, h, hp⟩ => ⟨entryAt_lt h, x, h, hp⟩⟩

theorem forEach_nil (f : Nat → State → State) (s : State) : forEach [] f s = s := rfl
theorem forEach_cons (i : Nat) (l : List Nat) (f : Nat → State → State) (s : State) :
    forEach (i :: l) f s = forEach l f (f i s) := rfl

/-! ### Checks -/

@[simp] theorem firstFailing_nil : firstFailing [] = none := rfl

theorem firstFailing_cons (c : Bool) (r : Result) (l : List (Bool × Result)) :
    firstFailing ((c, r) :: l) = if c then firstFailing l else some r := rfl

theorem firstFailing_eq_none {l : List (Bool × Result)} : firstFailing l = none ↔ ∀ c ∈ l, c.1 = true := by
  induction l with
  | nil => simp
  | cons c l ih => obtain ⟨b, r⟩ := c; cases b <;> simp [firstFailing_cons, ih]

/-- A request whose checks all hold is carried out. -/
theorem checked_carried {checks : List (Bool × Result)} (h : ∀ c ∈ checks, c.1 = true) (s : State) (carry : Served) :
    checked checks s carry = carry := by
  simp only [checked, firstFailing_eq_none.mpr h]

/-- A request is refused with nothing changed, or every check holds and it is carried out. -/
theorem checked_cases (checks : List (Bool × Result)) (s : State) (carry : Served) :
    (∃ r, checked checks s carry = refused r s) ∨ ((∀ c ∈ checks, c.1 = true) ∧ checked checks s carry = carry) := by
  unfold checked
  split
  · exact .inl ⟨_, rfl⟩
  · next h => exact .inr ⟨firstFailing_eq_none.mp h, rfl⟩

@[simp] theorem whenRunning_of_running {s : State} (h : s.running = true) (f : State → Served) :
    whenRunning f s = f s := by simp [whenRunning, h]

theorem whenRunning_of_not {s : State} (h : s.running = false) (f : State → Served) :
    whenRunning f s = refused .notReady s := by simp [whenRunning, h]

/-! ### Counters -/

theorem satAdd_le (c n : Nat) : satAdd c n ≤ Config.counterMax := min_le_left _ _

end Sys2Proof.Machine
end

