-- ==== Sys2Proof/Laws/Moves.lean ====
section
/-! SUPPORT. What an operation of the part can do, said once: `Moves n s t` holds when `t` comes from `s` by updates that keep
the part sound and touch no record of a rank above `n`. Rank 0 is the flags that are latched, the live counters as they grow,
the gear's marks and the transmit queues; 1 adds the zones' runtime, 2 the shade groups', 3 the sweep and what it writes into
the sensors, 4 the scanners' and the loader's, 5 the sensors', the gear's, the gear lines', the clock's and the inputs'; 6
adds the configuration, and 7 the port, the shadow counters and the clearing of flags and counters. -/

namespace Sys2Proof.Machine

set_option Elab.async false

open Sys2Proof.Safety

/-- The rank from which a move may latch a flag. -/
def flagRank : Flag → Nat
  | .counterSaturated => 0
  | .zoneFallback => 1
  | .shadeFault => 2
  | .calFinished => 3
  | .sensorLineOverrun | .storeError | .saveFinished => 4
  | .sensorFault | .outputLost | .gearSilent | .lampFail | .lineDown | .occChange | .clockInvalid
  | .configDefaults => 5
  | .hostFrameError => 7

/-- The rank from which a move may increase a counter. -/
def counterRank : Counter → Nat
  | .deferrals _ => 0
  | .overrideS _ => 1
  | .moves _ | .stalls _ => 2
  | .electric _ | .saved _ | .daylitS _ => 4
  | .frames _ | .retries _ | .silentEvents _ | .groupFrames _ | .mismatches _ | .misses _ => 5
  | .framingErrors | .busyReplies => 7

/-- A sensor without its dark offset and its contribution list, which a sweep writes. -/
def sensorCore (x : Sensor) : Sensor := { x with darkOffset := 0, contrib := [] }

/-- The parameters of a sensor line (R22). -/
def sensorLineParams (x : SensorLine) : Speed × Nat × Nat := (x.speed, x.pollInterval, x.missLimit)

/-- The port keeps its places. -/
def PortSound (p : Port) : Prop :=
  p.queue.length ≤ Config.requestQueueCap ∧ p.busyList.length ≤ Config.requestQueueCap

/-- `t` comes from `s` by sound updates of records of rank `n` at most. -/
inductive Moves (n : Nat) : State → State → Prop
  | refl (s : State) : Moves n s s
  | trans {s t u : State} : Moves n s t → Moves n t u → Moves n s u
  | flag (s : State) (f : Flag) (hf : flagRank f ≤ n) : Moves n s (s.latch f)
  | live (s : State) (k : Counter) (v : Nat) (hk : counterRank k ≤ n) :
      Moves n s (s.modLive (Counters.put k (satAdd (s.live.get k) v)))
  | gear (s : State) (l : List (Option Gear))
      (h : l.map (Option.map gearCore) = s.gear.map (Option.map gearCore)) : Moves n s { s with gear := l }
  | lines (s : State) (l : List GearLine) (h : l.map lineCore = s.gearLines.map lineCore)
      (q : LinesSound s → ∀ x ∈ l, LineSound x) : Moves n s { s with gearLines := l }
  | zones (hn : 1 ≤ n) (s : State) (l : List (Option Zone))
      (h : l.map (Option.map Zone.cfg) = s.zones.map (Option.map Zone.cfg))
      (q : LevelsLegal s → ∀ x, some x ∈ l → ZoneLegal x) : Moves n s { s with zones := l }
  | segments (hn : 2 ≤ n) (s : State) (l : List Segment) (h : l.map Segment.cfg = s.segments.map Segment.cfg) :
      Moves n s { s with segments := l }
  | gearShade (hn : 2 ≤ n) (s : State) (l : List (Option Gear))
      (h : l.map (Option.map gearShadeCore) = s.gear.map (Option.map gearShadeCore)) : Moves n s { s with gear := l }
  | sweep (hn : 3 ≤ n) (s : State) (w : Sweep) : Moves n s { s with sweep := w }
  | calResults (hn : 3 ≤ n) (s : State) (l : List CalResult)
      (h : s.calResults.length = Config.nZones → l.length = Config.nZones) :
      Moves n s { s with calResults := l }
  | sensors (hn : 3 ≤ n) (s : State) (l : List (Option Sensor))
      (h : l.map (Option.map sensorCore) = s.sensors.map (Option.map sensorCore)) : Moves n s { s with sensors := l }
  | sensorsRun (hn : 5 ≤ n) (s : State) (l : List (Option Sensor))
      (h : l.map (Option.map sensorDef) = s.sensors.map (Option.map sensorDef)) : Moves n s { s with sensors := l }
  | gearRun (hn : 5 ≤ n) (s : State) (l : List (Option Gear))
      (h : l.map (Option.map Gear.cfg) = s.gear.map (Option.map Gear.cfg)) : Moves n s { s with gear := l }
  | linesRun (hn : 5 ≤ n) (s : State) (l : List GearLine) (h : l.map lineParams = s.gearLines.map lineParams)
      (q : LinesSound s → ∀ x ∈ l, LineSound x) : Moves n s { s with gearLines := l }
  | sensorLines (hn : 4 ≤ n) (s : State) (l : List SensorLine)
      (h : l.map sensorLineParams = s.sensorLines.map sensorLineParams) : Moves n s { s with sensorLines := l }
  | loader (hn : 4 ≤ n) (s : State) (k : Loader) : Moves n s { s with loader := k }
  | clock (hn : 5 ≤ n) (s : State) (c : Clock) : Moves n s { s with clock := c }
  | occ (hn : 5 ≤ n) (s : State) (l : List OccInput) (h : l.map OccInput.delay = s.occ.map OccInput.delay) :
      Moves n s { s with occ := l }
  | sensorsDef (hn : 6 ≤ n) (s : State) (l : List (Option Sensor))
      (h : s.sensors.length = Config.nSensors → l.length = Config.nSensors) :
      Moves n s { s with sensors := l }
  | zonesDef (hn : 6 ≤ n) (s : State) (l : List (Option Zone))
      (h : s.zones.length = Config.nZones → l.length = Config.nZones)
      (q : LevelsLegal s → ∀ x, some x ∈ l → ZoneLegal x) : Moves n s { s with zones := l }
  | segmentsDef (hn : 6 ≤ n) (s : State) (l : List Segment)
      (h : s.segments.length = Config.nSegments → l.length = Config.nSegments) :
      Moves n s { s with segments := l }
  | gearDef (hn : 6 ≤ n) (s : State) (l : List (Option Gear))
      (h : s.gear.length = Config.nGear → l.length = Config.nGear) :
      Moves n s { s with gear := l }
  | linesDef (hn : 6 ≤ n) (s : State) (l : List GearLine)
      (h : s.gearLines.length = Config.nGearLines → l.length = Config.nGearLines)
      (q : LinesSound s → ∀ x ∈ l, LineSound x) : Moves n s { s with gearLines := l }
  | sensorLinesDef (hn : 6 ≤ n) (s : State) (l : List SensorLine) (h : s.sensorLines.length = 2 → l.length = 2) :
      Moves n s { s with sensorLines := l }
  | occDef (hn : 6 ≤ n) (s : State) (l : List OccInput)
      (h : s.occ.length = Config.nOcc → l.length = Config.nOcc) : Moves n s { s with occ := l }
  | curves (hn : 6 ≤ n) (s : State) (l : List (List Nat))
      (h : s.curves.length = Config.nCurves → l.length = Config.nCurves) :
      Moves n s { s with curves := l }
  | shadeQuery (hn : 6 ≤ n) (s : State) (q : Nat) : Moves n s { s with shadeQuery := q }
  | profiles (hn : 6 ≤ n) (s : State) (l : List Profile)
      (h : s.profiles.length = Config.nProfiles → l.length = Config.nProfiles) :
      Moves n s { s with profiles := l }
  | periods (hn : 6 ≤ n) (s : State) (l : List (Option Period))
      (h : s.periods.length = Config.nPeriods → l.length = Config.nPeriods) :
      Moves n s { s with periods := l }
  | shadow (hn : 7 ≤ n) (s : State) (c : Counters) (h : ShadowHeader) (t : Tick)
      (q : CountersInRange s.live → CountersInRange s.shadow → CountersInRange c) :
      Moves n s { s with shadow := c, shadowHeader := h, liveSince := t }
  | flagSets (hn : 7 ≤ n) (s : State) (w e : Word16) : Moves n s (s.withFlags w e)
  | liveClear (hn : 7 ≤ n) (s : State) (c : Counters) (h : CountersInRange s.live → CountersInRange c) :
      Moves n s { s with live := c }
  | port (hn : 7 ≤ n) (s : State) (p : Port) (k : Nat) (q : PortSound s.port → PortSound p) :
      Moves n s { s with port := p, replyCount := k }

namespace Moves

variable {n m : Nat} {s t u : State}

theorem mono (h : Moves n s t) (hm : n ≤ m) : Moves m s t := by
  induction h with
  | refl s => exact .refl s
  | trans _ _ a b => exact a.trans b
  | flag s f hf => exact .flag s f (hf.trans hm)
  | live s k v hk => exact .live s k v (hk.trans hm)
  | gearShade hn s l h => exact .gearShade (hn.trans hm) s l h
  | gear s l h => exact .gear s l h
  | lines s l h q => exact .lines s l h q
  | zones hn s l h q => exact .zones (hn.trans hm) s l h q
  | segments hn s l h => exact .segments (hn.trans hm) s l h
  | sweep hn s w => exact .sweep (hn.trans hm) s w
  | calResults hn s l h => exact .calResults (hn.trans hm) s l h
  | sensors hn s l h => exact .sensors (hn.trans hm) s l h
  | gearRun hn s l h => exact .gearRun (hn.trans hm) s l h
  | linesRun hn s l h q => exact .linesRun (hn.trans hm) s l h q
  | sensorLines hn s l h => exact .sensorLines (hn.trans hm) s l h
  | loader hn s k => exact .loader (hn.trans hm) s k
  | clock hn s c => exact .clock (hn.trans hm) s c
  | occ hn s l h => exact .occ (hn.trans hm) s l h
  | sensorsDef hn s l h => exact .sensorsDef (hn.trans hm) s l h
  | zonesDef hn s l h q => exact .zonesDef (hn.trans hm) s l h q
  | segmentsDef hn s l h => exact .segmentsDef (hn.trans hm) s l h
  | gearDef hn s l h => exact .gearDef (hn.trans hm) s l h
  | linesDef hn s l h q => exact .linesDef (hn.trans hm) s l h q
  | sensorLinesDef hn s l h => exact .sensorLinesDef (hn.trans hm) s l h
  | occDef hn s l h => exact .occDef (hn.trans hm) s l h
  | curves hn s l h => exact .curves (hn.trans hm) s l h
  | shadeQuery hn s q => exact .shadeQuery (hn.trans hm) s q
  | profiles hn s l h => exact .profiles (hn.trans hm) s l h
  | periods hn s l h => exact .periods (hn.trans hm) s l h
  | shadow hn s c h t q => exact .shadow (hn.trans hm) s c h t q
  | sensorsRun hn s l h => exact .sensorsRun (hn.trans hm) s l h
  | flagSets hn s w e => exact .flagSets (hn.trans hm) s w e
  | liveClear hn s c h => exact .liveClear (hn.trans hm) s c h
  | port hn s p k q => exact .port (hn.trans hm) s p k q

/-! ### What every move keeps -/

theorem getPut {c : Counters} {k : Counter} {v : Nat} (hc : CountersInRange c) (hv : v ≤ Config.counterMax) :
    CountersInRange (c.put k v) := by
  intro j
  have hj := hc j
  cases k <;> cases j <;> first
    | exact hj
    | exact hv
    | (simp only [Counters.put, Counters.get, Counters.zone, Counters.line, Counters.shade, getD_modify] at hj ⊢
       split <;> first | exact hv | exact hj)
    | (simp only [Counters.put, Counters.get, List.getD_eq_getElem?_getD, List.getElem?_set] at hj ⊢
       split
       · split
         · exact hv
         · simp
       · exact hj)

theorem get_put (c : Counters) (j k : Counter) (v : Nat) :
    (c.put k v).get j = c.get j ∨ (j = k ∧ (c.put k v).get j = v) := by
  cases k <;> cases j <;> first
    | exact .inl rfl
    | exact .inr ⟨rfl, rfl⟩
    | (simp only [Counters.put, Counters.get, Counters.zone, Counters.line, Counters.shade, getD_modify]
       split
       · next h => first | exact .inr ⟨by rw [h.1], rfl⟩ | exact .inl rfl
       · exact .inl rfl)
    | (simp only [Counters.put, Counters.get, List.getD_eq_getElem?_getD, List.getElem?_set]
       split
       · next h =>
         subst h
         split
         · exact .inr ⟨rfl, rfl⟩
         · next h => left; simp at h; simp [List.getElem?_eq_none h]
       · exact .inl rfl)

theorem pending (h : Moves n s t) : t.pending = s.pending := by
  induction h with
  | trans _ _ a b => exact b.trans a
  | _ => rfl

theorem tick (h : Moves n s t) : t.tick = s.tick := by
  induction h with
  | trans _ _ a b => exact b.trans a
  | _ => rfl

theorem straps (h : Moves n s t) : t.straps = s.straps := by
  induction h with
  | trans _ _ a b => exact b.trans a
  | _ => rfl

theorem attn (h : Moves n s t) (c : AttnCoherent s) : AttnCoherent t := by
  induction h with
  | trans _ _ a b => exact b (a c)
  | flag s f hf => rfl
  | flagSets _ s w e => rfl
  | _ => exact c

theorem linesSound (h : Moves n s t) (c : LinesSound s) : LinesSound t := by
  induction h with
  | trans _ _ a b => exact b (a c)
  | lines s l h q => exact q c
  | linesRun _ s l h q => exact q c
  | linesDef _ s l h q => exact q c
  | _ => exact c

theorem levelsLegal (h : Moves n s t) (c : LevelsLegal s) : LevelsLegal t := by
  induction h with
  | trans _ _ a b => exact b (a c)
  | zones _ s l h q => exact q c
  | zonesDef _ s l h q => exact q c
  | _ => exact c

theorem portSound (h : Moves n s t) (c : PortWithinCapacity s) : PortWithinCapacity t := by
  induction h with
  | trans _ _ a b => exact b (a c)
  | port _ s p k q => exact q c
  | _ => exact c

theorem counters (h : Moves n s t) (c : CountersInRange s.live ∧ CountersInRange s.shadow) :
    CountersInRange t.live ∧ CountersInRange t.shadow := by
  induction h with
  | trans _ _ a b => exact b (a c)
  | live s k v hk => exact ⟨getPut c.1 (satAdd_le _ _), c.2⟩
  | liveClear _ s x h => exact ⟨h c.1, c.2⟩
  | shadow _ s x h t q => exact ⟨c.1, q c.1 c.2⟩
  | _ => exact c

theorem map_of_map {α β γ : Type} {f : α → β} {g : β → γ} {k : α → γ} (hg : ∀ x, g (f x) = k x) {l l' : List α}
    (h : l.map f = l'.map f) : l.map k = l'.map k := by
  have := congrArg (List.map g) h
  simpa [List.map_map, Function.comp_def, hg] using this

theorem optMap_of_map {α β γ : Type} {f : α → β} {g : β → γ} {k : α → γ} (hg : ∀ x, g (f x) = k x)
    {l l' : List (Option α)} (h : l.map (Option.map f) = l'.map (Option.map f)) :
    l.map (Option.map k) = l'.map (Option.map k) :=
  map_of_map (g := Option.map g) (fun x => by cases x <;> simp [hg]) h

theorem length_of_map {α β : Type} {f : α → β} {l l' : List α} (h : l.map f = l'.map f) : l.length = l'.length := by
  simpa using congrArg List.length h

/-! ### What a move of a lower rank leaves as it was -/

theorem zones_eq (h : Moves n s t) (hn : n < 1) : t.zones = s.zones := by
  induction h with
  | trans _ _ a b => exact b.trans a
  | zones hk s l h q => omega
  | zonesDef hk s l h q => omega
  | _ => rfl

theorem segments_eq (h : Moves n s t) (hn : n < 2) : t.segments = s.segments := by
  induction h with
  | trans _ _ a b => exact b.trans a
  | segments hk s l h => omega
  | segmentsDef hk s l h => omega
  | _ => rfl

theorem sweep_eq (h : Moves n s t) (hn : n < 3) : t.sweep = s.sweep := by
  induction h with
  | trans _ _ a b => exact b.trans a
  | sweep hk s w => omega
  | _ => rfl

theorem calResults_eq (h : Moves n s t) (hn : n < 3) : t.calResults = s.calResults := by
  induction h with
  | trans _ _ a b => exact b.trans a
  | calResults hk s l h => omega
  | _ => rfl

theorem sensors_eq (h : Moves n s t) (hn : n < 3) : t.sensors = s.sensors := by
  induction h with
  | trans _ _ a b => exact b.trans a
  | sensors hk s l h => omega
  | sensorsRun hk s l h => omega
  | sensorsDef hk s l h => omega
  | _ => rfl

theorem sensorLines_eq (h : Moves n s t) (hn : n < 4) : t.sensorLines = s.sensorLines := by
  induction h with
  | trans _ _ a b => exact b.trans a
  | sensorLines hk s l h => omega
  | sensorLinesDef hk s l h => omega
  | _ => rfl

theorem loader_eq (h : Moves n s t) (hn : n < 4) : t.loader = s.loader := by
  induction h with
  | trans _ _ a b => exact b.trans a
  | loader hk s k => omega
  | _ => rfl

theorem clock_eq (h : Moves n s t) (hn : n < 5) : t.clock = s.clock := by
  induction h with
  | trans _ _ a b => exact b.trans a
  | clock hk s c => omega
  | _ => rfl

theorem occ_eq (h : Moves n s t) (hn : n < 5) : t.occ = s.occ := by
  induction h with
  | trans _ _ a b => exact b.trans a
  | occ hk s l h => omega
  | occDef hk s l h => omega
  | _ => rfl

theorem curves_eq (h : Moves n s t) (hn : n < 6) : t.curves = s.curves := by
  induction h with
  | trans _ _ a b => exact b.trans a
  | curves hk s l h => omega
  | _ => rfl

theorem shadeQuery_eq (h : Moves n s t) (hn : n < 6) : t.shadeQuery = s.shadeQuery := by
  induction h with
  | trans _ _ a b => exact b.trans a
  | shadeQuery hk s q => omega
  | _ => rfl

theorem profiles_eq (h : Moves n s t) (hn : n < 6) : t.profiles = s.profiles := by
  induction h with
  | trans _ _ a b => exact b.trans a
  | profiles hk s l h => omega
  | _ => rfl

theorem periods_eq (h : Moves n s t) (hn : n < 6) : t.periods = s.periods := by
  induction h with
  | trans _ _ a b => exact b.trans a
  | periods hk s l h => omega
  | _ => rfl

theorem port_eq (h : Moves n s t) (hn : n < 7) : t.port = s.port := by
  induction h with
  | trans _ _ a b => exact b.trans a
  | port hk s p k q => omega
  | _ => rfl

theorem replyCount_eq (h : Moves n s t) (hn : n < 7) : t.replyCount = s.replyCount := by
  induction h with
  | trans _ _ a b => exact b.trans a
  | port hk s p k q => omega
  | _ => rfl

theorem shadow_eq (h : Moves n s t) (hn : n < 7) : t.shadow = s.shadow := by
  induction h with
  | trans _ _ a b => exact b.trans a
  | shadow hk s c h t q => omega
  | _ => rfl

theorem shadowHeader_eq (h : Moves n s t) (hn : n < 7) : t.shadowHeader = s.shadowHeader := by
  induction h with
  | trans _ _ a b => exact b.trans a
  | shadow hk s c h t q => omega
  | _ => rfl

theorem liveSince_eq (h : Moves n s t) (hn : n < 7) : t.liveSince = s.liveSince := by
  induction h with
  | trans _ _ a b => exact b.trans a
  | shadow hk s c h t q => omega
  | _ => rfl

theorem lineCore_eq (h : Moves n s t) (hn : n < 5) : t.gearLines.map lineCore = s.gearLines.map lineCore := by
  induction h with
  | trans _ _ a b => exact b.trans a
  | lines s l h q => exact h
  | linesRun hk s l h q => omega
  | linesDef hk s l h q => omega
  | _ => rfl

theorem gearShadeCore_eq (h : Moves n s t) (hn : n < 5) :
    t.gear.map (Option.map gearShadeCore) = s.gear.map (Option.map gearShadeCore) := by
  induction h with
  | trans _ _ a b => exact b.trans a
  | gear s l h => exact optMap_of_map (f := gearCore) (g := fun g => gearShadeCore g) (fun _ => rfl) h
  | gearShade _ s l h => exact h
  | gearRun hk s l h => omega
  | gearDef hk s l h => omega
  | _ => rfl

theorem gearCore_eq (h : Moves n s t) (hn : n < 2) : t.gear.map (Option.map gearCore) = s.gear.map (Option.map gearCore) := by
  induction h with
  | trans _ _ a b => exact b.trans a
  | gear s l h => exact h
  | gearShade hk s l h => omega
  | gearRun hk s l h => omega
  | gearDef hk s l h => omega
  | _ => rfl

theorem gearCfg_eq (h : Moves n s t) (hn : n < 6) : t.gear.map (Option.map Gear.cfg) = s.gear.map (Option.map Gear.cfg) := by
  induction h with
  | trans _ _ a b => exact b.trans a
  | gear s l h => exact optMap_of_map (f := gearCore) (g := Gear.cfg) (fun _ => rfl) h
  | gearShade _ s l h => exact optMap_of_map (f := gearShadeCore) (g := Gear.cfg) (fun _ => rfl) h
  | gearRun hk s l h => exact h
  | gearDef hk s l h => omega
  | _ => rfl

theorem lineParams_eq (h : Moves n s t) (hn : n < 6) : t.gearLines.map lineParams = s.gearLines.map lineParams := by
  induction h with
  | trans _ _ a b => exact b.trans a
  | lines s l h q => exact map_of_map (f := lineCore) (g := lineParams) (fun _ => rfl) h
  | linesRun hk s l h q => exact h
  | linesDef hk s l h q => omega
  | _ => rfl

theorem zoneCfg_eq (h : Moves n s t) (hn : n < 6) : t.zones.map (Option.map Zone.cfg) = s.zones.map (Option.map Zone.cfg) := by
  induction h with
  | trans _ _ a b => exact b.trans a
  | zones hk s l h q => exact h
  | zonesDef hk s l h q => omega
  | _ => rfl

theorem segmentCfg_eq (h : Moves n s t) (hn : n < 6) : t.segments.map Segment.cfg = s.segments.map Segment.cfg := by
  induction h with
  | trans _ _ a b => exact b.trans a
  | segments hk s l h => exact h
  | segmentsDef hk s l h => omega
  | _ => rfl

theorem sensorDef_eq (h : Moves n s t) (hn : n < 6) : t.sensors.map (Option.map sensorDef) = s.sensors.map (Option.map sensorDef) := by
  induction h with
  | trans _ _ a b => exact b.trans a
  | sensors hk s l h => exact optMap_of_map (f := sensorCore) (g := sensorDef) (fun _ => rfl) h
  | sensorsRun hk s l h => exact h
  | sensorsDef hk s l h => omega
  | _ => rfl

theorem sensorCore_eq (h : Moves n s t) (hn : n < 5) :
    t.sensors.map (Option.map sensorCore) = s.sensors.map (Option.map sensorCore) := by
  induction h with
  | trans _ _ a b => exact b.trans a
  | sensors hk s l h => exact h
  | sensorsRun hk s l h => omega
  | sensorsDef hk s l h => omega
  | _ => rfl

theorem hasFlag_latch (s : State) (f g : Flag) :
    hasFlag (s.latch f).flags.latched g = (hasFlag s.flags.latched g || decide (g = f)) := by
  cases f <;> cases g <;> simp [State.latch, State.withFlags, hasFlag, flagMask, flagBit]

/-- Below rank 7 the enables stay and a latched flag stays latched; a flag of a higher rank is not latched (R184). -/
theorem flagsGrow (h : Moves n s t) (hn : n < 7) :
    t.flags.enables = s.flags.enables ∧ (∀ f, hasFlag s.flags.latched f = true → hasFlag t.flags.latched f = true)
      ∧ ∀ f, n < flagRank f → hasFlag t.flags.latched f = hasFlag s.flags.latched f := by
  induction h with
  | trans _ _ a b => exact ⟨b.1.trans a.1, fun f h => b.2.1 f (a.2.1 f h), fun f h => (b.2.2 f h).trans (a.2.2 f h)⟩
  | flag s g hg =>
    refine ⟨rfl, fun f h => by rw [hasFlag_latch, h]; rfl, fun f h => ?_⟩
    have : f ≠ g := by rintro rfl; omega
    rw [hasFlag_latch]; simp [this]
  | flagSets hk s w e => omega
  | _ => exact ⟨rfl, fun _ h => h, fun _ _ => rfl⟩

theorem inRange (h : Moves n s t) (c : CountersInRange s.live) : CountersInRange t.live := by
  induction h with
  | trans _ _ a b => exact b (a c)
  | live s k v hk => exact getPut c (satAdd_le _ _)
  | liveClear hk s x h => exact h c
  | _ => exact c

theorem get_count (c : Counters) (j k : Counter) (v : Nat) (h : c.get j ≤ Config.counterMax) :
    c.get j ≤ (c.put k (satAdd (c.get k) v)).get j := by
  rcases get_put c j k (satAdd (c.get k) v) with e | ⟨rfl, e⟩
  · rw [e]
  · rw [e]; unfold satAdd; omega

/-- Below rank 7 no counter in range decreases, and a counter of a higher rank stays (R169). -/
theorem countersGrow (h : Moves n s t) (hn : n < 7) :
    (CountersInRange s.live → ∀ k, s.live.get k ≤ t.live.get k) ∧ ∀ k, n < counterRank k → t.live.get k = s.live.get k := by
  induction h with
  | trans x y a b =>
    refine ⟨fun c k => (a.1 c k).trans (b.1 ?_ k), fun k h => (b.2 k h).trans (a.2 k h)⟩
    exact inRange x c
  | live s k v hk =>
    refine ⟨fun c j => get_count _ _ _ _ (c j), fun j hj => ?_⟩
    rcases get_put s.live j k (satAdd (s.live.get k) v) with e | ⟨rfl, e⟩
    · exact e
    · omega
  | liveClear hk s x h => omega
  | _ => exact ⟨fun _ _ => le_refl _, fun _ _ => rfl⟩

theorem sensorLineParams_eq (h : Moves n s t) (hn : n < 6) : t.sensorLines.map sensorLineParams = s.sensorLines.map sensorLineParams := by
  induction h with
  | trans _ _ a b => exact b.trans a
  | sensorLines hk s l h => exact h
  | sensorLinesDef hk s l h => omega
  | _ => rfl

theorem occDelay_eq (h : Moves n s t) (hn : n < 6) : t.occ.map OccInput.delay = s.occ.map OccInput.delay := by
  induction h with
  | trans _ _ a b => exact b.trans a
  | occ hk s l h => exact h
  | occDef hk s l h => omega
  | _ => rfl

/-- A move below rank 6 keeps the configuration. -/
theorem configuration_eq (h : Moves n s t) (hn : n < 6) : configuration t = configuration s := by
  simp only [configuration, h.sensorDef_eq hn, h.zoneCfg_eq hn, h.segmentCfg_eq hn, h.gearCfg_eq hn, h.curves_eq hn,
    h.lineParams_eq hn, h.shadeQuery_eq hn, h.profiles_eq hn, h.periods_eq hn, h.occDelay_eq hn]
  rw [show t.sensorLines.map (fun x => (x.speed, x.pollInterval, x.missLimit)) = _ from h.sensorLineParams_eq hn]
  rfl

/-- Every move keeps the sizes of the tables. -/
theorem tablesWhole (h : Moves n s t) (c : TablesWhole s) : TablesWhole t := by
  induction h with
  | refl s => exact c
  | trans _ _ a b => exact b (a c)
  | gear s l h => exact { c with gear := (length_of_map h).trans c.gear }
  | lines s l h q => exact { c with gearLines := (length_of_map h).trans c.gearLines }
  | zones hk s l h q => exact { c with zones := (length_of_map h).trans c.zones }
  | segments hk s l h => exact { c with segments := (length_of_map h).trans c.segments }
  | calResults hk s l h => exact { c with calResults := h c.calResults }
  | sensors hk s l h => exact { c with sensors := (length_of_map h).trans c.sensors }
  | gearRun hk s l h => exact { c with gear := (length_of_map h).trans c.gear }
  | linesRun hk s l h q => exact { c with gearLines := (length_of_map h).trans c.gearLines }
  | sensorLines hk s l h => exact { c with sensorLines := (length_of_map h).trans c.sensorLines }
  | occ hk s l h => exact { c with occ := (length_of_map h).trans c.occ }
  | sensorsDef hk s l h => exact { c with sensors := h c.sensors }
  | zonesDef hk s l h q => exact { c with zones := h c.zones }
  | segmentsDef hk s l h => exact { c with segments := h c.segments }
  | gearDef hk s l h => exact { c with gear := h c.gear }
  | linesDef hk s l h q => exact { c with gearLines := h c.gearLines }
  | sensorLinesDef hk s l h => exact { c with sensorLines := h c.sensorLines }
  | occDef hk s l h => exact { c with occ := h c.occ }
  | curves hk s l h => exact { c with curves := h c.curves }
  | profiles hk s l h => exact { c with profiles := h c.profiles }
  | periods hk s l h => exact { c with periods := h c.periods }
  | flag s f hf => exact { c with }
  | gearShade hk s l h => exact { c with gear := (length_of_map h).trans c.gear }
  | flagSets hk s w e => exact { c with }
  | liveClear hk s x h => exact { c with }
  | sensorsRun hk s l h => exact { c with sensors := (length_of_map h).trans c.sensors }
  | live s k v hk => exact { c with }
  | sweep hk s w => exact { c with }
  | loader hk s k => exact { c with }
  | clock hk s c => exact { c with }
  | shadeQuery hk s q => exact { c with }
  | shadow hk s c h t q => exact { c with }
  | port hk s p k q => exact { c with }

/-! ### The named updates -/

/-- The last update first: the update before it is read off the state that it starts from. -/
theorem after (h : Moves n t u) (h' : Moves n s t) : Moves n s u := h'.trans h

theorem latch (s : State) (f : Flag)
    (hf : flagRank f ≤ n := by first | exact Nat.zero_le _ | (simp only [flagRank]; omega)) : Moves n s (s.latch f) :=
  .flag s f hf

theorem latchIf (s : State) (c : Bool) (f : Flag)
    (hf : flagRank f ≤ n := by first | exact Nat.zero_le _ | (simp only [flagRank]; omega)) : Moves n s (s.latchIf c f) := by
  cases c
  · exact .refl s
  · exact latch s f hf

theorem ite {c : Prop} [Decidable c] (ht : c → Moves n s t) (hf : ¬ c → Moves n s u) : Moves n s (if c then t else u) := by
  split
  · next h => exact ht h
  · next h => exact hf h

theorem forEach (l : List Nat) (f : Nat → State → State) (h : ∀ i ∈ l, ∀ s, Moves n s (f i s)) (s : State) :
    Moves n s (Sys2Proof.Machine.forEach l f s) := by
  induction l generalizing s with
  | nil => exact .refl s
  | cons i l ih =>
    exact (h i (by simp) s).trans (ih (fun j hj => h j (by simp [hj])) _)

theorem countBy (s : State) (k : Counter) (v : Nat)
    (hk : counterRank k ≤ n := by first | exact Nat.zero_le _ | (simp only [counterRank]; omega)) :
    Moves n s (s.countBy k v) := (Moves.live s k v hk).trans (latchIf ..)

theorem count (s : State) (k : Counter)
    (hk : counterRank k ≤ n := by first | exact Nat.zero_le _ | (simp only [counterRank]; omega)) :
    Moves n s (s.count k) := countBy s k 1 hk

theorem modify_map {α β : Type} {p : α → β} {f : α → α} (h : ∀ x, p (f x) = p x) (l : List α) (i : Nat) :
    (l.modify i f).map p = l.map p := by
  apply List.ext_getElem? ; intro j
  simp only [List.getElem?_map, List.getElem?_modify]
  split <;> cases l[j]? <;> simp [h]

theorem modify_optMap {α β : Type} {p : α → β} {f : α → α} (h : ∀ x, p (f x) = p x) (l : List (Option α)) (i : Nat) :
    (l.modify i (Option.map f)).map (Option.map p) = l.map (Option.map p) :=
  modify_map (p := Option.map p) (fun x => by cases x <;> simp [h]) l i

theorem map_optMap {α β : Type} {p : α → β} {f : α → α} (h : ∀ x, p (f x) = p x) (l : List (Option α)) :
    (l.map (Option.map f)).map (Option.map p) = l.map (Option.map p) := by
  rw [List.map_map]; congr 1; funext x; cases x <;> simp [h]

theorem mem_modify {α : Type} {l : List α} {i : Nat} {f : α → α} {y : α} (h : y ∈ l.modify i f) :
    y ∈ l ∨ ∃ x, l[i]? = some x ∧ y = f x := by
  obtain ⟨j, hj⟩ := List.mem_iff_getElem?.mp h
  rw [List.getElem?_modify] at hj
  split at hj
  · subst i
    cases hx : l[j]? with
    | none => simp [hx] at hj
    | some x => right; simp [hx] at hj; exact ⟨x, rfl, hj.symm⟩
  · left; simp at hj; exact List.mem_iff_getElem?.mpr ⟨j, hj⟩

theorem modGear (s : State) (i : Nat) {f : Gear → Gear}
    (h : ∀ g, gearCore (f g) = gearCore g := by intro _; rfl) :
    Moves n s (s.modGear i f) := .gear s _ (modify_optMap h ..)

theorem modGearShade (hn : 2 ≤ n) (s : State) (i : Nat) {f : Gear → Gear}
    (h : ∀ g, gearShadeCore (f g) = gearShadeCore g := by intro _; rfl) :
    Moves n s (s.modGear i f) := .gearShade hn s _ (modify_optMap h ..)

theorem modGearRun (hn : 5 ≤ n) (s : State) (i : Nat) {f : Gear → Gear}
    (h : ∀ g, (f g).cfg = g.cfg := by intro _; rfl) :
    Moves n s (s.modGear i f) := .gearRun hn s _ (modify_optMap h ..)

theorem setGear (hn : 6 ≤ n) (s : State) (i : Nat) (x : Option Gear) : Moves n s (s.setGear i x) :=
  .gearDef hn s _ (by simp)

/-- A line changes by `f`, which keeps its core and its queue sound. -/
theorem modLine (s : State) (l : Nat) {f : GearLine → GearLine}
    (h : ∀ x, lineCore (f x) = lineCore x := by intro _; rfl)
    (q : ∀ x, QueueSound x.queue → QueueSound (f x).queue := by intro _ h; exact h)
    (e : ∀ x, x.queue = [] → (f x).queue = [] := by intro _ h; exact h) : Moves n s (s.modGearLine l f) := by
  refine .lines s _ (modify_map h ..) fun hs y hy => ?_
  rcases mem_modify hy with hy | ⟨x, hx, rfl⟩
  · exact hs y hy
  · have hl := hs x (List.mem_of_getElem? hx)
    have e1 : (lineCore (f x)).highWatermark = (lineCore x).highWatermark := by rw [h]
    have e2 : (lineCore (f x)).lowWatermark = (lineCore x).lowWatermark := by rw [h]
    have e3 : (lineCore (f x)).state = (lineCore x).state := by rw [h]
    simp only [lineCore] at e1 e2 e3
    refine ⟨q x hl.1, ?_⟩
    rw [e1, e2, e3]; exact ⟨fun hu => e x (hl.2.1 hu), hl.2.2⟩

/-- A line's state, queue and timers change by `f`, which keeps its parameters and its queue sound. -/
theorem modLineRun (hn : 5 ≤ n) (s : State) (l : Nat) {f : GearLine → GearLine}
    (h : ∀ x, lineParams (f x) = lineParams x := by intro _; rfl)
    (q : ∀ x, QueueSound x.queue → QueueSound (f x).queue := by intro _ h; exact h)
    (e : ∀ x, s.gearLines[l]? = some x → (x.state ≠ .up → x.queue = []) → (f x).state ≠ .up → (f x).queue = [] := by
      intro _ _ h; exact h) :
    Moves n s (s.modGearLine l f) := by
  refine .linesRun hn s _ (modify_map h ..) fun hs y hy => ?_
  rcases mem_modify hy with hy | ⟨x, hx, rfl⟩
  · exact hs y hy
  · have hl := hs x (List.mem_of_getElem? hx)
    have e1 : (f x).highWatermark = x.highWatermark := congrArg LineParams.highWatermark (h x)
    have e2 : (f x).lowWatermark = x.lowWatermark := congrArg LineParams.lowWatermark (h x)
    refine ⟨q x hl.1, ?_⟩
    rw [e1, e2]; exact ⟨e x hx hl.2.1, hl.2.2⟩

theorem modLineDef (hn : 6 ≤ n) (s : State) (l : Nat) {f : GearLine → GearLine} (q : ∀ x, LineSound x → LineSound (f x)) :
    Moves n s (s.modGearLine l f) := by
  refine .linesDef hn s _ (by simp) fun hs y hy => ?_
  rcases mem_modify hy with hy | ⟨x, hx, rfl⟩
  · exact hs y hy
  · exact q x (hs x (List.mem_of_getElem? hx))

/-- A zone's runtime changes by `f`; the levels need stay legal only for the zone that stands there. -/
theorem modZone (hn : 1 ≤ n) (s : State) (z : Nat) {f : Zone → Zone}
    (h : ∀ x, (f x).cfg = x.cfg := by intro _; rfl)
    (q : ∀ x, s.zone z = some x → ZoneLegal x → ZoneLegal (f x) := by intro _ _ h; exact h) : Moves n s (s.modZone z f) := by
  refine .zones hn s _ (modify_optMap h ..) fun hs y hy => ?_
  rcases mem_modify hy with hy | ⟨x, hx, hxy⟩
  · exact hs y hy
  · cases x with
    | none => simp at hxy
    | some x =>
      have e : y = f x := by simpa using hxy
      rw [e]
      exact q x (by simp [State.zone, entryAt, hx]) (hs x (List.mem_of_getElem? hx))

theorem setZone (hn : 6 ≤ n) (s : State) (z : Nat) (x : Option Zone) (q : ∀ y, x = some y → ZoneLegal y) :
    Moves n s (s.setZone z x) := by
  refine .zonesDef hn s _ (by simp) fun hs y hy => ?_
  rcases List.mem_or_eq_of_mem_set hy with hy | hy
  · exact hs y hy
  · exact q y hy.symm

theorem modSegment (hn : 2 ≤ n) (s : State) (g : Nat) {f : Segment → Segment}
    (h : ∀ x, (f x).cfg = x.cfg := by intro _; rfl) :
    Moves n s (s.modSegment g f) := .segments hn s _ (modify_map h ..)

theorem modSegmentDef (hn : 6 ≤ n) (s : State) (g : Nat) (f : Segment → Segment) : Moves n s (s.modSegment g f) :=
  .segmentsDef hn s _ (by simp)

theorem modSensor (hn : 3 ≤ n) (s : State) (i : Nat) {f : Sensor → Sensor}
    (h : ∀ x, sensorCore (f x) = sensorCore x := by intro _; rfl) :
    Moves n s (s.modSensor i f) := .sensors hn s _ (modify_optMap h ..)

theorem modSensorRun (hn : 5 ≤ n) (s : State) (i : Nat) {f : Sensor → Sensor}
    (h : ∀ x, sensorDef (f x) = sensorDef x := by intro _; rfl) :
    Moves n s (s.modSensor i f) := .sensorsRun hn s _ (modify_optMap h ..)

theorem setSensor (hn : 6 ≤ n) (s : State) (i : Nat) (x : Option Sensor) : Moves n s (s.setSensor i x) :=
  .sensorsDef hn s _ (by simp)

theorem modSweep (hn : 3 ≤ n) (s : State) (f : Sweep → Sweep) : Moves n s (s.modSweep f) := .sweep hn s _

theorem setCalResult (hn : 3 ≤ n) (s : State) (z : Nat) (r : CalResult) : Moves n s (s.setCalResult z r) :=
  .calResults hn s _ (by simp)

theorem modSensorLine (hn : 4 ≤ n) (s : State) (l : Nat) {f : SensorLine → SensorLine}
    (h : ∀ x, sensorLineParams (f x) = sensorLineParams x := by intro _; rfl) : Moves n s (s.modSensorLine l f) :=
  .sensorLines hn s _ (modify_map h ..)

theorem modLoader (hn : 4 ≤ n) (s : State) (f : Loader → Loader) : Moves n s (s.modLoader f) := .loader hn s _

theorem modClock (hn : 5 ≤ n) (s : State) (f : Clock → Clock) : Moves n s (s.modClock f) := .clock hn s _

theorem modOcc (hn : 5 ≤ n) (s : State) (i : Nat) {f : OccInput → OccInput}
    (h : ∀ o, (f o).delay = o.delay := by intro _; rfl) :
    Moves n s (s.modOcc i f) := .occ hn s _ (modify_map h ..)

theorem modPort (hn : 7 ≤ n) (s : State) {f : Port → Port} (h : PortSound s.port → PortSound (f s.port)) :
    Moves n s (s.modPort f) := .port hn s _ _ h

end Moves

end Sys2Proof.Machine
end

