-- ==== Sys2Proof/Laws/LineMoves.lean ====
section
/-! SUPPORT. What the Gear Line Controller's shared operations can do: each is a move (Laws/Moves.lean). -/

namespace Sys2Proof.Machine

set_option Elab.async false

open Sys2Proof.Safety

variable {n : Nat}

/-! ### Transmit queues -/

theorem queueSound_nil : QueueSound [] := ⟨by simp [Config.txQueueCap], by simp, by simp, .nil⟩

theorem queueSound_sublist {p q : List Entry} (hp : p.Sublist q) (ht : ∀ e ∈ p.tail, e ∈ q.tail) (h : QueueSound q) :
    QueueSound p :=
  ⟨hp.length_le.trans h.1, fun e he => h.2.1 e (ht e he), fun e he => h.2.2.1 e (hp.subset he), h.2.2.2.sublist hp⟩

theorem mem_tail_filter {p : Entry → Bool} {q : List Entry} {e : Entry} (h : e ∈ (q.filter p).tail) : e ∈ q.tail := by
  cases q with
  | nil => exact h
  | cons a q =>
    rw [List.filter_cons] at h
    split at h
    · exact (List.mem_filter.mp h).1
    · exact (List.mem_filter.mp (List.mem_of_mem_tail h)).1

theorem queueSound_filter {q : List Entry} (p : Entry → Bool) (h : QueueSound q) : QueueSound (q.filter p) :=
  queueSound_sublist List.filter_sublist (fun _ => mem_tail_filter) h

theorem queueSound_tail {q : List Entry} (h : QueueSound q) : QueueSound q.tail :=
  queueSound_sublist (List.tail_sublist q) (fun _ => List.mem_of_mem_tail) h

theorem mem_map_tail {f : Entry → Entry} {q : List Entry} {e : Entry} (h : e ∈ (q.map f).tail) : ∃ a ∈ q.tail, f a = e := by
  rw [← List.map_tail] at h
  exact List.mem_map.mp h

/-- A change of every entry that keeps what waits where, and makes an orphan only of an entry in flight. -/
theorem queueSound_map {q : List Entry} {f : Entry → Entry}
    (hf : ∀ e ∈ q, (f e).inFlight = e.inFlight ∧ (f e).target = e.target ∧ (f e).cmd.cls = e.cmd.cls
      ∧ ((f e).attempting = true ∨ (f e).orphan = true → (f e).inFlight = true)) (h : QueueSound q) :
    QueueSound (q.map f) := by
  refine ⟨by simpa using h.1, fun x hx => ?_, fun x hx => ?_, List.pairwise_map.mpr ?_⟩
  · obtain ⟨e, he, rfl⟩ := mem_map_tail hx
    rw [(hf e (List.mem_of_mem_tail he)).1]; exact h.2.1 e he
  · obtain ⟨e, he, rfl⟩ := List.mem_map.mp hx
    exact (hf e he).2.2.2
  · refine h.2.2.2.imp_of_mem fun {a b} ha hb hab => ?_
    unfold WaitApart at hab ⊢
    rwa [(hf a ha).1, (hf b hb).1, (hf a ha).2.1, (hf b hb).2.1, (hf a ha).2.2.1, (hf b hb).2.2.1]

/-- A change of the head that leaves it in flight, or that keeps what it waits for. -/
theorem queueSound_modifyHead {q : List Entry} {f : Entry → Entry}
    (hf : ∀ e, (e.attempting = true ∨ e.orphan = true → e.inFlight = true) → (f e).inFlight = true
      ∨ ((f e).inFlight = e.inFlight ∧ (f e).target = e.target ∧ (f e).cmd.cls = e.cmd.cls
        ∧ ((f e).attempting = true ∨ (f e).orphan = true → (f e).inFlight = true))) (h : QueueSound q) :
    QueueSound (q.modifyHead f) := by
  cases q with
  | nil => exact h
  | cons e q =>
    obtain ⟨hp, hq⟩ := List.pairwise_cons.mp h.2.2.2
    refine ⟨by simpa using h.1, h.2.1, fun x hx => ?_, List.pairwise_cons.mpr ⟨fun b hb => ?_, hq⟩⟩
    · rcases List.mem_cons.mp hx with rfl | hx
      · rcases hf e (h.2.2.1 e (.head _)) with hi | hi
        · exact fun _ => hi
        · exact hi.2.2.2
      · exact h.2.2.1 x (.tail _ hx)
    · rcases hf e (h.2.2.1 e (.head _)) with hi | hi
      · exact fun hn => by rw [hi] at hn; cases hn
      · have hw := hp b hb
        unfold WaitApart at hw ⊢
        rwa [hi.1, hi.2.1, hi.2.2.1]

theorem waits_of_slot {q : List Entry} {a e : Entry} (h : QueueSound q) (he : e ∈ q) (hi : e.inFlight = false)
    (ht : e.target = a.target) (hc : e.cmd.cls = a.cmd.cls) : q.any (Entry.waits a.target a.cmd.cls) = true := by
  have ho : e.orphan = false := by
    cases ho : e.orphan with
    | false => rfl
    | true => rw [h.2.2.1 e he (.inr ho)] at hi; cases hi
  exact List.any_eq_true.mpr ⟨e, he, by simp [Entry.waits, Entry.sameSlot, hi, ho, ht, hc]⟩

theorem queueSound_append {q : List Entry} {a : Entry} (ha : a.inFlight = false) (hb : a.attempting = false)
    (ho : a.orphan = false) (hl : q.length < Config.txQueueCap) (hw : q.any (Entry.waits a.target a.cmd.cls) = false)
    (h : QueueSound q) : QueueSound (q ++ [a]) := by
  refine ⟨by simp; omega, ?_, ?_, List.pairwise_append.mpr ⟨h.2.2.2, List.pairwise_singleton .., ?_⟩⟩
  · cases q with
    | nil => simp
    | cons e q =>
      intro x hx
      simp only [List.cons_append, List.tail_cons, List.mem_append, List.mem_singleton] at hx
      rcases hx with hx | rfl
      · exact h.2.1 x hx
      · exact ha
  · intro x hx
    rcases List.mem_append.mp hx with hx | hx
    · exact h.2.2.1 x hx
    · rw [List.mem_singleton.mp hx, hb, ho]; simp
  · intro x hx y hy hxi _ hs
    rw [List.mem_singleton.mp hy] at hs
    rw [waits_of_slot h hx hxi hs.1 hs.2] at hw; cases hw

theorem modifyFirst_map {α β : Type} {p : α → Bool} {f : α → α} {g : α → β} (l : List α)
    (h : ∀ x, p x = true → g (f x) = g x) : (modifyFirst p f l).map g = l.map g := by
  induction l with
  | nil => rfl
  | cons x l ih => unfold modifyFirst; split <;> simp [*]

/-- What the soundness of a queue reads of an entry. -/
def Entry.place (e : Entry) : Bool × Target × CmdClass × Bool × Bool :=
  (e.inFlight, e.target, e.cmd.cls, e.attempting, e.orphan)

theorem queueSound_iff_place {q : List Entry} :
    QueueSound q ↔ (q.map Entry.place).length ≤ Config.txQueueCap ∧ (∀ b ∈ (q.map Entry.place).tail, b.1 = false)
      ∧ (∀ b ∈ q.map Entry.place, b.2.2.2.1 = true ∨ b.2.2.2.2 = true → b.1 = true)
      ∧ (q.map Entry.place).Pairwise fun a b => a.1 = false → b.1 = false → ¬ (a.2.1 = b.2.1 ∧ a.2.2.1 = b.2.2.1) := by
  rw [← List.map_tail, List.pairwise_map]
  simp only [QueueSound, List.length_map, List.forall_mem_map]
  exact .rfl

theorem queueSound_modifyFirst {q : List Entry} {p : Entry → Bool} {f : Entry → Entry}
    (hf : ∀ e, p e = true → (f e).place = e.place) (h : QueueSound q) : QueueSound (modifyFirst p f q) := by
  rw [queueSound_iff_place] at h ⊢; rwa [modifyFirst_map _ hf]

theorem coalesce_place (a e : Entry) (h : Entry.waits a.target a.cmd.cls e = true) : (a.coalesce e).place = e.place := by
  have hc : e.cmd.cls = a.cmd.cls := by
    simp only [Entry.waits, Entry.sameSlot, Bool.and_eq_true, decide_eq_true_eq] at h
    exact h.2.2
  unfold Entry.coalesce
  split <;> simp [Entry.place, hc]

/-! ### The transmit queue's operations -/

namespace Moves

theorem dropEntries (s : State) (l : Nat) (p : Entry → Bool) : Moves n s (s.dropEntries l p) :=
  modLine s l (q := fun _ h => queueSound_filter _ h) (e := fun _ h => by simp [h])

theorem markSetup (s : State) (i : Nat) : Moves n s (s.markSetup i) := by
  unfold State.markSetup
  split
  · exact .refl s
  · split
    · exact after (dropEntries ..) (modGear ..)
    · exact .refl s

theorem markValue (s : State) (i : Nat) : Moves n s (s.markValue i) := by
  unfold State.markValue
  split
  · exact .refl s
  · split
    · exact modGear ..
    · exact .refl s

theorem highCheck (s : State) (l : Nat) : Moves n s (s.highCheck l) := modLine ..

theorem noteExpected (s : State) (a : Entry) : Moves n s (s.noteExpected a) := by
  unfold State.noteExpected
  split
  · exact modGear ..
  · exact modGear ..
  · exact .refl s

theorem deferred (s : State) (l : Nat) (a : Entry) : Moves n s (s.deferred l a) := by
  unfold State.deferred
  split
  · exact (markValue ..).trans (count ..)
  · exact (markValue ..).trans (count ..)
  · exact .refl s

/-- An arrival that joins the queue: the join is sound where the queue stands below its capacity. -/
theorem join (s : State) (l : Nat) {a : Entry} (ha : a.inFlight = false) (hb : a.attempting = false) (ho : a.orphan = false)
    (hu : (s.gearLine l).isUp = true) (hw : (s.gearLine l).queue.any (Entry.waits a.target a.cmd.cls) = false)
    (h : (s.gearLine l).queue.length < Config.txQueueCap) :
    Moves n s (s.modGearLine l fun x => { x with queue := x.queue ++ [a] }) := by
  refine .lines s _ (modify_map (p := lineCore) (f := fun x => { x with queue := x.queue ++ [a] }) (fun _ => rfl) ..)
    fun hs y hy => ?_
  rcases mem_modify hy with hy | ⟨x, hx, rfl⟩
  · exact hs y hy
  · have hl := hs x (List.mem_of_getElem? hx)
    have hq : s.gearLine l = x := by simp [State.gearLine, List.getD_eq_getElem?_getD, hx]
    rw [hq] at h hu hw
    exact ⟨queueSound_append ha hb ho h hw hl.1, fun hn => absurd (of_decide_eq_true hu) hn, hl.2.2⟩

theorem offer (s : State) (l : Nat) (d : Bool) {a : Entry} (ha : a.inFlight = false) (hb : a.attempting = false)
    (ho : a.orphan = false) : Moves n s (s.offer l d a) := by
  unfold State.offer
  dsimp only
  split
  · exact .refl s
  · next hd =>
    have hu : (s.gearLine l).isUp = true := by
      simp only [State.dropsArrival, Bool.or_eq_true, not_or, Bool.not_eq_true] at hd
      simpa using hd.1
    split
    · exact after (noteExpected ..) (modLine s l (q := fun x h => queueSound_modifyFirst (coalesce_place a) h)
        (e := fun _ h => by simp [h, modifyFirst]))
    · next hw =>
      split
      · next h => exact after (highCheck ..) (after (noteExpected ..) (join s l ha hb ho hu (by simpa using hw) h))
      · exact deferred ..

theorem arrival (s : State) (l : Nat) (d : Bool) (t : Target) (c : GearCmd) (v : Nat) (g : Option Nat) (o : Origin) :
    Moves n s (s.offer l d (.arrival t c v g o)) := offer s l d rfl rfl rfl

theorem serveValue (s : State) (i : Nat) (g : Gear) (l : Nat) :
    Moves n s (match s.valueArrival i g with | some a => s.offer l true a | none => s) := by
  cases hr : g.cfg.role with
  | driver z => simp only [State.valueArrival, hr]; exact arrival ..
  | shade seg =>
    cases ht : (s.segment seg).target with
    | none => simp only [State.valueArrival, hr, ht, Option.map_none]; exact .refl s
    | some p => simp only [State.valueArrival, hr, ht, Option.map_some]; exact arrival ..

theorem serveGear (s : State) (i : Nat) : Moves n s (s.serveGear i) := by
  unfold State.serveGear
  split
  · exact .refl s
  · next g hg =>
    dsimp only
    exact after (modGear ..) (after (serveValue ..) (ite (fun _ => arrival ..) (fun _ => .refl s)))

theorem serveDirty (s : State) (l : Nat) : Moves n s (s.serveDirty l) :=
  forEach _ _ (fun _ _ _ => ite (fun _ => serveGear ..) (fun _ => .refl _)) s

theorem restoreGear (s : State) (i : Nat) : Moves n s (s.restoreGear i) := by
  unfold State.restoreGear
  dsimp only
  exact after (modGear ..) (ite (fun _ => markValue ..) (fun _ => .refl _))

theorem lowCheck (s : State) (l : Nat) : Moves n s (s.lowCheck l) := by
  unfold State.lowCheck
  dsimp only
  refine ite (fun _ => ?_) (fun _ => .refl s)
  exact after (forEach _ _ (fun _ _ _ => restoreGear ..) _) (modLine ..)

theorem tendLine (s : State) (l : Nat) : Moves n s (s.tendLine l) := (lowCheck s l).trans (serveDirty _ l)

theorem tendLines (s : State) : Moves n s s.tendLines := forEach _ _ (fun _ _ _ => tendLine ..) s

theorem handGroup (s : State) (l g v : Nat) (ready : List Nat) : Moves n s (s.handGroup l g v ready) := by
  unfold State.handGroup
  dsimp only
  refine after (ite (fun _ => arrival ..) (fun _ => after (count ..) (forEach ready _ (fun i _ u => ?_) _)))
    (after (forEach ready _ (fun i _ u => modGear ..) _) (dropEntries s l _))
  exact after (markValue ..) (modGear ..)

theorem handGear (s : State) (l z i : Nat) : Moves n s (s.handGear l z i) := by
  unfold State.handGear
  split
  · exact .refl s
  · exact arrival ..

theorem handOnLine (s : State) (z : Nat) (x : Zone) (l : Nat) : Moves n s (s.handOnLine z x l) := by
  unfold State.handOnLine
  dsimp only
  refine after (tendLine ..) (after (forEach _ _ (fun _ _ _ => handGear ..) _) ?_)
  split
  · exact ite (fun _ => .refl s) (fun _ => handGroup ..)
  · exact .refl s

theorem handLevel (s : State) (z : Nat) : Moves n s (s.handLevel z) := by
  unfold State.handLevel
  split
  · exact .refl s
  · exact forEach _ _ (fun _ _ _ => handOnLine ..) s

/-! ### Lost output and the states of a line -/

theorem refreshOutput (hn : 5 ≤ n) (s : State) (z : Nat) : Moves n s (s.refreshOutput z) := by
  unfold State.refreshOutput
  split
  · exact .refl s
  · exact after (latchIf ..) (modZone (by omega) ..)

theorem refreshLineOutput (hn : 5 ≤ n) (s : State) (l : Nat) : Moves n s (s.refreshLineOutput l) :=
  forEach _ _ (fun _ _ _ => refreshOutput hn ..) s

theorem refreshGearOutput (hn : 5 ≤ n) (s : State) (g : Gear) : Moves n s (s.refreshGearOutput g) := by
  unfold State.refreshGearOutput
  split
  · exact refreshOutput hn ..
  · exact .refl s

theorem modLineGear (s : State) (l : Nat) {f : Gear → Gear} (h : ∀ g, gearCore (f g) = gearCore g := by intro _; rfl) :
    Moves n s (s.modLineGear l f) :=
  .gear s _ (map_optMap (fun g => by split <;> simp [h]) _)

theorem modLineGearRun (hn : 5 ≤ n) (s : State) (l : Nat) {f : Gear → Gear}
    (h : ∀ g, (f g).cfg = g.cfg := by intro _; rfl) :
    Moves n s (s.modLineGear l f) :=
  .gearRun hn s _ (map_optMap (fun g => by split <;> simp [h]) _)

theorem lineStarting (hn : 5 ≤ n) (s : State) (l : Nat) : Moves n s (s.lineStarting l) :=
  after (refreshLineOutput (by omega) ..)
    (after (modLineGearRun hn ..) (modLineRun hn s l (q := fun _ _ => queueSound_nil) (e := fun _ _ _ _ => rfl)))

theorem lineLeaves (hn : 5 ≤ n) (s : State) (l : Nat) (d : LineState) : Moves n s (s.lineLeaves l d) :=
  after (refreshLineOutput (by omega) ..)
    (after (modLineGear ..) (modLineRun hn s l (q := fun _ _ => queueSound_nil) (e := fun _ _ _ _ => rfl)))

theorem lineComesUp (hn : 5 ≤ n) (s : State) (l : Nat) : Moves n s (s.lineComesUp l) := by
  unfold State.lineComesUp
  refine ite (fun _ => lineStarting hn ..) (fun _ => ?_)
  exact after (refreshLineOutput (by omega) ..) (after (latch ..)
    (modLineRun hn s l (q := fun _ _ => queueSound_nil) (e := fun _ _ _ _ => rfl)))

theorem lineUp (hn : 5 ≤ n) (s : State) (l : Nat) : Moves n s (s.lineUp l) := by
  unfold State.lineUp
  dsimp only
  exact after (tendLine ..) (after (refreshLineOutput (by omega) ..) (after (forEach _ _ (fun _ _ _ => markSetup ..) _)
    (modLineRun hn s l (e := fun _ _ _ h => absurd rfl h))))

end Moves

end Sys2Proof.Machine
end

