-- ==== Sys2Proof/Laws/ZoneMoves.lean ====
section
/-! SUPPORT. What the operations of the counters, the estimation, the calendar and the zone control can do: each is a move, and
the levels of the zones stay legal. -/

namespace Sys2Proof.Machine

set_option Elab.async false

open Sys2Proof.Safety

variable {n : Nat}

/-! ### Legal levels -/

theorem levelLegal_zero (lmin : Nat) : LevelLegal lmin 0 := ⟨.inl rfl, by omega⟩

theorem levelLegal_full {lmin : Nat} (h : lmin ≤ 500) : LevelLegal lmin 1000 := ⟨.inr (by omega), le_refl _⟩

theorem levelLegal_lift {lmin v : Nat} (h : lmin ≤ 500) (hv : v ≤ 1000) : LevelLegal lmin (liftLevel lmin v) := by
  unfold liftLevel; split
  · exact levelLegal_zero _
  · exact ⟨.inr (le_max_left ..), by omega⟩

/-- A zone keeps its legal levels under a change of other fields. -/
theorem zoneLegal_congr {x y : Zone} (h : ZoneLegal x) (hc : y.cfg = x.cfg) (hl : y.level = x.level)
    (ha : y.overrideActive = x.overrideActive) (ho : y.overrideLevel = x.overrideLevel) : ZoneLegal y := by
  unfold ZoneLegal at h ⊢; rwa [hc, hl, ha, ho]

/-- A zone that takes a legal level keeps its legal levels. -/
theorem zoneLegal_level {x y : Zone} (h : ZoneLegal x) (hc : y.cfg = x.cfg) (hl : LevelLegal x.cfg.lmin y.level)
    (ha : y.overrideActive = x.overrideActive) (ho : y.overrideLevel = x.overrideLevel) : ZoneLegal y := by
  unfold ZoneLegal at h ⊢; rw [hc, ha, ho]; exact ⟨h.1, hl, h.2.2⟩

theorem levelLegal_slew {lmin db up down l t : Nat} (hm : lmin ≤ 500) (hl : LevelLegal lmin l) (ht : LevelLegal lmin t) :
    LevelLegal lmin (slew lmin db up down l t) := by
  obtain ⟨hl1, hl2⟩ := hl
  obtain ⟨ht1, ht2⟩ := ht
  unfold slew
  split
  · exact ⟨hl1, hl2⟩
  · split
    · split
      · exact ⟨.inr (by omega), by omega⟩
      · exact levelLegal_zero _
    · split
      · exact ⟨.inr (by omega), by omega⟩
      · split
        · exact ⟨.inr (by omega), by omega⟩
        · exact ⟨.inr (by omega), by omega⟩

theorem aimDemand_target {x : Zone} (now : Tick) (d : Demand) (hm : x.cfg.lmin ≤ 500) :
    LevelLegal x.cfg.lmin (x.aimDemand now d).target := by
  have h0 : ∀ a, LevelLegal x.cfg.lmin (max x.cfg.lmin (min 1000 a)) := fun a => ⟨.inr (by omega), by omega⟩
  unfold Zone.aimDemand
  dsimp only
  split
  · exact h0 _
  · split
    · split
      · exact h0 _
      · exact levelLegal_zero _
    · split
      · exact ⟨.inr (by assumption), by simp⟩
      · split
        · exact ⟨.inr (le_refl _), by simp only; omega⟩
        · split
          · exact levelLegal_zero _
          · exact ⟨.inr (le_refl _), by simp only; omega⟩

theorem aimDemand_rest (x : Zone) (now : Tick) (d : Demand) :
    (x.aimDemand now d).cfg = x.cfg ∧ (x.aimDemand now d).level = x.level
      ∧ (x.aimDemand now d).overrideActive = x.overrideActive
      ∧ (x.aimDemand now d).overrideLevel = x.overrideLevel := by
  unfold Zone.aimDemand; dsimp only; repeat' split
  all_goals exact ⟨rfl, rfl, rfl, rfl⟩

theorem aim_rest (x : Zone) (now : Tick) (sp : Nat) (d : Option Demand) :
    (x.aim now sp d).cfg = x.cfg ∧ (x.aim now sp d).level = x.level
      ∧ (x.aim now sp d).overrideActive = x.overrideActive ∧ (x.aim now sp d).overrideLevel = x.overrideLevel := by
  unfold Zone.aim; split
  · exact ⟨rfl, rfl, rfl, rfl⟩
  · split
    · exact aimDemand_rest ..
    · exact ⟨rfl, rfl, rfl, rfl⟩

theorem aim_target {x : Zone} (now : Tick) (sp : Nat) (d : Option Demand) (h : ZoneLegal x) :
    LevelLegal x.cfg.lmin (x.aim now sp d).target := by
  unfold Zone.aim; split
  · exact levelLegal_zero _
  · split
    · exact aimDemand_target now _ h.1
    · exact h.2.2.1

theorem zoneLegal_entered {x : Zone} (m : ZoneState) (h : ZoneLegal x) (ho : m = .override → x.overrideActive = true) :
    ZoneLegal (x.entered m) := by
  cases m
  · exact zoneLegal_level h rfl (levelLegal_zero _) rfl rfl
  · exact zoneLegal_congr h rfl rfl rfl rfl
  · exact zoneLegal_congr h rfl rfl rfl rfl
  · exact zoneLegal_congr h rfl rfl rfl rfl
  · exact zoneLegal_level h rfl (h.2.2.2 (ho rfl)) rfl rfl
  · exact zoneLegal_congr h rfl rfl rfl rfl

theorem entered_cfg (m : ZoneState) (x : Zone) : (x.entered m).cfg = x.cfg := by cases m <;> rfl

theorem resolved_override {s : State} {z : Nat} {x : Zone} (h : s.resolved z x = .override) : x.overrideActive = true := by
  unfold State.resolved at h
  by_contra hc
  simp only [Bool.not_eq_true] at hc
  rw [hc] at h
  revert h
  repeat' split
  all_goals simp_all

namespace Moves

/-! ### Counters -/

/-- A zone's runtime changes by `f`, for what stands there. -/
theorem modZoneAt (hn : 1 ≤ n) (s : State) (z : Nat) {f : Zone → Zone}
    (h : ∀ x, s.zone z = some x → (f x).cfg = x.cfg)
    (q : ∀ x, s.zone z = some x → ZoneLegal x → ZoneLegal (f x)) : Moves n s (s.modZone z f) := by
  have e : s.modZone z f = s.modZone z (fun x => if s.zone z = some x then f x else x) := by
    unfold State.modZone
    congr 1
    apply List.ext_getElem?; intro j
    simp only [List.getElem?_modify]
    split
    · subst z
      cases hj : s.zones[j]? with
      | none => rfl
      | some o =>
        cases o with
        | none => rfl
        | some x => simp [State.zone, entryAt, hj]
    · rfl
  rw [e]
  refine modZone hn s z (fun x => ?_) (fun x hx hl => ?_)
  · split
    · next hx => exact h x hx
    · rfl
  · simp only [hx, if_true]; exact q x hx hl

theorem mapZones (hn : 1 ≤ n) (s : State) {f : Zone → Zone} (h : ∀ x, (f x).cfg = x.cfg := by intro _; rfl)
    (q : ∀ x, ZoneLegal x → ZoneLegal (f x) := by intro _ h; exact h) :
    Moves n s { s with zones := s.zones.map (Option.map f) } := by
  refine .zones hn s _ (map_optMap h _) fun hs y hy => ?_
  obtain ⟨o, ho, hoy⟩ := List.mem_map.mp hy
  cases o with
  | none => simp at hoy
  | some x =>
    have e : y = f x := by simpa using hoy.symm
    rw [e]; exact q x (hs x ho)

theorem modRem (hn : 1 ≤ n) (s : State) (z : Nat) (f : Remainders → Remainders) : Moves n s (s.modRem z f) := modZone hn ..

theorem recordEval (hn : 4 ≤ n) (s : State) (z : Nat) (r : EvalRecord) : Moves n s (s.recordEval z r) := by
  unfold State.recordEval
  split
  · exact .refl s
  · exact after (countBy ..) (after (countBy ..) (after (countBy ..) (modRem (by omega) ..)))

theorem accrueOverride (hn : 1 ≤ n) (s : State) (z : Nat) (m : Option Tick) : Moves n s (s.accrueOverride z m) := by
  unfold State.accrueOverride
  split
  · exact .refl s
  · exact after (countBy ..) (modRem hn ..)

theorem markOverride (hn : 1 ≤ n) (s : State) (z : Nat) : Moves n s (s.markOverride z) := modRem hn ..

/-! ### Estimation -/

theorem modLearned (hn : 1 ≤ n) (s : State) (z : Nat) (f : Learned → Learned) : Moves n s (s.modLearned z f) := modZone hn ..

theorem clearAccumulators (hn : 1 ≤ n) (s : State) : Moves n s s.clearAccumulators := mapZones hn s

theorem boundary (hn : 1 ≤ n) (s : State) (b : Nat) : Moves n s (s.boundary b) := mapZones hn s

theorem learnRatio (hn : 1 ≤ n) (s : State) (z day : Nat) : Moves n s (s.learnRatio z day) := by
  unfold State.learnRatio
  split
  · exact .refl s
  · split
    · exact .refl s
    · exact ite (fun _ => modLearned hn ..) (fun _ => .refl s)

theorem accumulate (hn : 1 ≤ n) (s : State) (z day : Nat) : Moves n s (s.accumulate z day) := by
  unfold State.accumulate
  split
  · exact .refl s
  · exact ite (fun _ => modLearned hn ..) (fun _ => .refl s)

theorem processReading (hn : 5 ≤ n) (s : State) (i : Nat) (h : Hand) : Moves n s (s.processReading i h) := by
  unfold State.processReading
  split
  · exact .refl s
  · exact modSensorRun hn ..

theorem modContrib (hn : 3 ≤ n) (s : State) (i : Nat) (f : List Contrib → List Contrib) : Moves n s (s.modContrib i f) :=
  modSensor hn ..

theorem removeFromLists (hn : 3 ≤ n) (s : State) (z : Nat) : Moves n s (s.removeFromLists z) :=
  .sensors hn s _ (map_optMap (by intro _; rfl) _)

theorem foldl {α : Type} (l : List α) (f : State → α → State) (h : ∀ a s, Moves n s (f s a)) (s : State) :
    Moves n s (l.foldl f s) := by
  induction l generalizing s with
  | nil => exact .refl s
  | cons a l ih => exact (h a s).trans (ih _)

theorem calibrationWrite (hn : 3 ≤ n) (s : State) (z floor : Nat) (m : List (Nat × Nat)) :
    Moves n s (s.calibrationWrite z floor m) :=
  after (foldl _ _ (fun _ _ => ite (fun _ => modContrib hn ..) (fun _ => .refl _)) _) (removeFromLists hn ..)

/-! ### Calendar and occupancy -/

theorem invalidateClock (hn : 5 ≤ n) (s : State) : Moves n s s.invalidateClock := by
  unfold State.invalidateClock
  exact ite (fun _ => after (clearAccumulators (by omega) _) (modClock hn ..)) (fun _ => .refl s)

theorem raiseBoundary (hn : 1 ≤ n) (s : State) : Moves n s s.raiseBoundary := by
  unfold State.raiseBoundary
  exact ite (fun _ => boundary hn ..) (fun _ => .refl s)

theorem advanceClock (hn : 5 ≤ n) (s : State) : Moves n s s.advanceClock := by
  unfold State.advanceClock
  dsimp only
  exact after (ite (fun _ => after (latch ..) (after (invalidateClock hn _) (modClock hn ..)))
    (fun _ => after (raiseBoundary (by omega) _) (modClock hn ..))) (modClock hn ..)

theorem deriveOccupancy (hn : 1 ≤ n) (s : State) (z : Nat) : Moves n s (s.deriveOccupancy z) := modZone hn ..

theorem takeOccLevel (hn : 5 ≤ n) (s : State) (i : Nat) : Moves n s (s.takeOccLevel i) := by
  unfold State.takeOccLevel
  dsimp only
  refine after (mapZones (by omega) _ (fun x => ?_) (fun x h => ?_)) (after (latch ..) (modOcc hn ..))
  · split
    · unfold Zone.takeOcc; repeat' split
      all_goals rfl
    · rfl
  · split
    · unfold Zone.takeOcc; repeat' split
      all_goals exact h
    · exact h

/-! ### Zone control -/

theorem handIfChanged (s : State) (z old : Nat) : Moves n s (s.handIfChanged z old) := by
  unfold State.handIfChanged
  exact ite (fun _ => .refl s) (fun _ => handLevel ..)

theorem accrueOverride_active {s : State} {z : Nat} {m : Option Tick} {y : Zone}
    (h : (s.accrueOverride z m).zone z = some y) : ∃ x, s.zone z = some x ∧ y.overrideActive = x.overrideActive := by
  unfold State.accrueOverride at h
  split at h
  · exact ⟨y, h, rfl⟩
  · simp only [State.zone, State.countBy_zones, State.modRem, State.modZone_zones, entryAt_modify, if_true,
      Option.map_eq_some_iff] at h
    obtain ⟨x, hx, rfl⟩ := h
    exact ⟨x, hx, rfl⟩

theorem resolveHeld (hn : 1 ≤ n) (s : State) (z : Nat) : Moves n s (s.resolveHeld z) := by
  unfold State.resolveHeld
  split
  · exact .refl s
  · next x hx =>
    dsimp only
    generalize hm : s.resolved z x = m
    have h1 : Moves n s (if m = .fallback then
        s.modZone z fun y => { y with fallbackReason := s.fallbackReasonOf z x } else s) :=
      ite (fun _ => modZone hn ..) (fun _ => .refl s)
    have z1 : ∀ y, (if m = .fallback then
        s.modZone z fun y => { y with fallbackReason := s.fallbackReasonOf z x } else s).zone z = some y →
        y.overrideActive = x.overrideActive := by
      intro y hy
      split at hy
      · simp only [State.zone_modZone, if_true, hx, Option.map_some, Option.some.injEq] at hy
        rw [← hy]
      · rw [hx] at hy; cases hy; rfl
    refine after (ite (fun _ => .refl _) (fun _ => ?_)) h1
    generalize (if m = .fallback then _ else s) = t at z1 ⊢
    have h2 : Moves n t (if x.state = .override then t.accrueOverride z none else t) :=
      ite (fun _ => accrueOverride hn ..) (fun _ => .refl t)
    have z2 : ∀ y, (if x.state = .override then t.accrueOverride z none else t).zone z = some y →
        y.overrideActive = x.overrideActive := by
      intro y hy
      split at hy
      · obtain ⟨w, hw, e⟩ := accrueOverride_active hy
        rw [e, z1 w hw]
      · exact z1 y hy
    refine after ?_ h2
    generalize (if x.state = .override then _ else t) = u at z2 ⊢
    have h3 : Moves n u (u.modZone z (Zone.entered m)) :=
      modZone hn u z (entered_cfg m) fun y hy hl => zoneLegal_entered m hl fun e => by
        rw [z2 y hy]; exact resolved_override (hm.trans e)
    exact after (latchIf ..) (after (ite (fun _ => markOverride hn ..) (fun _ => .refl _)) h3)

theorem resolve (hn : 1 ≤ n) (s : State) (z : Nat) : Moves n s (s.resolve z) :=
  after (handIfChanged ..) (resolveHeld hn ..)

theorem learnEval (hn : 1 ≤ n) (s : State) (z : Nat) (st : ZoneState) (o : Option Nat) :
    Moves n s (match st, o with
      | .tracking, some day => (s.learnRatio z day).accumulate z day
      | _, _ => s) := by
  split
  · exact after (accumulate hn ..) (learnRatio hn ..)
  · exact .refl _

theorem evaluate (hn : 4 ≤ n) (s : State) (line z : Nat) : Moves n s (s.evaluate line z) := by
  unfold State.evaluate
  split
  · exact .refl s
  · next x hx =>
    dsimp only
    refine after (recordEval (by omega) ..) (after (learnEval (by omega) ..) (after (handIfChanged ..) (modZoneAt (by omega) s z ?_ ?_)))
    · intro y hy
      rw [hx] at hy; cases hy
      exact (aim_rest ..).1
    · intro y hy hl
      rw [hx] at hy; cases hy
      obtain ⟨hc, hlv, ha, ho⟩ := aim_rest x s.tick (s.setpointOf x)
        ((s.dayOf x).2.bind fun day => s.demandFor z x (s.setpointOf x) day)
      refine zoneLegal_level hl hc ?_ ha ho
      simp only [Zone.newLevel, hc, hlv]
      exact levelLegal_slew hl.1 hl.2.1 (aim_target _ _ _ hl)

theorem evalEvent (hn : 4 ≤ n) (s : State) (line z : Nat) : Moves n s (s.evalEvent line z) := by
  unfold State.evalEvent
  dsimp only
  refine after ?_ (resolve (by omega) s z)
  split
  · exact evaluate hn ..
  · exact evaluate hn ..
  · exact .refl _

theorem evaluateLine (hn : 4 ≤ n) (s : State) (line : Nat) : Moves n s (s.evaluateLine line) :=
  forEach _ _ (fun _ _ _ => evalEvent hn ..) s

theorem accrueLine (hn : 1 ≤ n) (s : State) (line : Nat) : Moves n s (s.accrueLine line) :=
  forEach _ _ (fun _ _ _ => accrueOverride hn ..) s

theorem setShadeHold (hn : 1 ≤ n) (s : State) (z : Nat) (h : Bool) : Moves n s (s.setShadeHold z h) := by
  unfold State.setShadeHold
  split
  · exact .refl s
  · exact ite (fun _ => .refl s) (fun _ => after (resolve hn ..) (modZone hn ..))

theorem setCalHold (hn : 1 ≤ n) (s : State) (z : Nat) (h : Bool) : Moves n s (s.setCalHold z h) := by
  unfold State.setCalHold
  split
  · exact .refl s
  · exact ite (fun _ => .refl s) (fun _ => after (resolve hn ..) (modZone hn ..))

theorem askLevel (hn : 1 ≤ n) (s : State) (z : Nat) {v : Nat} (hv : v = 0 ∨ v = 1000) : Moves n s (s.askLevel z v) := by
  unfold State.askLevel
  split
  · exact .refl s
  · refine ite (fun _ => after (handIfChanged ..) (modZone hn s z (q := fun x _ h => ?_))) (fun _ => .refl s)
    refine zoneLegal_level h rfl ?_ rfl rfl
    rcases hv with rfl | rfl
    · exact levelLegal_zero _
    · exact levelLegal_full h.1

theorem resolveAndHand (hn : 1 ≤ n) (s : State) (z : Nat) : Moves n s (s.resolveAndHand z) :=
  after (handLevel ..) (resolveHeld hn ..)

theorem resolveZonesOf (hn : 1 ≤ n) (s : State) (i : Nat) : Moves n s (s.resolveZonesOf i) :=
  forEach _ _ (fun _ _ _ => resolve hn ..) s

theorem applyOverride (hn : 1 ≤ n) (s : State) (z : Nat) (ha : ∀ x, s.zone z = some x → x.overrideActive = true) :
    Moves n s (s.applyOverride z) := by
  unfold State.applyOverride
  split
  · exact .refl s
  · refine ite (fun _ => after (handIfChanged ..) (modZone hn s z (q := fun x hx h => ?_))) (fun _ => resolve hn ..)
    exact zoneLegal_level h rfl (h.2.2.2 (ha x hx)) rfl rfl

/-- An accepted OVERRIDE_ZONE (R82). -/
theorem override (hn : 1 ≤ n) (s : State) (z level duration : Nat) (hv : level ≤ 1000) :
    Moves n s ((s.modZone z (Zone.takeOverride s.tick level duration)).applyOverride z) := by
  refine after (applyOverride hn _ z fun x hx => ?_) (modZone hn s z (q := fun x _ h => ?_))
  · simp only [State.zone_modZone, if_true, Option.map_eq_some_iff] at hx
    obtain ⟨y, _, rfl⟩ := hx; rfl
  · exact ⟨h.1, h.2.1, h.2.2.1, fun _ => levelLegal_lift h.1 hv⟩

theorem endOverride (hn : 1 ≤ n) (s : State) (z : Nat) : Moves n s (s.endOverride z) :=
  after (resolve hn ..) (modZone hn s z (q := fun _ _ h => ⟨h.1, h.2.1, h.2.2.1, fun e => by cases e⟩))

end Moves

end Sys2Proof.Machine
end

