-- ==== Sys2Proof/Laws/ShadeMoves.lean ====
section
/-! SUPPORT. What the operations of the shade control and of the calibration sweep can do: each is a move. -/

namespace Sys2Proof.Machine

set_option Elab.async false

open Sys2Proof.Safety

variable {n : Nat}

namespace Moves

/-! ### Shades (chapter 7) -/

theorem offerShade (s : State) (c : GearCmd) (v i : Nat) : Moves n s (s.offerShade c v i) := by
  unfold State.offerShade
  split
  · exact .refl s
  · exact arrival ..

theorem offerGoto (s : State) (seg i : Nat) : Moves n s (s.offerGoto seg i) := by
  unfold State.offerGoto
  split
  · exact offerShade ..
  · exact .refl s

theorem setShadeHolds (hn : 1 ≤ n) (s : State) (seg : Nat) (h : Bool) : Moves n s (s.setShadeHolds seg h) :=
  forEach _ _ (fun _ _ _ => setShadeHold hn ..) s

theorem endSettle (hn : 2 ≤ n) (s : State) (seg : Nat) : Moves n s (s.endSettle seg) :=
  after (setShadeHolds (by omega) ..) (modSegment hn ..)

theorem enterSettling (hn : 2 ≤ n) (s : State) (seg : Nat) : Moves n s (s.enterSettling seg) := by
  unfold State.enterSettling
  dsimp only
  exact after (ite (fun _ => endSettle hn ..) (fun _ => .refl _)) (modSegment hn ..)

theorem arrivalTest (hn : 2 ≤ n) (s : State) (seg : Nat) : Moves n s (s.arrivalTest seg) := by
  unfold State.arrivalTest
  dsimp only
  exact ite (fun _ => enterSettling hn ..) (fun _ => .refl s)

theorem endTravel (hn : 2 ≤ n) (s : State) (seg : Nat) (st : ShadeState) : Moves n s (s.endTravel seg st) :=
  after (setShadeHolds (by omega) ..) (modSegment hn ..)

theorem faultTest (hn : 2 ≤ n) (s : State) (seg : Nat) : Moves n s (s.faultTest seg) := by
  unfold State.faultTest
  exact ite (fun _ => endTravel hn ..) (fun _ => .refl s)

theorem faultGear (hn : 2 ≤ n) (s : State) (l : List Nat) : Moves n s (s.faultGear l) :=
  after (latchIf ..) (forEach _ _ (fun _ _ _ => modGearShade (by omega) ..) s)

theorem faultAndTest (hn : 2 ≤ n) (s : State) (seg : Nat) (l : List Nat) : Moves n s (s.faultAndTest seg l) :=
  after (faultTest hn ..) (after (arrivalTest hn ..) (faultGear hn ..))

theorem sendTarget (s : State) (seg : Nat) : Moves n s (s.sendTarget seg) := forEach _ _ (fun _ _ _ => offerGoto ..) s

theorem startTravel (hn : 2 ≤ n) (s : State) (seg : Nat) : Moves n s (s.startTravel seg) := by
  unfold State.startTravel
  dsimp only
  exact after (arrivalTest hn ..) (after (count ..) (after (setShadeHolds (by omega) ..) (after (sendTarget ..)
    (after (forEach _ _ (fun _ _ _ => modGearShade (by omega) ..) _) (modSegment hn ..)))))

theorem redirect (hn : 2 ≤ n) (s : State) (seg : Nat) : Moves n s (s.redirect seg) := by
  unfold State.redirect
  dsimp only
  exact after (arrivalTest hn ..) (after (modSegment hn ..) (after (forEach _ _ (fun _ _ _ => modGearShade (by omega) ..) _)
    (sendTarget ..)))

theorem setTarget (hn : 2 ≤ n) (s : State) (seg t : Nat) : Moves n s (s.setTarget seg t) := by
  unfold State.setTarget
  dsimp only
  refine Moves.trans (t := s.modSegment seg fun g => { g with target := some t }) (modSegment hn ..) ?_
  split
  · exact ite (fun _ => startTravel hn ..) (fun _ => .refl _)
  · exact redirect hn ..
  · exact ite (fun _ => startTravel hn ..) (fun _ => .refl _)
  · exact .refl _

theorem stall (hn : 2 ≤ n) (s : State) (seg i : Nat) : Moves n s (s.stall seg i) := by
  unfold State.stall
  dsimp only
  exact after (ite (fun _ => after (modGearShade (by omega) ..) (offerGoto ..)) (fun _ => faultAndTest hn ..)) (count ..)

theorem queryCount (hn : 2 ≤ n) (s : State) (seg i : Nat) (b r : Option Nat) : Moves n s (s.queryCount seg i b r) := by
  unfold State.queryCount
  dsimp only
  refine ite (fun _ => modGearShade (by omega) ..) (fun _ => ite (fun _ => ?_) (fun _ => modGearShade (by omega) ..))
  exact after (ite (fun _ => stall hn ..) (fun _ => .refl _)) (modGearShade (by omega) ..)

theorem answerCount (hn : 2 ≤ n) (s : State) (seg i : Nat) (c : GearCmd) (b r : Option Nat) :
    Moves n s (match c with
      | .shadeGoto => s.modGear i fun g => { g with unchanged := 0 }
      | .shadeQuery => s.queryCount seg i b r
      | _ => s) := by
  split
  · exact modGearShade (by omega) ..
  · exact queryCount hn ..
  · exact .refl s

theorem shadeAnswer (hn : 2 ≤ n) (s : State) (seg i : Nat) (c : GearCmd) (b : Option Nat) :
    Moves n s (s.shadeAnswer seg i c b) := by
  unfold State.shadeAnswer
  split
  · exact .refl s
  · exact ite (fun _ => after (arrivalTest hn ..) (answerCount hn ..)) (fun _ => .refl s)

theorem shadeSilent (hn : 2 ≤ n) (s : State) (seg i : Nat) : Moves n s (s.shadeSilent seg i) := by
  unfold State.shadeSilent
  exact ite (fun _ => faultAndTest hn ..) (fun _ => .refl s)

theorem shadeLineLeft (hn : 2 ≤ n) (s : State) (l : Nat) : Moves n s (s.shadeLineLeft l) :=
  .gearShade hn s _ (map_optMap (fun g => by by_cases h : g.cfg.line = l <;> cases h' : g.isShade <;> simp [h, h'] <;> rfl) _)

theorem gearLeftGroup (hn : 2 ≤ n) (s : State) (seg : Nat) : Moves n s (s.gearLeftGroup seg) := by
  unfold State.gearLeftGroup
  exact ite (fun _ => endTravel hn ..) (fun _ => after (arrivalTest hn ..) (faultTest hn ..))

theorem testGlare_cfg (now : Tick) (w : Nat) (g : Segment) : (g.testGlare now w).cfg = g.cfg := by
  unfold Segment.testGlare Segment.startPhase Segment.stopGlare
  dsimp only; repeat' split
  all_goals rfl

theorem glareExpire (hn : 2 ≤ n) (s : State) (seg : Nat) : Moves n s (s.glareExpire seg) := by
  unfold State.glareExpire
  split
  · exact after (setTarget hn ..) (modSegment hn ..)
  · exact after (setTarget hn ..) (modSegment hn ..)
  · exact .refl s
  · exact .refl s

theorem applyDelay (hn : 2 ≤ n) (s : State) (seg : Nat) : Moves n s (s.applyDelay seg) := by
  unfold State.applyDelay
  dsimp only
  split
  · exact .refl s
  · refine ite (fun _ => .refl s) (fun _ => ?_)
    exact after (ite (fun _ => glareExpire hn ..) (fun _ => .refl _)) (modSegment hn ..)

theorem windowReading (hn : 2 ≤ n) (s : State) (seg w : Nat) : Moves n s (s.windowReading seg w) := by
  unfold State.windowReading
  exact ite (fun _ => .refl s) (fun _ => after (modSegment hn _ _ (testGlare_cfg _ _)) (applyDelay hn ..))

theorem noticeWindow (hn : 2 ≤ n) (s : State) (i : Nat) : Moves n s (s.noticeWindow i) := by
  unfold State.noticeWindow
  split
  · exact .refl s
  · exact forEach _ _ (fun _ _ _ => windowReading hn ..) s

theorem recomputeGlare (hn : 2 ≤ n) (s : State) (seg : Nat) : Moves n s (s.recomputeGlare seg) := by
  unfold State.recomputeGlare
  dsimp only
  refine Moves.trans (t := s.modSegment seg fun g => { g.stopGlare with phase := .clear }) (modSegment hn ..) ?_
  split
  · exact ite (fun _ => modSegment hn _ _ (testGlare_cfg _ _)) (fun _ => .refl _)
  · exact .refl _

theorem suspendGlare (hn : 2 ≤ n) (s : State) : Moves n s s.suspendGlare :=
  .segments hn s _ (by simp [List.map_map, Function.comp_def, Segment.stopGlare])

theorem resumeGlare (hn : 2 ≤ n) (s : State) : Moves n s s.resumeGlare := forEach _ _ (fun _ _ _ => recomputeGlare hn ..) s

theorem returnToAuto (hn : 2 ≤ n) (s : State) (seg : Nat) : Moves n s (s.returnToAuto seg) := by
  unfold State.returnToAuto
  dsimp only
  exact after (ite (fun _ => .refl _) (fun _ => recomputeGlare hn ..)) (modSegment hn ..)

theorem takeManual (hn : 2 ≤ n) (s : State) (seg d : Nat) : Moves n s (s.takeManual seg d) := modSegment hn ..

theorem stopShades (hn : 2 ≤ n) (s : State) (seg : Nat) : Moves n s (s.stopShades seg) := by
  unfold State.stopShades
  dsimp only
  exact after (ite (fun _ => enterSettling hn ..) (fun _ => .refl _)) (after (forEach _ _ (fun _ _ _ => offerShade ..) _)
    (modSegment hn ..))

theorem shadeAct (hn : 2 ≤ n) (s : State) (seg : Nat) (a : ShadeAction) (p d : Nat) : Moves n s (s.shadeAct seg a p d) := by
  cases a
  · exact after (setTarget hn ..) (takeManual hn ..)
  · exact after (stopShades hn ..) (takeManual hn ..)
  · exact ite (fun _ => returnToAuto hn ..) (fun _ => .refl s)

theorem clearGroupFaults (hn : 2 ≤ n) (s : State) (seg : Nat) : Moves n s (s.clearGroupFaults seg) :=
  forEach _ _ (fun _ _ _ => modGearShade (by omega) ..) s

theorem leaveFaulted (hn : 2 ≤ n) (s : State) (seg : Nat) : Moves n s (s.leaveFaulted seg) := by
  unfold State.leaveFaulted
  dsimp only
  refine Moves.trans (t := if (s.segment seg).manual then s else s.recomputeGlare seg)
    (ite (fun _ => .refl s) (fun _ => recomputeGlare hn ..)) ?_
  generalize (if (s.segment seg).manual then s else s.recomputeGlare seg) = t
  split
  · exact setTarget hn ..
  · exact .refl _

theorem clearShadeFault (hn : 2 ≤ n) (s : State) (seg : Nat) : Moves n s (s.clearShadeFault seg) := by
  unfold State.clearShadeFault
  dsimp only
  refine Moves.trans (t := s.clearGroupFaults seg) (clearGroupFaults hn ..) ?_
  split
  · exact after (ite (fun _ => .refl _) (fun _ => leaveFaulted hn ..)) (modSegment hn ..)
  · exact forEach _ _ (fun _ _ _ => offerGoto ..) _
  · exact .refl _
  · exact .refl _

/-! ### The sweep (chapter 5) -/

theorem enterSettle (hn : 3 ≤ n) (s : State) (st : SweepState) : Moves n s (s.enterSettle st) := modSweep hn ..

theorem settledCheck (hn : 3 ≤ n) (s : State) : Moves n s s.settledCheck := by
  unfold State.settledCheck
  split
  · exact ite (fun _ => enterSettle hn ..) (fun _ => .refl s)
  · exact ite (fun _ => enterSettle hn ..) (fun _ => .refl s)
  · exact ite (fun _ => enterSettle hn ..) (fun _ => .refl s)
  · exact .refl s

theorem releaseZones (hn : 2 ≤ n) (s : State) : Moves n s s.releaseZones := by
  unfold State.releaseZones
  dsimp only
  exact after (resumeGlare hn _) (after (forEach _ _ (fun _ _ _ => setCalHold (by omega) ..) _)
    (forEach _ _ (fun _ _ _ => resolve (by omega) ..) _))

theorem finishSweep (hn : 3 ≤ n) (s : State) : Moves n s s.finishSweep :=
  after (latch ..) (after (releaseZones (by omega) _) (modSweep hn ..))

theorem abortSweep (hn : 3 ≤ n) (s : State) (c : AbortCause) : Moves n s (s.abortSweep c) := by
  unfold State.abortSweep
  refine after (latch ..) (after (releaseZones (by omega) _) (after (modSweep hn ..) ?_))
  split
  · exact setCalResult hn ..
  · exact .refl s

theorem sweepLineLeft (hn : 3 ≤ n) (s : State) (l : Nat) : Moves n s (s.sweepLineLeft l) := by
  unfold State.sweepLineLeft
  exact ite (fun _ => abortSweep hn ..) (fun _ => .refl s)

theorem darkWrite (hn : 3 ≤ n) (s : State) : Moves n s s.darkWrite := by
  unfold State.darkWrite
  exact after (modSweep hn ..) (foldl _ _ (fun _ _ => modSensor hn ..) s)

theorem stepOn (hn : 3 ≤ n) (s : State) (z : Nat) : Moves n s (s.stepOn z) :=
  after (settledCheck hn _) (after (askLevel (by omega) _ _ (.inr rfl)) (modSweep hn ..))

theorem stepOff (hn : 3 ≤ n) (s : State) : Moves n s s.stepOff := by
  unfold State.stepOff
  dsimp only
  refine after (settledCheck hn _) (Moves.trans (t := s.modSweep fun w => { w with state := .stepOff }) (modSweep hn ..) ?_)
  split
  · exact askLevel (by omega) _ _ (.inl rfl)
  · exact .refl _

theorem endBaseRead (hn : 3 ≤ n) (s : State) : Moves n s s.endBaseRead := by
  unfold State.endBaseRead
  dsimp only
  refine Moves.trans (t := s.modSweep fun w =>
    { w with measured := w.measured.map fun m => { m with base := m.coll.value } }) (modSweep hn ..) ?_
  generalize (s.modSweep fun w => _) = t
  refine Moves.trans (t := if t.sweep.dark then t.darkWrite else t) (ite (fun _ => darkWrite hn _) (fun _ => .refl _)) ?_
  generalize (if t.sweep.dark then t.darkWrite else t) = u
  split
  · exact stepOn hn ..
  · exact finishSweep hn _

theorem endStepRead (hn : 3 ≤ n) (s : State) : Moves n s s.endStepRead := after (stepOff hn _) (modSweep hn ..)

theorem decideZone (hn : 3 ≤ n) (s : State) (z : Nat) : Moves n s (s.decideZone z) := by
  unfold State.decideZone
  dsimp only
  exact ite (fun _ => setCalResult hn ..) (fun _ => after (setCalResult hn ..) (calibrationWrite hn ..))

theorem endRestoreRead (hn : 3 ≤ n) (s : State) : Moves n s s.endRestoreRead := by
  unfold State.endRestoreRead
  split
  · exact finishSweep hn _
  · next z _ =>
    dsimp only
    refine Moves.trans (t := (s.decideZone z).modSweep fun w =>
      { w with zonesDone := w.zonesDone + 1, measured := w.measured.map fun m => { m with base := m.coll.value } })
      (after (modSweep hn ..) (decideZone hn ..)) ?_
    split
    · exact stepOn hn ..
    · exact finishSweep hn _

theorem readCheck (hn : 3 ≤ n) (s : State) : Moves n s s.readCheck := by
  unfold State.readCheck
  refine ite (fun _ => ?_) (fun _ => .refl s)
  split
  · exact endBaseRead hn _
  · exact endStepRead hn _
  · exact endRestoreRead hn _
  · exact .refl s

theorem enterRead (hn : 3 ≤ n) (s : State) (st : SweepState) : Moves n s (s.enterRead st) :=
  after (readCheck hn _) (modSweep hn ..)

theorem takeReport (hn : 3 ≤ n) (s : State) (l : Nat) (r : List (Nat × Nat)) : Moves n s (s.takeReport l r) :=
  after (readCheck hn _) (modSweep hn ..)

theorem startSweep (hn : 3 ≤ n) (s : State) (r : StartCalibration) : Moves n s (s.startSweep r) := by
  unfold State.startSweep
  dsimp only
  refine after (settledCheck hn _) (after (forEach _ _ (fun _ _ _ => askLevel (by omega) _ _ (.inl rfl)) _)
    (after (suspendGlare (by omega) _) (after (forEach _ _ (fun _ _ _ => setCalHold (by omega) ..) _)
      (after (forEach _ _ (fun _ _ _ => resolve (by omega) ..) _)
        (after (forEach _ _ (fun _ _ _ => setCalResult hn ..) _) (modSweep hn ..))))))

end Moves

end Sys2Proof.Machine
end

