-- ==== Sys2Proof/Laws/EventMoves.lean ====
section
/-! SUPPORT. What the events of the gear lines and of the sensor lines can do: each is a move. -/

namespace Sys2Proof.Machine

set_option Elab.async false

open Sys2Proof.Safety

variable {n : Nat}

namespace Moves

/-! ### Gear lines (chapter 6) -/

theorem lineOut (hn : 5 ≤ n) (s : State) (l : Nat) (d : LineState) : Moves n s (s.lineOut l d) := by
  unfold State.lineOut
  dsimp only
  refine after (ite (fun _ => after (sweepLineLeft (by omega) ..) (shadeLineLeft (by omega) ..)) (fun _ => .refl _))
    (after (latchIf ..) (lineLeaves hn ..))

theorem takeSupply (hn : 5 ≤ n) (s : State) (l : Nat) : Moves n s (s.takeSupply l) := by
  unfold State.takeSupply
  dsimp only
  refine Moves.trans (t := s.modGearLine l fun x => { x with supply := (s.gearLine l).supplyRaw, supplyDebounce := none })
    (modLineRun hn ..) ?_
  split
  · exact lineOut hn ..
  · exact lineOut hn ..
  · exact lineOut hn ..
  · exact lineStarting hn ..
  · exact .refl _

/-- A change of the head that leaves it in flight, or that keeps what it waits for. -/
theorem modHead (s : State) (l : Nat) {f : Entry → Entry}
    (hf : ∀ e, (e.attempting = true ∨ e.orphan = true → e.inFlight = true) → (f e).inFlight = true
      ∨ ((f e).inFlight = e.inFlight ∧ (f e).target = e.target ∧ (f e).cmd.cls = e.cmd.cls
        ∧ ((f e).attempting = true ∨ (f e).orphan = true → (f e).inFlight = true))) : Moves n s (s.modHead l f) :=
  modLine s l (q := fun _ h => queueSound_modifyHead hf h) (e := fun _ h => by simp [h])

theorem popHead (s : State) (l : Nat) : Moves n s (s.popHead l) := modLine s l (q := fun _ h => queueSound_tail h)
    (e := fun _ h => by simp [h])

theorem countFrame (hn : 5 ≤ n) (s : State) (l : Nat) (e : Entry) : Moves n s (s.countFrame l e) := by
  unfold State.countFrame
  dsimp only
  exact after (ite (fun _ => count ..) (fun _ => .refl _)) (after (ite (fun _ => count ..) (fun _ => .refl _)) (count ..))

theorem afterEvent (hn : 3 ≤ n) (s : State) (l : Nat) : Moves n s (s.afterEvent l) :=
  after (settledCheck hn _) (tendLine ..)

theorem silentShade (hn : 2 ≤ n) (s : State) (i : Nat) (g : Gear) : Moves n s (s.silentShade i g) := by
  unfold State.silentShade
  split
  · exact .refl s
  · exact shadeSilent hn ..

theorem goSilent (hn : 5 ≤ n) (s : State) (i : Nat) : Moves n s (s.goSilent i) := by
  unfold State.goSilent
  split
  · exact .refl s
  · dsimp only
    refine after (ite (fun _ => .refl _) (fun _ => ?_)) (after (modGearRun hn ..) (dropEntries ..))
    exact after (silentShade (by omega) ..) (after (refreshGearOutput (by omega) ..) (after (count ..) (latch ..)))

theorem failHead (hn : 5 ≤ n) (s : State) (l : Nat) (e : Entry) : Moves n s (s.failHead l e) := by
  unfold State.failHead
  dsimp only
  refine ite (fun _ => popHead ..) (fun _ => ite
    (fun _ => modHead _ _ fun _ h => .inr ⟨rfl, rfl, rfl, fun k => h (k.imp nofun id)⟩) (fun _ => ?_))
  split
  · exact after (goSilent hn ..) (popHead ..)
  · exact popHead ..

theorem attemptLost (hn : 5 ≤ n) (s : State) (l : Nat) : Moves n s (s.attemptLost l) := by
  unfold State.attemptLost
  split
  · exact ite (fun _ => .refl s) (fun _ => after (afterEvent (by omega) ..) (failHead hn ..))
  · exact .refl s

theorem answering (hn : 5 ≤ n) (s : State) (i : Nat) (g : Gear) : Moves n s (s.answering i g) := by
  unfold State.answering
  dsimp only
  exact after (ite (fun _ => .refl _) (fun _ => refreshGearOutput (by omega) ..))
    (after (ite (fun _ => markSetup ..) (fun _ => .refl _)) (modGearRun hn ..))

theorem answered_cfg (c : GearCmd) (d st : Byte) (g : Gear) : (g.answered c d st).cfg = g.cfg := by
  unfold Gear.answered; split
  · rfl
  · split <;> rfl

theorem auditCompare (hn : 5 ≤ n) (s : State) (l i : Nat) (d : Byte) : Moves n s (s.auditCompare l i d) := by
  unfold State.auditCompare
  split
  · exact .refl s
  · exact ite (fun _ => after (markValue ..) (count ..)) (fun _ => .refl s)

theorem answerShade (hn : 2 ≤ n) (s : State) (i : Nat) (g : Gear) (c : GearCmd) :
    Moves n s (match g.cfg.role with
      | .driver _ => s
      | .shade seg => s.shadeAnswer seg i c g.position) := by
  split
  · exact .refl s
  · exact shadeAnswer hn ..

theorem takeAnswer (hn : 5 ≤ n) (s : State) (l i : Nat) (g : Gear) (e : Entry) (d st : Byte) :
    Moves n s (s.takeAnswer l i g e d st) := by
  unfold State.takeAnswer
  dsimp only
  exact after (ite (fun _ => auditCompare hn ..) (fun _ => .refl _)) (after (answerShade (by omega) ..)
    (after (latchIf ..) (after (modGearRun hn _ _ (answered_cfg _ _ _)) (answering hn ..))))

theorem succeedHead (s : State) (l : Nat) (e : Entry) : Moves n s (s.succeedHead l e) := by
  unfold State.succeedHead
  split
  · exact modHead _ _ fun _ _ => .inl rfl
  · exact popHead ..

theorem endAttempt (hn : 5 ≤ n) (s : State) (l i : Nat) (g : Gear) (e : Entry) (d st c : Byte) (x : Bool) :
    Moves n s (s.endAttempt l i g e d st c x) := by
  unfold State.endAttempt
  dsimp only
  refine ite (fun _ => ?_) (fun _ => failHead hn ..)
  exact after (ite (fun _ => after (failHead hn ..) (count ..)) (fun _ => succeedHead ..)) (takeAnswer hn ..)

theorem auditVisit (hn : 5 ≤ n) (s : State) (l : Nat) : Moves n s (s.auditVisit l) := by
  unfold State.auditVisit
  split
  · exact .refl s
  · split
    · exact .refl s
    · exact after (arrival ..) (modLineRun hn ..)

/-! ### Sensor lines (chapter 2) -/

theorem beginTxn (hn : 4 ≤ n) (s : State) (l i : Nat) : Moves n s (s.beginTxn l i) := modSensorLine hn ..

theorem openCycle (hn : 4 ≤ n) (s : State) (l : Nat) : Moves n s (s.openCycle l) := modSensorLine hn ..

theorem completeCycle (hn : 4 ≤ n) (s : State) (l : Nat) : Moves n s (s.completeCycle l) := by
  unfold State.completeCycle
  dsimp only
  exact after (takeReport (by omega) ..) (after (accrueLine (by omega) ..) (after (evaluateLine (by omega) ..)
    (modSensorLine hn ..)))

theorem startCycle (hn : 4 ≤ n) (s : State) (l : Nat) : Moves n s (s.startCycle l) := by
  unfold State.startCycle
  dsimp only
  refine Moves.trans (t := s.openCycle l) (openCycle hn ..) ?_
  split
  · exact beginTxn hn ..
  · exact completeCycle hn ..

theorem continueCycle (hn : 4 ≤ n) (s : State) (l : Nat) : Moves n s (s.continueCycle l) := by
  unfold State.continueCycle
  split
  · exact beginTxn hn ..
  · exact after (ite (fun _ => startCycle hn ..) (fun _ => .refl _)) (completeCycle hn ..)

theorem grantSL0 (hn : 4 ≤ n) (s : State) : Moves n s s.grantSL0 :=
  after (modLoader hn ..) (modSensorLine hn s 0 fun x => by split <;> rfl)

theorem releaseSL0 (hn : 4 ≤ n) (s : State) : Moves n s s.releaseSL0 := by
  unfold State.releaseSL0
  dsimp only
  refine ite (fun _ => ite (fun _ => after (continueCycle hn ..) (modSensorLine hn ..)) (fun _ => ?_)) (fun _ => .refl s)
  exact ite (fun _ => startCycle hn ..) (fun _ => modSensorLine hn ..)

theorem afterTxn (hn : 4 ≤ n) (s : State) (l : Nat) : Moves n s (s.afterTxn l) := by
  unfold State.afterTxn
  exact ite (fun _ => grantSL0 hn _) (fun _ => continueCycle hn ..)

theorem takeReading_def (now : Tick) (r c : Nat) (o : Bool) (x : Sensor) :
    sensorDef (x.takeReading now r c o).goodState = sensorDef x := by
  unfold Sensor.goodState; split <;> rfl

theorem noteReport (hn : 4 ≤ n) (s : State) (l i : Nat) (o : Option Sensor) :
    Moves n s (match o with
      | some y => s.modSensorLine l fun m => { m with report := m.report ++ [(i, y.lux)] }
      | none => s) := by
  split
  · exact modSensorLine hn ..
  · exact .refl s

theorem handReading (hn : 5 ≤ n) (s : State) (i : Nat) (x : Sensor) (o : Option Hand) :
    Moves n s (match o with
      | none => s
      | some h => if x.kind = .window then (s.processReading i h).noticeWindow i else s.processReading i h) := by
  split
  · exact .refl s
  · exact ite (fun _ => after (noticeWindow (by omega) ..) (processReading hn ..)) (fun _ => processReading hn ..)

theorem goodReading (hn : 5 ≤ n) (s : State) (l i : Nat) (x : Sensor) (r c : Nat) (o : Bool) :
    Moves n s (s.goodReading l i x r c o) := by
  unfold State.goodReading
  dsimp only
  exact after (handReading (by omega) ..) (after (noteReport (by omega) ..) (modSensorRun (by omega) _ _ (takeReading_def _ _ _ _)))

theorem missed_def (m : Nat) (x : Sensor) : sensorDef (x.missed m) = sensorDef x := by
  unfold Sensor.missed; dsimp only; split <;> rfl

theorem modSensorAt (hn : 5 ≤ n) (s : State) (i : Nat) {f : Sensor → Sensor}
    (h : ∀ x, s.sensor i = some x → sensorDef (f x) = sensorDef x) : Moves n s (s.modSensor i f) := by
  refine .sensorsRun hn s _ ?_
  apply List.ext_getElem?; intro j
  simp only [List.getElem?_map, List.getElem?_modify]
  split
  · subst i
    cases hj : s.sensors[j]? with
    | none => rfl
    | some o =>
      cases o with
      | none => rfl
      | some x => simp [h x (by simp [State.sensor, entryAt, hj])]
  · cases s.sensors[j]? <;> rfl

theorem miss (hn : 5 ≤ n) (s : State) (l i : Nat) {x : Sensor} (hx : s.sensor i = some x) : Moves n s (s.miss l i x) := by
  unfold State.miss
  dsimp only
  refine after (ite (fun _ => after (resolveZonesOf (by omega) ..) (latch ..)) (fun _ => .refl _))
    (after (count ..) (modSensorAt (by omega) s i fun y hy => ?_))
  rw [hx] at hy; cases hy; exact missed_def ..

theorem applyOutcome (hn : 5 ≤ n) (s : State) (l i : Nat) (o : TxnOutcome) : Moves n s (s.applyOutcome l i o) := by
  unfold State.applyOutcome
  split
  · exact .refl s
  · next x hx =>
    split
    · exact goodReading hn ..
    · exact miss hn s l i hx
    · exact miss hn s l i hx
    · exact miss hn s l i hx

theorem endTxn (hn : 5 ≤ n) (s : State) (l : Nat) (o : TxnOutcome) : Moves n s (s.endTxn l o) := by
  unfold State.endTxn
  split
  · exact .refl s
  · exact after (afterTxn (by omega) ..) (after (ite (fun _ => .refl _) (fun _ => applyOutcome hn ..)) (modSensorLine (by omega) ..))

theorem discardTxn (hn : 4 ≤ n) (s : State) (i : Nat) : Moves n s (s.discardTxn i) :=
  .sensorLines hn s _ (by simp [List.map_map, Function.comp_def, sensorLineParams])

theorem startScanner (hn : 4 ≤ n) (s : State) (l : Nat) : Moves n s (s.startScanner l) := by
  unfold State.startScanner
  exact ite (fun _ => startCycle hn ..) (fun _ => .refl s)

end Moves

end Sys2Proof.Machine
end

