-- ==== Sys2Proof/Laws/ConfigMoves.lean ====
section
/-! SUPPORT. What the requests of the floor model, the parameters and the Image Loader can do: each is a move. -/

namespace Sys2Proof.Machine

set_option Elab.async false

open Sys2Proof.Safety

variable {n : Nat}

/-! ### Static fields that keep the levels legal -/

/-- A zone's static fields under which its levels can be legal. -/
def DefLegal (d : ZoneDef) : Prop := d.lmin ≤ 500 ∧ LevelLegal d.lmin d.fallbackLevel

theorem defLegal_of_legal {x : Zone} (h : ZoneLegal x) : DefLegal x.cfg := ⟨h.1, h.2.2.1⟩

theorem defLegal_defaults (seg : Nat) (band : Band) : DefLegal (ZoneDef.defaults seg band) :=
  ⟨by simp [ZoneDef.defaults], .inr (by simp [ZoneDef.defaults]), by simp [ZoneDef.defaults]⟩

theorem defLegal_withFields {f : ZoneFields} {d : ZoneDef} (hf : zoneFieldsOk f = true) (h : DefLegal d) :
    DefLegal (d.withFields f) := by
  obtain ⟨hm, hv⟩ := h
  simp only [zoneFieldsOk, Bool.and_eq_true] at hf
  have h1 : f.lmin.getD d.lmin ≤ 500 := by
    have := hf.1.1.1.1.1.1.2
    cases hl : f.lmin with
    | none => simpa using hm
    | some v => simp [optBetween, between, hl] at this; simpa using this.2
  have h2 : f.fallbackLevel.getD d.fallbackLevel ≤ 1000 := by
    have := hf.1.1.1.1.1.2
    cases hl : f.fallbackLevel with
    | none => simpa using hv.2
    | some v => simp [optBetween, between, hl] at this; simpa using this
  exact ⟨h1, levelLegal_lift h1 h2⟩

theorem zoneLegal_fresh {d : ZoneDef} (shade : Bool) (h : DefLegal d) : ZoneLegal (Zone.fresh d shade) := by
  refine ⟨h.1, ?_, h.2, fun e => by cases e⟩
  simp only [Zone.fresh]
  split
  · exact h.2
  · exact levelLegal_zero _

theorem zoneLegal_redefine {d : ZoneDef} {x : Zone} (shade : Bool) (hd : DefLegal d) (h : ZoneLegal x) :
    ZoneLegal (x.redefine d shade) := by
  obtain ⟨hm, hl, hf, ho⟩ := h
  refine ⟨hd.1, ?_, hd.2, ?_⟩
  · simp only [Zone.redefine]
    split
    · exact levelLegal_zero _
    · split
      · exact hd.2
      · split
        · exact levelLegal_lift hd.1 hl.2
        · next hr => simp at hr; exact ⟨hl.1.imp id (fun h => hr.trans h), hl.2⟩
  · intro ha
    have ha' : x.overrideActive = true := ha
    simp only [Zone.redefine, ha']
    split
    · exact levelLegal_lift hd.1 (ho ha').2
    · next hr => simp at hr; exact ⟨(ho ha').1.imp id (fun h => hr.trans h), (ho ha').2⟩

namespace Moves

/-! ### Sensors -/

theorem storeSensor (hn : 6 ≤ n) (s : State) (i : Nat) (x : Sensor) : Moves n s (s.storeSensor i x) := by
  unfold State.storeSensor
  split
  · exact setSensor hn ..
  · dsimp only
    exact after (ite (fun _ => resolveZonesOf (by omega) ..) (fun _ => .refl _))
      (after (ite (fun _ => discardTxn (by omega) ..) (fun _ => .refl _)) (setSensor hn ..))

/-! ### Zones -/

theorem modZoneDefAt (hn : 6 ≤ n) (s : State) (z : Nat) {f : Zone → Zone}
    (q : ∀ x, s.zone z = some x → ZoneLegal x → ZoneLegal (f x)) : Moves n s (s.modZone z f) := by
  refine .zonesDef hn s _ (by simp) fun hs y hy => ?_
  rcases mem_modify hy with hy | ⟨x, hx, hxy⟩
  · exact hs y hy
  · cases x with
    | none => simp at hxy
    | some x =>
      have e : y = f x := by simpa using hxy
      rw [e]
      exact q x (by simp [State.zone, entryAt, hx]) (hs x (List.mem_of_getElem? hx))

theorem regroupLine (s : State) (z l : Nat) : Moves n s (s.regroupLine z l) := by
  unfold State.regroupLine
  dsimp only
  exact after (tendLine ..) (after (forEach _ _ (fun _ _ _ => markSetup ..) _)
    (ite (fun _ => forEach _ _ (fun _ _ _ => modGear ..) _) (fun _ => .refl _)))

theorem storeNewZone (hn : 6 ≤ n) (s : State) (z : Nat) {d : ZoneDef} (hd : DefLegal d) :
    Moves n s (s.storeNewZone z d) :=
  after (handLevel ..) (after (resolveHeld (by omega) ..) (after (deriveOccupancy (by omega) ..)
    (setZone hn s z _ fun y hy => by cases hy; exact zoneLegal_fresh _ hd)))

theorem storeOldZone (hn : 6 ≤ n) (s : State) (z : Nat) {x : Zone} {d : ZoneDef} (hx : s.zone z = some x)
    (hd : ZoneLegal x → DefLegal d) : Moves n s (s.storeOldZone z x d) := by
  unfold State.storeOldZone
  dsimp only
  refine after (ite (fun _ => resolveAndHand (by omega) ..) (fun _ =>
      after (handIfChanged ..) (ite (fun _ => resolveHeld (by omega) ..) (fun _ => .refl _)))) (after (forEach _ _ (fun _ _ _ => regroupLine ..) _)
    (after (ite (fun _ => deriveOccupancy (by omega) ..) (fun _ => .refl _)) (modZoneDefAt hn s z fun y hy h => ?_)))
  rw [hx] at hy; cases hy
  exact zoneLegal_redefine _ (hd h) h

theorem storeZone (hn : 6 ≤ n) (s : State) (z : Nat) {d : ZoneDef}
    (hd : (∀ x, s.zone z = some x → ZoneLegal x) → DefLegal d) (hnew : s.zone z = none → DefLegal d) :
    Moves n s (s.storeZone z d) := by
  unfold State.storeZone
  split
  · next h => exact storeNewZone hn s z (hnew h)
  · next x h => exact storeOldZone hn s z h fun hl => hd fun y hy => by rw [h] at hy; cases hy; exact hl

theorem deleteZone (hn : 6 ≤ n) (s : State) (z : Nat) : Moves n s (s.deleteZone z) :=
  after (setCalResult (by omega) ..) (after (removeFromLists (by omega) ..)
    (after (setZone hn _ z none fun _ h => by cases h) (accrueOverride (by omega) ..)))

/-! ### Segments, gear and curves -/

theorem storeSegment (hn : 6 ≤ n) (s : State) (seg : Nat) (d : SegmentDef) : Moves n s (s.storeSegment seg d) := by
  unfold State.storeSegment
  exact ite (fun _ => modSegmentDef hn ..) (fun _ => after (forEach _ _ (fun _ _ _ => modLearned (by omega) ..) _)
    (modSegmentDef hn ..))

theorem queueSound_abandonQueue {q : List Entry} (i : Nat) (h : QueueSound q) : QueueSound (abandonQueue i q) := by
  refine queueSound_map (fun e he => ?_) (queueSound_filter _ h)
  obtain ⟨he, hp⟩ := List.mem_filter.mp he
  split
  · next ht => exact ⟨rfl, rfl, rfl, fun _ => h.2.2.1 e he (.inl (by simpa [ht] using hp))⟩
  · exact ⟨rfl, rfl, rfl, h.2.2.1 e he⟩

theorem abandonEntries (s : State) (l i : Nat) : Moves n s (s.abandonEntries l i) :=
  modLine s l (q := fun _ h => queueSound_abandonQueue i h) (e := fun _ h => by simp [h, abandonQueue])

theorem regroupGear (hn : 5 ≤ n) (s : State) (a b : Option Gear) : Moves n s (s.regroupGear a b) := by
  unfold State.regroupGear
  dsimp only
  have h1 : ∀ (o : Option Gear) (s : State), Moves n s (match o with
      | some g => s.refreshGearOutput g
      | none => s) := by
    intro o s; split
    · exact refreshGearOutput (by omega) ..
    · exact .refl s
  have h2 : ∀ (o p : Option Nat) (s : State), Moves n s (match o with
      | some seg => if p = some seg then s else s.gearLeftGroup seg
      | none => s) := by
    intro o p s; split
    · exact ite (fun _ => .refl s) (fun _ => gearLeftGroup (by omega) ..)
    · exact .refl s
  exact after (h2 ..) (after (h1 ..) (h1 ..))

theorem storeSameGear (hn : 6 ≤ n) (s : State) (i : Nat) (g : Gear) (d : GearDef) : Moves n s (s.storeSameGear i g d) := by
  unfold State.storeSameGear
  dsimp only
  exact after (ite (fun _ => after (tendLine ..) (markSetup ..)) (fun _ => ite (fun _ => after (tendLine ..) (markValue ..))
    (fun _ => .refl _))) (after (regroupGear (by omega) ..) (setGear hn ..))

theorem storeGear (hn : 6 ≤ n) (s : State) (i : Nat) (d : GearDef) : Moves n s (s.storeGear i d) := by
  unfold State.storeGear
  dsimp only
  split
  · exact after (tendLine ..) (after (markSetup ..) (after (regroupGear (by omega) ..) (setGear hn ..)))
  · refine ite (fun _ => storeSameGear hn ..) (fun _ => ?_)
    exact after (tendLine ..) (after (tendLine ..) (after (markSetup ..) (after (regroupGear (by omega) ..)
      (after (setGear hn ..) (abandonEntries ..)))))

theorem deleteGear (hn : 6 ≤ n) (s : State) (i : Nat) : Moves n s (s.deleteGear i) := by
  unfold State.deleteGear
  split
  · exact .refl s
  · exact after (tendLine ..) (after (regroupGear (by omega) ..) (after (setGear hn ..) (abandonEntries ..)))

theorem remarkCurve (s : State) (i : Nat) : Moves n s (s.remarkCurve i) := by
  unfold State.remarkCurve
  split
  · exact .refl s
  · exact ite (fun _ => .refl s) (fun _ => markValue ..)

theorem storeCurve (hn : 6 ≤ n) (s : State) (c : Nat) (p : List Nat) : Moves n s (s.storeCurve c p) :=
  after (tendLines _) (after (forEach _ _ (fun _ _ _ => remarkCurve ..) _) (.curves hn s _ (by simp)))

/-! ### Parameters of the lines -/

theorem lineSound_takeParams {x : GearLine} (r : SetGearLine) (h : LineSound x) : LineSound (x.takeParams r) := by
  obtain ⟨hq, he, h1, h2, h3, h4⟩ := h
  have hh : 8 ≤ newHigh r x ∧ newHigh r x ≤ 31 := by
    unfold newHigh clampOr clamp
    cases r.highWatermark with
    | none => exact ⟨h1, h2⟩
    | some v => simp only [Option.map_some, Option.getD_some]; split <;> [skip; split] <;> omega
  have hl : 1 ≤ newLow r x ∧ newLow r x < newHigh r x := by
    unfold newLow clamp
    split <;> [skip; split] <;> omega
  exact ⟨hq, he, hh.1, hh.2, hl.1, hl.2⟩

theorem lineSound_toDefaults {x : GearLine} (h : LineSound x) : LineSound x.toDefaults :=
  ⟨queueSound_map (q := x.queue.filter Entry.attempting) (fun e he => ⟨rfl, rfl, rfl, fun _ =>
      h.1.2.2.1 e (List.mem_filter.mp he).1 (.inl (List.mem_filter.mp he).2)⟩) (queueSound_filter _ h.1),
    fun hu => by simp [GearLine.toDefaults, h.2.1 hu], by simp [GearLine.toDefaults]⟩

theorem setGearLineParams (hn : 6 ≤ n) (s : State) (r : SetGearLine) : Moves n s (s.setGearLineParams r) := by
  unfold State.setGearLineParams
  dsimp only
  exact after (tendLine ..) (after (highCheck ..) (modLineDef hn s _ fun _ h => lineSound_takeParams r h))

theorem controlLine (hn : 6 ≤ n) (s : State) (l : Nat) (a : LineAction) : Moves n s (s.controlLine l a) := by
  unfold State.controlLine
  split
  · exact after (settledCheck (by omega) _) (after (lineComesUp (by omega) ..) (modLineDef hn s _ fun _ h => h))
  · exact .refl s
  · exact .refl s
  · exact after (settledCheck (by omega) _) (after (lineOut (by omega) ..) (modLineDef hn s _ fun _ h => h))
  · exact .refl s
  · exact .refl s
  · exact after (settledCheck (by omega) _) (lineOut (by omega) ..)
  · exact after (settledCheck (by omega) _) (lineComesUp (by omega) ..)
  · exact .refl s

/-! ### The Image Loader -/

theorem firstOutput (hn : 1 ≤ n) (s : State) : Moves n s s.firstOutput := forEach _ _ (fun _ _ _ => modZone hn ..) s

theorem enterRunning (hn : 5 ≤ n) (s : State) : Moves n s s.enterRunning := by
  unfold State.enterRunning
  dsimp only
  exact after (startScanner (by omega) ..) (after (startScanner (by omega) ..) (after (forEach _ _ (fun _ _ _ => lineComesUp hn ..) _)
    (after (forEach _ _ (fun _ _ _ => resolveHeld (by omega) ..) _) (after (firstOutput (by omega) _)
      (after (forEach _ _ (fun _ _ _ => deriveOccupancy (by omega) ..) _) (modLoader (by omega) ..))))))

theorem latchOutcome (hn : 5 ≤ n) (s : State) (o : LoadOutcome) : Moves n s (s.latchOutcome o) := by
  cases o
  · exact .refl s
  · exact latch ..
  · exact latch ..
  · exact after (latch ..) (latch ..)
  · exact after (latch ..) (latch ..)

theorem endWithDefaults (hn : 5 ≤ n) (s : State) (o : LoadOutcome) : Moves n s (s.endWithDefaults o) :=
  after (enterRunning hn _) (after (latchOutcome hn ..) (modLoader (by omega) ..))

theorem readPage (hn : 4 ≤ n) (s : State) (slot page : Nat) (j : LoadJob) : Moves n s (s.readPage slot page j) := modLoader (by omega) ..

theorem chooseSlot (hn : 5 ≤ n) (s : State) (j : LoadJob) : Moves n s (s.chooseSlot j) := by
  unfold State.chooseSlot
  split
  · exact endWithDefaults hn ..
  · exact readPage (by omega) ..

theorem headerFound (hn : 5 ≤ n) (s : State) (f : SlotFinding) (j : LoadJob) : Moves n s (s.headerFound f j) := by
  unfold State.headerFound
  exact ite (fun _ => readPage (by omega) ..) (fun _ => chooseSlot hn ..)

theorem slotDamaged (hn : 5 ≤ n) (s : State) (j : LoadJob) : Moves n s (s.slotDamaged j) := by
  unfold State.slotDamaged
  split
  · exact endWithDefaults hn ..
  · exact readPage (by omega) ..

theorem pageUnreadable (hn : 5 ≤ n) (s : State) (a : Bool) (j : LoadJob) : Moves n s (s.pageUnreadable a j) := by
  unfold State.pageUnreadable
  exact ite (fun _ => headerFound hn ..) (fun _ => slotDamaged hn ..)

theorem pageFailed (hn : 5 ≤ n) (s : State) (a : Bool) (j : LoadJob) : Moves n s (s.pageFailed a j) := by
  unfold State.pageFailed
  exact ite (fun _ => modLoader (by omega) ..) (fun _ => pageUnreadable hn ..)

/-- The zones of an image whose records pass their checks have legal levels. -/
theorem zoneLegal_image {r : ZoneImage} {x : Zone} (hr : r.ok = true) (hx : r.zone = some x) : ZoneLegal x := by
  unfold ZoneImage.zone zoneDefOf at hx
  unfold ZoneImage.ok at hr
  cases hb : Band.ofCode r.fields.band with
  | none => simp [hb] at hx
  | some band =>
    simp only [hb, Option.map_some, Option.some.injEq] at hx
    subst hx
    have hf : zoneFieldsOk r.fields.fields = true := by
      simp only [Bool.and_eq_true] at hr; exact hr.1.1.2
    exact zoneLegal_congr (zoneLegal_fresh false (defLegal_withFields hf (defLegal_defaults ..))) rfl rfl rfl rfl

theorem some_mem_tableOf {α : Type} {k : Nat} {l : List (Nat × α)} {x : α} (h : some x ∈ tableOf k l) :
    ∃ i, (i, x) ∈ l := by
  unfold tableOf at h
  obtain ⟨i, _, hi⟩ := List.mem_map.mp h
  rw [Option.map_eq_some_iff] at hi
  obtain ⟨⟨j, y⟩, hy, rfl⟩ := hi
  exact ⟨j, List.mem_of_find?_eq_some hy⟩

theorem withImage (hn : 6 ≤ n) (s : State) {m : RawImage} (hm : m.recordsOk = true) : Moves n s (s.withImage m) := by
  simp only [RawImage.recordsOk, Bool.and_eq_true] at hm
  obtain ⟨⟨⟨⟨⟨⟨⟨⟨⟨⟨⟨⟨⟨⟨⟨⟨⟨⟨⟨⟨_, _⟩, _⟩, hz⟩, hseg⟩, _⟩, _⟩, _⟩, hcur⟩, _⟩, hsl⟩, _⟩, hgl⟩, _⟩, _⟩, hpro⟩, _⟩, _⟩, _⟩, hocc⟩, _⟩ := hm
  have len : ∀ {α : Type} {k : Nat} {l : List α} {f : α → Nat}, indicesAll k (l.map f) = true → l.length = k := by
    intro α k l f h
    have := congrArg List.length (of_decide_eq_true h); simpa using this
  unfold State.withImage
  refine .trans (.sensorsDef hn s (tableOf Config.nSensors (entries m.sensors (fun x => x.fields.index) SensorImage.sensor))
    fun _ => by simp [tableOf]) ?_
  refine .trans (.zonesDef hn _ (tableOf Config.nZones (entries m.zones (fun x => x.fields.index) ZoneImage.zone))
    (fun _ => by simp [tableOf]) fun _ x hx => ?_) ?_
  · obtain ⟨i, hi⟩ := some_mem_tableOf hx
    unfold entries at hi
    obtain ⟨r, hr, hx'⟩ := List.mem_filterMap.mp hi
    rw [Option.map_eq_some_iff] at hx'
    obtain ⟨y, hy, e⟩ := hx'
    cases e
    exact zoneLegal_image (List.all_eq_true.mp hz r hr) hy
  refine .trans (.segmentsDef hn _ (m.segments.map fun r => Segment.atReset (requestedSegment r))
    fun _ => by rw [List.length_map]; exact len hseg) ?_
  refine .trans (.gearDef hn _ (tableOf Config.nGear (entries m.gear (fun x => x.index)
    fun r => (requestedGear r).map Gear.fresh)) fun _ => by simp [tableOf]) ?_
  refine .trans (.curves hn _ (m.curves.map Prod.snd) fun _ => by rw [List.length_map]; exact len hcur) ?_
  refine .trans (.sensorLinesDef hn _ ((s.sensorLines.zip m.sensorLines).map fun p => p.1.takeParams p.2)
    fun (h : s.sensorLines.length = _) => by simp only [List.length_map, List.length_zip, len hsl, h, min_self]) ?_
  refine .trans (.linesDef hn _ ((s.gearLines.zip m.gearLines).map fun p =>
    { (p.1.takeParams p.2.1) with enabled := flagOr true (some p.2.2) })
    (fun (h : s.gearLines.length = _) => by simp only [List.length_map, List.length_zip, len hgl, h, min_self]) fun hs x hx => ?_) ?_
  · obtain ⟨p, hp, rfl⟩ := List.mem_map.mp hx
    exact lineSound_takeParams p.2.1 (hs p.1 (List.of_mem_zip hp).1)
  refine .trans (.shadeQuery hn _ m.shadeQuery) ?_
  refine .trans (.profiles hn _ (m.profiles.map fun p => ⟨p.2.1, p.2.2⟩)
    fun _ => by rw [List.length_map]; exact len hpro) ?_
  refine .trans (.periods hn _ (tableOf Config.nPeriods (m.periods.map fun r => (r.index, requestedPeriod r)))
    fun _ => by simp [tableOf]) ?_
  exact .trans (.occDef hn _ ((s.occ.zip m.occ).map fun p => { p.1 with delay := p.2.2 })
    fun (h : s.occ.length = _) => by simp only [List.length_map, List.length_zip, len hocc, h, min_self]) (.refl _)

theorem bodyRead (hn : 6 ≤ n) (s : State) (j : LoadJob) (g c : Nat) (l : List Byte) : Moves n s (s.bodyRead j g c l) := by
  unfold State.bodyRead
  refine ite (fun _ => slotDamaged (by omega) ..) (fun _ => ?_)
  split
  · exact slotDamaged (by omega) ..
  · next m hm =>
    unfold imageOf at hm
    split at hm
    · split at hm
      · next h =>
        cases hm
        simp only [Bool.and_eq_true] at h
        exact after (enterRunning (by omega) _) (after (latchOutcome (by omega) ..) (after (modLoader (by omega) ..) (withImage hn s h.1)))
      · cases hm
    · cases hm

theorem pageRead (hn : 6 ≤ n) (s : State) (l : List Byte) (j : LoadJob) : Moves n s (s.pageRead l j) := by
  unfold State.pageRead
  refine ite (fun _ => headerFound (by omega) ..) (fun _ => ?_)
  split
  · dsimp only
    exact ite (fun _ => bodyRead hn ..) (fun _ => readPage (by omega) ..)
  · exact slotDamaged (by omega) ..

theorem modSave (hn : 4 ≤ n) (s : State) (f : SaveJob → SaveJob) : Moves n s (s.modSave f) := modLoader (by omega) ..

theorem endSave (hn : 4 ≤ n) (s : State) (r : SaveReport) : Moves n s (s.endSave r) :=
  after (latch ..) (after (releaseSL0 hn _) (modLoader (by omega) ..))

theorem saveSucceeds (hn : 4 ≤ n) (s : State) (j : SaveJob) : Moves n s (s.saveSucceeds j) :=
  after (endSave hn ..) (modLoader (by omega) ..)

theorem saveFailed (hn : 4 ≤ n) (s : State) (a : Bool) (c : SaveFailure) (j : SaveJob) : Moves n s (s.saveFailed a c j) := by
  unfold State.saveFailed
  dsimp only
  exact ite (fun _ => modSave hn ..) (fun _ => after (latch ..) (endSave hn ..))

theorem pageVerified (hn : 4 ≤ n) (s : State) (j : SaveJob) : Moves n s (s.pageVerified j) := by
  unfold State.pageVerified
  exact ite (fun _ => modSave hn ..) (fun _ => saveSucceeds hn ..)

theorem requestSL0 (hn : 4 ≤ n) (s : State) : Moves n s s.requestSL0 := by
  unfold State.requestSL0
  exact ite (fun _ => grantSL0 hn _) (fun _ => .refl s)

theorem defaultLine (hn : 6 ≤ n) (s : State) (l : Nat) : Moves n s (s.defaultLine l) := by
  unfold State.defaultLine
  dsimp only
  exact after (ite (fun _ => lineComesUp (by omega) ..) (fun _ => .refl _)) (after (tendLine ..) (after (highCheck ..)
    (modLineDef hn s _ fun _ h => lineSound_toDefaults h)))

theorem defaultTables (hn : 6 ≤ n) (s : State) : Moves n s s.defaultTables := by
  unfold State.defaultTables
  refine .trans (.sensorsDef hn s (List.replicate Config.nSensors none) fun _ => by simp) ?_
  refine .trans (.sensorLinesDef hn _ (s.sensorLines.map SensorLine.toDefaults) fun h => by simpa using h) ?_
  refine .trans (.zonesDef hn _ (List.replicate Config.nZones none) (fun _ => by simp) fun _ x hx => by simp at hx) ?_
  refine .trans (.segmentsDef hn _ (List.replicate Config.nSegments (Segment.atReset SegmentDef.factory))
    fun _ => by simp) ?_
  refine .trans (.gearDef hn _ (List.replicate Config.nGear none) fun _ => by simp) ?_
  refine .trans (.curves hn _ (List.replicate Config.nCurves factoryCurve) fun _ => by simp) ?_
  refine .trans (.calResults (by omega) _ (List.replicate Config.nZones CalResult.empty) fun _ => by simp) ?_
  refine .trans (.sweep (by omega) _ { s.sweep with lastOutcome := .none }) ?_
  refine .trans (.shadeQuery hn _ 2) ?_
  refine .trans (.profiles hn _ (List.replicate Config.nProfiles Profile.factory) fun _ => by simp) ?_
  refine .trans (.periods hn _ (List.replicate Config.nPeriods none) fun _ => by simp) ?_
  exact .trans (.occDef hn _ (s.occ.map fun o => { o with delay := 15 })
    fun (h : s.occ.length = _) => by simpa using h) (.refl _)

theorem loadDefaults (hn : 6 ≤ n) (s : State) :
    Moves n s ((Sys2Proof.Machine.forEach (List.range Config.nGearLines) State.defaultLine s.defaultTables).latch
      .configDefaults) :=
  after (latch ..) (after (forEach _ _ (fun _ _ _ => defaultLine hn ..) _) (defaultTables hn s))

end Moves

end Sys2Proof.Machine
end

