-- ==== Sys2Proof/Laws/ServeMoves.lean ====
section
/-! SUPPORT. What a request's service can do, whatever the kind, and what a refused request leaves. -/

namespace Sys2Proof.Machine

set_option Elab.async false

open Sys2Proof.Safety

/-- What a service makes of a state: a move, and a result other than OK and ADJUSTED is a refusal that changes nothing. -/
def SoundAt (s : State) (r : Served) : Prop :=
  Moves 7 s r.state ∧ (r.result ≠ .ok → r.result ≠ .adjusted → r = refused r.result s)

/-- A service that is sound in every state. -/
def Sound (f : State → Served) : Prop := ∀ s, SoundAt s (f s)

theorem sound_refused (r : Result) : Sound (refused r) := fun s => ⟨.refl s, fun _ _ => rfl⟩

theorem soundAt_ok {s t : State} {fields : List Byte} (h : Moves 7 s t) : SoundAt s (accepted fields t) :=
  ⟨h, fun e => absurd rfl e⟩

theorem soundAt_as {s t : State} {a : Bool} {fields : List Byte} (h : Moves 7 s t) : SoundAt s (acceptedAs a fields t) := by
  refine ⟨h, ?_⟩
  cases a
  · exact fun e => absurd rfl e
  · exact fun _ e => absurd rfl e

theorem soundAt_checked {s : State} {checks : List (Bool × Result)} {carry : Served}
    (h : (∀ c ∈ checks, c.1 = true) → SoundAt s carry) : SoundAt s (checked checks s carry) := by
  rcases checked_cases checks s carry with ⟨r, e⟩ | ⟨hc, e⟩
  · rw [e]; exact sound_refused r s
  · rw [e]; exact h hc

theorem sound_whenRunning {f : State → Served} (h : Sound f) : Sound (whenRunning f) := by
  intro s
  unfold whenRunning
  split
  · exact h s
  · exact sound_refused _ s

/-! ### Chapter 1 -/

theorem sound_defineSensor (r : DefineSensor) : Sound (serveDefineSensor r) := by
  intro s
  unfold serveDefineSensor
  split
  · exact soundAt_checked fun _ => sound_refused _ s
  · exact soundAt_checked fun _ => soundAt_as (Moves.storeSensor (by omega) ..)

theorem sound_setSensor (r : SetSensor) : Sound (serveSetSensor r) := by
  refine fun s => soundAt_checked fun _ => soundAt_as ?_
  split
  · exact Moves.storeSensor (by omega) ..
  · exact .refl s

theorem sound_deleteSensor (i : Nat) : Sound (serveDeleteSensor i) := fun _ =>
  soundAt_checked fun _ => soundAt_ok (.after (Moves.discardTxn (by omega) ..) (Moves.setSensor (by omega) ..))

theorem sound_defineZone (r : DefineZone) : Sound (serveDefineZone r) := by
  intro s
  unfold serveDefineZone
  split
  · exact soundAt_checked fun _ => sound_refused _ s
  · next band _ =>
    refine soundAt_checked fun hc => soundAt_as ?_
    have hf : zoneFieldsOk r.fields = true := by
      have := hc (decide (r.segment < Config.nSegments) && zoneFieldsOk r.fields, .outOfRange) (by simp)
      simp only [Bool.and_eq_true] at this
      exact this.2
    have hd := defLegal_withFields hf (defLegal_defaults r.segment band)
    exact Moves.storeZone (by omega) s _ (fun _ => hd) (fun _ => hd)

theorem sound_setZone (r : SetZone) : Sound (serveSetZone r) := by
  refine fun s => soundAt_checked fun hc => ?_
  split
  · exact sound_refused _ s
  · next x hx =>
    have hf : zoneFieldsOk r.fields = true := hc (zoneFieldsOk r.fields, .outOfRange) (by simp)
    exact soundAt_as (Moves.storeZone (by omega) s _ (fun h => defLegal_withFields hf (defLegal_of_legal (h x hx)))
      (fun h => by rw [hx] at h; cases h))

theorem sound_deleteZone (z : Nat) : Sound (serveDeleteZone z) := fun _ =>
  soundAt_checked fun _ => soundAt_ok (Moves.deleteZone (by omega) ..)

theorem sound_defineSegment (r : DefineSegment) : Sound (serveDefineSegment r) := fun _ =>
  soundAt_checked fun _ => soundAt_ok (Moves.storeSegment (by omega) ..)

theorem sound_defineGear (r : DefineGear) : Sound (serveDefineGear r) := by
  intro s
  unfold serveDefineGear
  split
  · exact soundAt_checked fun _ => sound_refused _ s
  · exact soundAt_checked fun _ => soundAt_ok (Moves.storeGear (by omega) ..)

theorem sound_deleteGear (i : Nat) : Sound (serveDeleteGear i) := fun _ =>
  soundAt_checked fun _ => soundAt_ok (Moves.deleteGear (by omega) ..)

theorem sound_defineCurve (c : Nat) (p : List Nat) : Sound (serveDefineCurve c p) := fun _ =>
  soundAt_checked fun _ => soundAt_ok (Moves.storeCurve (by omega) ..)

theorem sound_readSensorDef (i : Nat) : Sound (serveReadSensorDef i) := fun s =>
  soundAt_checked fun _ => soundAt_ok (.refl s)
theorem sound_readZoneDef (i : Nat) : Sound (serveReadZoneDef i) := fun s =>
  soundAt_checked fun _ => soundAt_ok (.refl s)
theorem sound_readSegmentDef (i : Nat) : Sound (serveReadSegmentDef i) := fun s =>
  soundAt_checked fun _ => soundAt_ok (.refl s)
theorem sound_readGearDef (i : Nat) : Sound (serveReadGearDef i) := fun s =>
  soundAt_checked fun _ => soundAt_ok (.refl s)
theorem sound_readCurve (i : Nat) : Sound (serveReadCurve i) := fun s =>
  soundAt_checked fun _ => soundAt_ok (.refl s)

/-! ### Chapters 2 to 4 -/

theorem sound_setSensorLine (r : SetSensorLine) : Sound (serveSetSensorLine r) := fun s =>
  soundAt_checked fun _ => soundAt_ok (.sensorLinesDef (by omega) s _ (by simp))

theorem sound_readSensorLine (l : Nat) : Sound (serveReadSensorLine l) := fun s =>
  soundAt_checked fun _ => soundAt_ok (.refl s)
theorem sound_readSensor (i : Nat) : Sound (serveReadSensor i) := fun s =>
  soundAt_checked fun _ => soundAt_ok (.refl s)

theorem sound_writeContrib (r : WriteContrib) : Sound (serveWriteContrib r) := fun _ =>
  soundAt_checked fun _ => soundAt_ok (Moves.modSensor (by omega) ..)

theorem sound_readContrib (i : Nat) : Sound (serveReadContrib i) := fun s =>
  soundAt_checked fun _ => soundAt_ok (.refl s)
theorem sound_readProfile (z : Nat) : Sound (serveReadProfile z) := fun s =>
  soundAt_checked fun _ => soundAt_ok (.refl s)

theorem sound_overrideZone (z l d : Nat) : Sound (serveOverrideZone z l d) := by
  refine fun s => soundAt_checked fun hc => soundAt_as (Moves.override (by omega) s z l d ?_)
  have := hc (decide (l ≤ 1000) && decide (d ≤ 1440), .outOfRange) (by simp)
  simp only [Bool.and_eq_true, decide_eq_true_eq] at this
  exact this.1

theorem sound_releaseZone (z : Nat) : Sound (serveReleaseZone z) := fun s =>
  soundAt_checked fun _ => soundAt_ok (.ite (fun _ => Moves.endOverride (by omega) ..) (fun _ => .refl s))

theorem sound_readZone (z : Nat) : Sound (serveReadZone z) := fun s =>
  soundAt_checked fun _ => soundAt_ok (.refl s)

/-! ### Chapters 5 to 7 -/

theorem sound_startCalibration (r : StartCalibration) : Sound (serveStartCalibration r) := fun _ =>
  soundAt_checked fun _ => soundAt_ok (Moves.startSweep (by omega) ..)

theorem sound_abortCalibration : Sound serveAbortCalibration := fun s => soundAt_ok (.ite (fun _ => Moves.abortSweep (by omega) ..) (fun _ => .refl s))

theorem sound_readCalibration (f c : Nat) (z : Option Nat) : Sound (serveReadCalibration f c z) := by
  cases z
  · exact fun s => soundAt_checked fun _ => soundAt_ok (.refl s)
  · exact fun s => soundAt_checked fun _ => soundAt_ok (.refl s)

theorem sound_setGearLine (r : SetGearLine) : Sound (serveSetGearLine r) := fun _ =>
  soundAt_checked fun _ => soundAt_as (Moves.setGearLineParams (by omega) ..)

theorem sound_lineControl (l : Nat) (a : LineAction) : Sound (serveLineControl l a) := fun _ =>
  soundAt_checked fun _ => soundAt_ok (Moves.controlLine (by omega) ..)

theorem sound_readGearLine (l f c : Nat) : Sound (serveReadGearLine l f c) := fun s =>
  soundAt_checked fun _ => soundAt_ok (.refl s)
theorem sound_readGear (i : Nat) : Sound (serveReadGear i) := fun s =>
  soundAt_checked fun _ => soundAt_ok (.refl s)

theorem sound_shadeCommand (seg : Nat) (a : Option ShadeAction) (p d : Nat) : Sound (serveShadeCommand seg a p d) := by
  refine fun s => soundAt_checked fun _ => ?_
  cases a
  · exact sound_refused _ s
  · exact soundAt_ok (Moves.shadeAct (by omega) ..)

theorem sound_clearShadeFault (seg : Nat) : Sound (serveClearShadeFault seg) := fun _ =>
  soundAt_checked fun _ => soundAt_ok (Moves.clearShadeFault (by omega) ..)

theorem sound_setShadeQuery (i : Nat) : Sound (serveSetShadeQuery i) := fun s =>
  soundAt_checked fun _ => soundAt_ok (.shadeQuery (by omega) s _)

theorem sound_readShade (seg : Nat) : Sound (serveReadShade seg) := fun s =>
  soundAt_checked fun _ => soundAt_ok (.refl s)

/-! ### Chapters 8 and 9 -/

theorem sound_setClock (r : SetClock) : Sound (serveSetClock r) := fun _ =>
  soundAt_checked fun _ => soundAt_ok (.after (Moves.clearAccumulators (by omega) _) (Moves.modClock (by omega) ..))

theorem sound_getClock : Sound serveGetClock := fun s => soundAt_ok (.refl s)

theorem sound_setProfileDefaults (p : Nat) (a b : Option Nat) : Sound (serveSetProfileDefaults p a b) := fun s =>
  soundAt_checked fun _ => soundAt_as (.profiles (by omega) s _ (by simp))

theorem sound_definePeriod (r : DefinePeriod) : Sound (serveDefinePeriod r) := fun s =>
  soundAt_checked fun _ => soundAt_as (.periods (by omega) s _ (by simp))

theorem sound_deletePeriod (i : Nat) : Sound (serveDeletePeriod i) := fun s =>
  soundAt_checked fun _ => soundAt_ok (.periods (by omega) s _ (by simp))

theorem sound_readSchedule (p : Nat) : Sound (serveReadSchedule p) := fun s =>
  soundAt_checked fun _ => soundAt_ok (.refl s)

theorem sound_setOccInput (i d : Nat) : Sound (serveSetOccInput i d) := fun s =>
  soundAt_checked fun _ => soundAt_ok (.occDef (by omega) s _ (by simp))

theorem sound_readOccupancy (f c : Nat) : Sound (serveReadOccupancy f c) := fun s =>
  soundAt_checked fun _ => soundAt_ok (.refl s)

theorem countersInRange_zero : CountersInRange Counters.zero := by
  intro k
  cases k <;> simp [Counters.get, Counters.zone, Counters.line, Counters.shade, Counters.zero,
    List.getD_eq_getElem?_getD, List.getElem?_replicate] <;> split <;> simp

theorem Moves.takeSnapshot (c : Bool) (s : State) : Moves 7 s (s.takeSnapshot c) := by
  unfold State.takeSnapshot
  refine .trans (.shadow (by omega) s s.live { snapshotTick := some s.tick, sinceTick := some s.liveSince, cleared := c }
    (if c then s.tick else s.liveSince) fun h _ => h) ?_
  refine .trans (.liveClear (by omega) _ (if c then Counters.zero else s.live) fun h => ?_) (.refl _)
  cases c
  · exact h
  · exact countersInRange_zero

theorem sound_snapshot (c : Nat) : Sound (serveSnapshot c) := by
  intro s
  unfold serveSnapshot
  split
  · exact sound_refused _ s
  · exact soundAt_ok (Moves.takeSnapshot _ s)

theorem sound_readCounters (a g f c : Nat) : Sound (serveReadCounters a g f c) := by
  intro s
  unfold serveReadCounters
  split
  · exact sound_refused _ s
  · exact soundAt_checked fun _ => soundAt_ok (.refl s)

/-! ### Chapters 10 and 11 -/

theorem sound_identify : Sound serveIdentify := fun s => soundAt_ok (.refl s)
theorem sound_getStatus : Sound serveGetStatus := fun s => soundAt_ok (.refl s)

theorem Moves.clearFlags (w : Word16) (s : State) : Moves 7 s (s.clearFlags w) := by
  unfold State.clearFlags
  dsimp only
  exact .after (.ite (fun _ => .occ (by omega) _ _ (by simp [List.map_map, Function.comp_def])) (fun _ => .refl _))
    (.flagSets (by omega) s _ _)

theorem sound_clearFlags (w : Word16) : Sound (serveClearFlags w) := fun s => soundAt_ok (Moves.clearFlags w s)
theorem sound_setFlagEnables (w : Word16) : Sound (serveSetFlagEnables w) := fun s => soundAt_ok (.flagSets (by omega) s _ _)
theorem sound_restart : Sound serveRestart := fun s => soundAt_ok (.refl s)

theorem sound_saveConfig : Sound serveSaveConfig := fun _ =>
  soundAt_checked fun _ => soundAt_ok (.after (Moves.requestSL0 (by omega) _) (Moves.modLoader (by omega) ..))

theorem sound_loadDefaults : Sound serveLoadDefaults := fun _ =>
  soundAt_checked fun _ => soundAt_ok (Moves.loadDefaults (by omega) _)

/-! ### The catalogue -/

theorem sound_serve0 {f g : State → Served} {l : List Byte} (hf : Sound f) (h : serve0 f l = some g) : Sound g := by
  unfold serve0 at h; split at h
  · cases h; exact hf
  · cases h

theorem sound_serveBy {α : Type} {r : Reader α} {f : α → State → Served} {g : State → Served} {l : List Byte}
    (hf : ∀ a, Sound (f a)) (h : serveBy r f l = some g) : Sound g := by
  unfold serveBy at h
  rw [Option.map_eq_some_iff] at h
  obtain ⟨a, _, rfl⟩ := h
  exact hf a

theorem sound_lineFields {g : State → Served} {l : List Byte} (h : serveLineFields l = some g) : Sound g := by
  refine sound_serveBy (fun p s => ?_) h
  split
  · exact sound_lineControl _ _ s
  · exact sound_refused _ s

/-- The service of every kind is sound. -/
theorem sound_serviceOf {k : Kind} {l : List Byte} {f : State → Served} (h : serviceOf k l = some f) : Sound f := by
  cases k
  case identify => exact sound_serve0 sound_identify h
  case getStatus => exact sound_serve0 sound_getStatus h
  case clearFlags => exact sound_serveBy (fun _ => sound_clearFlags _) h
  case setFlagEnables => exact sound_serveBy (fun _ => sound_setFlagEnables _) h
  case restart => exact sound_serve0 sound_restart h
  case saveConfig => exact sound_serve0 sound_saveConfig h
  case loadDefaults => exact sound_serve0 sound_loadDefaults h
  case defineSensor => exact sound_serveBy sound_defineSensor h
  case setSensor => exact sound_serveBy sound_setSensor h
  case deleteSensor => exact sound_serveBy sound_deleteSensor h
  case defineZone => exact sound_serveBy sound_defineZone h
  case setZone => exact sound_serveBy sound_setZone h
  case deleteZone => exact sound_serveBy sound_deleteZone h
  case defineSegment => exact sound_serveBy sound_defineSegment h
  case defineGear => exact sound_serveBy sound_defineGear h
  case deleteGear => exact sound_serveBy sound_deleteGear h
  case defineCurve => exact sound_serveBy (fun _ => sound_defineCurve _ _) h
  case readSensorDef => exact sound_serveBy sound_readSensorDef h
  case readZoneDef => exact sound_serveBy sound_readZoneDef h
  case readSegmentDef => exact sound_serveBy sound_readSegmentDef h
  case readGearDef => exact sound_serveBy sound_readGearDef h
  case readCurve => exact sound_serveBy sound_readCurve h
  case setSensorLine => exact sound_serveBy sound_setSensorLine h
  case readSensorLine => exact sound_serveBy sound_readSensorLine h
  case readSensor => exact sound_serveBy sound_readSensor h
  case writeContrib => exact sound_serveBy sound_writeContrib h
  case readContrib => exact sound_serveBy sound_readContrib h
  case readProfile => exact sound_serveBy sound_readProfile h
  case overrideZone => exact sound_serveBy (fun _ => sound_overrideZone _ _ _) h
  case releaseZone => exact sound_serveBy sound_releaseZone h
  case readZone => exact sound_serveBy sound_readZone h
  case startCalibration => exact sound_serveBy sound_startCalibration h
  case abortCalibration => exact sound_serve0 sound_abortCalibration h
  case readCalibration => exact sound_serveBy (fun _ => sound_readCalibration _ _ _) h
  case setGearLine => exact sound_serveBy sound_setGearLine h
  case lineControl => exact sound_lineFields h
  case readGearLine => exact sound_serveBy (fun _ => sound_readGearLine _ _ _) h
  case readGear => exact sound_serveBy sound_readGear h
  case shadeCommand => exact sound_serveBy (fun _ => sound_shadeCommand _ _ _ _) h
  case clearShadeFault => exact sound_serveBy sound_clearShadeFault h
  case setShadeQuery => exact sound_serveBy sound_setShadeQuery h
  case readShade => exact sound_serveBy sound_readShade h
  case setClock => exact sound_serveBy sound_setClock h
  case getClock => exact sound_serve0 sound_getClock h
  case setProfileDefaults => exact sound_serveBy (fun _ => sound_setProfileDefaults _ _ _) h
  case definePeriod => exact sound_serveBy sound_definePeriod h
  case deletePeriod => exact sound_serveBy sound_deletePeriod h
  case readSchedule => exact sound_serveBy sound_readSchedule h
  case setOccInput => exact sound_serveBy (fun _ => sound_setOccInput _ _) h
  case readOccupancy => exact sound_serveBy (fun _ => sound_readOccupancy _ _) h
  case snapshot => exact sound_serveBy sound_snapshot h
  case readCounters => exact sound_serveBy (fun _ => sound_readCounters _ _ _ _) h

/-- The port's checks and the service of a request are sound. -/
theorem sound_serveRequest (kind : Byte) (payload : List Byte) : Sound (serveRequest kind payload) := by
  intro s
  unfold serveRequest
  split
  · exact sound_refused _ s
  · split
    · exact sound_refused _ s
    · next h =>
      split
      · exact sound_serviceOf h s
      · exact sound_whenRunning (sound_serviceOf h) s

end Sys2Proof.Machine
end

