-- ==== Sys2Proof/Laws/PortMoves.lean ====
section
/-! SUPPORT. What the Building Link Port's operations can do, and the form of a request command's outcome. -/

namespace Sys2Proof.Machine

set_option Elab.async false

open Sys2Proof.Safety

namespace Moves

theorem pushReply (s : State) (r : Reply) (h : r.isBusy = false) : Moves 7 s (s.pushReply r) := by
  refine .port (by omega) s _ _ fun hp => ⟨hp.1, ?_⟩
  have : (({ s.port with replies := s.port.replies ++ [r] } : Port)).busyList = s.port.busyList := by
    simp [Port.busyList, List.filter_append, h]
  rw [this]; exact hp.2

theorem pushBusy (s : State) (r : Reply) (h : s.port.busyList.length < Config.requestQueueCap) :
    Moves 7 s (s.pushReply r) := by
  refine .port (by omega) s _ _ fun hp => ⟨hp.1, ?_⟩
  have hl : ({ s.port with replies := s.port.replies ++ [r] } : Port).busyList.length ≤ s.port.busyList.length + 1 := by
    simp only [Port.busyList, List.filter_append, List.length_append]
    have := List.length_filter_le Reply.isBusy [r]
    simp only [List.length_singleton] at this
    omega
  exact hl.trans h

theorem answer (s : State) (o : ReplyOrigin) (k tag : Byte) {r : Served} (ho : o ≠ .busy) (h : Moves 7 s r.state) :
    Moves 7 s (reply o k tag r) :=
  after (pushReply _ _ (by simp [Reply.isBusy, ho])) h

/-- A request command's outcome: the service's move and then the reply. -/
theorem direct (s : State) (k : Kind) (tag : Byte) {f : State → Served} (h : Sound f) :
    Moves 7 s (reply .direct k.code tag (f s)) := answer s _ _ _ (by decide) (h s).1

theorem markExecuted (s : State) : Moves 7 s (s.modPort Port.markExecuted) :=
  modPort (by omega) s fun h => ⟨by simpa [Port.markExecuted] using h.1, h.2⟩

theorem executeHead (s : State) : Moves 7 s s.executeHead := by
  unfold State.executeHead
  refine ite (fun _ => ?_) (fun _ => .refl s)
  split
  · exact .refl s
  · exact .trans (markExecuted s) (answer _ _ _ _ (by decide) (sound_serveRequest _ _ _).1)

theorem hunt (s : State) : Moves 7 s (s.modPort fun p => { p with rx := .hunt }) := modPort (by omega) s fun h => h

theorem discardFrame (s : State) : Moves 7 s s.discardFrame := after (latch ..) (after (count ..) (hunt s))

theorem takeFrame (s : State) (k tag : Byte) (l : List Byte) : Moves 7 s (s.takeFrame k tag l) := by
  unfold State.takeFrame
  refine ite (fun h => after (executeHead _) (modPort (by omega) s fun hp => ⟨?_, hp.2⟩)) (fun _ => ?_)
  · simp only [List.length_append, List.length_singleton]; omega
  · exact ite (fun h => after (count ..) (pushBusy s _ h)) (fun _ => discardFrame s)

theorem huntByte (s : State) (x : Byte) : Moves 7 s (s.huntByte x) := by
  unfold State.huntByte
  exact ite (fun _ => modPort (by omega) s fun h => h) (fun _ => .refl s)

theorem takeByte (s : State) (l : List Byte) : Moves 7 s (s.takeByte l) := by
  unfold State.takeByte
  refine ite (fun _ => discardFrame s) (fun _ => ite (fun _ => ?_) (fun _ => modPort (by omega) s fun h => h))
  exact ite (fun _ => after (takeFrame ..) (hunt s)) (fun _ => discardFrame s)

theorem sent (s : State) : Moves 7 s (s.modPort Port.sent) := by
  refine modPort (by omega) s fun h => ?_
  unfold Port.sent
  split
  · exact h
  · next r rest hr =>
    constructor
    · dsimp only; split
      · have := h.1; rw [List.length_tail]; omega
      · exact h.1
    · have := h.2
      unfold Port.busyList at this ⊢
      rw [hr] at this
      exact ((List.sublist_cons_self r rest).filter _).length_le.trans this

end Moves

/-! ### The outcome of every command -/

/-! The events, each with the least rank of its move. -/

theorem exec_startupDelayExpiry (s : State) : ∃ t, exec .startupDelayExpiry s = .next t ∧ Moves 4 s t := by
  refine ⟨_, rfl, ?_⟩
  exact (.ite (fun _ => Moves.modLoader (by omega) ..) (fun _ => .refl s))

theorem exec_savePageWriteEnd (r : MemoryWrite) (s : State) : ∃ t, exec (.savePageWriteEnd r) s = .next t ∧ Moves 4 s t := by
  refine ⟨_, rfl, ?_⟩
  refine ?_
  split
  · exact .refl s
  · split
    · exact Moves.modSave (by omega) ..
    · exact Moves.saveFailed (by omega) ..
    · exact Moves.saveFailed (by omega) ..

theorem exec_ackPollAnswered (s : State) : ∃ t, exec .ackPollAnswered s = .next t ∧ Moves 4 s t := by
  refine ⟨_, rfl, ?_⟩
  refine ?_
  split
  · exact .refl s
  · exact Moves.modSave (by omega) ..

theorem exec_ackPollTimeout (s : State) : ∃ t, exec .ackPollTimeout s = .next t ∧ Moves 4 s t := by
  refine ⟨_, rfl, ?_⟩
  refine ?_
  split
  · exact .refl s
  · exact Moves.saveFailed (by omega) ..

theorem exec_saveReadbackEnd (r : MemoryRead) (s : State) : ∃ t, exec (.saveReadbackEnd r) s = .next t ∧ Moves 4 s t := by
  refine ⟨_, rfl, ?_⟩
  refine ?_
  split
  · exact .refl s
  · split
    · exact .ite (fun _ => Moves.pageVerified (by omega) ..) (fun _ => Moves.saveFailed (by omega) ..)
    · exact Moves.saveFailed (by omega) ..
    · exact Moves.saveFailed (by omega) ..

theorem exec_pollIntervalExpiry (l : Fin 2) (s : State) : ∃ t, exec (.pollIntervalExpiry l) s = .next t ∧ Moves 4 s t := by
  refine ⟨_, rfl, ?_⟩
  refine (.ite (fun _ => ?_) (fun _ => .refl s))
  dsimp only
  refine .trans (t := s.modSensorLine l fun x => { x with interval := none }) (Moves.modSensorLine (by omega) ..) ?_
  split
  · exact Moves.startCycle (by omega) ..
  · exact .after (Moves.latch ..) (Moves.modSensorLine (by omega) ..)
  · exact Moves.modSensorLine (by omega) ..
  · exact .refl _

theorem exec_sensorTransactionEnd (l : Fin 2) (r : Option SensorReply) (s : State) : ∃ t, exec (.sensorTransactionEnd l r) s = .next t ∧ Moves 5 s t := by
  refine ⟨_, rfl, ?_⟩
  exact (Moves.endTxn (by omega) ..)

theorem exec_sensorTransactionTimeout (l : Fin 2) (s : State) : ∃ t, exec (.sensorTransactionTimeout l) s = .next t ∧ Moves 5 s t := by
  refine ⟨_, rfl, ?_⟩
  exact (Moves.endTxn (by omega) ..)

theorem exec_calSettleExpiry (s : State) : ∃ t, exec .calSettleExpiry s = .next t ∧ Moves 3 s t := by
  refine ⟨_, rfl, ?_⟩
  refine (.ite (fun _ => ?_) (fun _ => .refl s))
  split
  · exact Moves.enterRead (by omega) ..
  · exact Moves.enterRead (by omega) ..
  · exact Moves.enterRead (by omega) ..
  · exact .refl s

theorem exec_overrideExpiry (z : Fin 48) (s : State) : ∃ t, exec (.overrideExpiry z) s = .next t ∧ Moves 1 s t := by
  refine ⟨_, rfl, ?_⟩
  exact (.ite (fun _ => Moves.endOverride (by omega) ..) (fun _ => .refl s))

theorem exec_lpwrInputChange (l : Fin 4) (v : Bool) (s : State) : ∃ t, exec (.lpwrInputChange l v) s = .next t ∧ Moves 5 s t := by
  refine ⟨_, rfl, ?_⟩
  exact (.ite (fun _ => .refl s) (fun _ => Moves.modLineRun (by omega) ..))

theorem exec_linePowerChange (l : Fin 4) (s : State) : ∃ t, exec (.linePowerChange l) s = .next t ∧ Moves 5 s t := by
  refine ⟨_, rfl, ?_⟩
  exact (.ite (fun _ => .after (Moves.settledCheck (by omega) _) (Moves.takeSupply (by omega) ..)) (fun _ => .refl s))

theorem exec_startSettleExpiry (l : Fin 4) (s : State) : ∃ t, exec (.startSettleExpiry l) s = .next t ∧ Moves 5 s t := by
  refine ⟨_, rfl, ?_⟩
  exact (.ite (fun _ => Moves.lineUp (by omega) ..) (fun _ => .refl s))

theorem exec_forwardFrameStart (l : Fin 4) (s : State) : ∃ t, exec (.forwardFrameStart l) s = .next t ∧ Moves 5 s t := by
  refine ⟨_, rfl, ?_⟩
  refine ?_
  split
  · exact .ite (fun _ => .after (Moves.countFrame (by omega) ..) (.after (Moves.modLineRun (by omega) ..) (Moves.modHead _ _ fun _ _ => .inl rfl))) (fun _ => .refl s)
  · exact .refl s

theorem exec_groupFrameSent (l : Fin 4) (s : State) : ∃ t, exec (.groupFrameSent l) s = .next t ∧ Moves 3 s t := by
  refine ⟨_, rfl, ?_⟩
  refine ?_
  split
  · exact .ite (fun _ => .after (Moves.afterEvent (by omega) ..) (Moves.popHead ..)) (fun _ => .refl s)
  · exact .refl s

theorem exec_gearAnswerReceived (l : Fin 4) (d : Byte) (st : Byte) (k : Byte) (x : Bool) (s : State) : ∃ t, exec (.gearAnswerReceived l d st k x) s = .next t ∧ Moves 5 s t := by
  refine ⟨_, rfl, ?_⟩
  refine ?_
  split
  · exact .refl s
  · split
    · exact .refl s
    · refine .ite (fun _ => .after (Moves.afterEvent (by omega) ..) (Moves.failHead (by omega) ..)) (fun _ => ?_)
      split
      · exact .after (Moves.afterEvent (by omega) ..) (Moves.failHead (by omega) ..)
      · exact .after (Moves.afterEvent (by omega) ..) (Moves.endAttempt (by omega) ..)

theorem exec_replyWindowEnd (l : Fin 4) (s : State) : ∃ t, exec (.replyWindowEnd l) s = .next t ∧ Moves 5 s t := by
  refine ⟨_, rfl, ?_⟩
  exact (Moves.attemptLost (by omega) ..)

theorem exec_backwardFrameTimeout (l : Fin 4) (s : State) : ∃ t, exec (.backwardFrameTimeout l) s = .next t ∧ Moves 5 s t := by
  refine ⟨_, rfl, ?_⟩
  exact (Moves.attemptLost (by omega) ..)

theorem exec_auditTimerExpiry (l : Fin 4) (s : State) : ∃ t, exec (.auditTimerExpiry l) s = .next t ∧ Moves 5 s t := by
  refine ⟨_, rfl, ?_⟩
  refine (.ite (fun _ => ?_) (fun _ => .refl s))
  dsimp only
  refine .trans (t := s.modGearLine l fun x => { x with audit := s.auditTimer x.auditInterval }) (Moves.modLineRun (by omega) ..) ?_
  exact .ite (fun _ => .refl _) (fun _ => Moves.auditVisit (by omega) ..)

theorem exec_shadeQueryExpiry (g : Fin 16) (s : State) : ∃ t, exec (.shadeQueryExpiry g) s = .next t ∧ Moves 2 s t := by
  refine ⟨_, rfl, ?_⟩
  exact (.ite (fun _ => .after (Moves.modSegment (by omega) ..) (Moves.forEach _ _ (fun _ _ _ => Moves.offerShade ..) s)) (fun _ => .refl s))

theorem exec_travelTimeout (g : Fin 16) (s : State) : ∃ t, exec (.travelTimeout g) s = .next t ∧ Moves 2 s t := by
  refine ⟨_, rfl, ?_⟩
  exact (.ite (fun _ => .after (Moves.faultAndTest (by omega) ..) (Moves.modSegment (by omega) ..)) (fun _ => .refl s))

theorem exec_shadeSettleExpiry (g : Fin 16) (s : State) : ∃ t, exec (.shadeSettleExpiry g) s = .next t ∧ Moves 2 s t := by
  refine ⟨_, rfl, ?_⟩
  exact (.ite (fun _ => Moves.endSettle (by omega) ..) (fun _ => .refl s))

theorem exec_glareTimerExpiry (g : Fin 16) (s : State) : ∃ t, exec (.glareTimerExpiry g) s = .next t ∧ Moves 2 s t := by
  refine ⟨_, rfl, ?_⟩
  exact (.ite (fun _ => Moves.glareExpire (by omega) ..) (fun _ => .refl s))

theorem exec_releaseTimerExpiry (g : Fin 16) (s : State) : ∃ t, exec (.releaseTimerExpiry g) s = .next t ∧ Moves 2 s t := by
  refine ⟨_, rfl, ?_⟩
  exact (.ite (fun _ => Moves.glareExpire (by omega) ..) (fun _ => .refl s))

theorem exec_manualExpiry (g : Fin 16) (s : State) : ∃ t, exec (.manualExpiry g) s = .next t ∧ Moves 2 s t := by
  refine ⟨_, rfl, ?_⟩
  exact (.ite (fun _ => Moves.returnToAuto (by omega) ..) (fun _ => .refl s))

theorem exec_clockSecondAdvance (s : State) : ∃ t, exec .clockSecondAdvance s = .next t ∧ Moves 5 s t := by
  refine ⟨_, rfl, ?_⟩
  exact (.ite (fun _ => .refl s) (fun _ => Moves.advanceClock (by omega) _))

theorem exec_oscillatorStop (s : State) : ∃ t, exec .oscillatorStop s = .next t ∧ Moves 5 s t := by
  refine ⟨_, rfl, ?_⟩
  exact (.ite (fun _ => .refl s) (fun _ => .after (Moves.latch ..) (.after (Moves.invalidateClock (by omega) _) (Moves.modClock (by omega) ..))))

theorem exec_oscillatorResume (s : State) : ∃ t, exec .oscillatorResume s = .next t ∧ Moves 5 s t := by
  refine ⟨_, rfl, ?_⟩
  exact (Moves.modClock (by omega) ..)

theorem exec_occInputChange (i : Fin 8) (v : Bool) (s : State) : ∃ t, exec (.occInputChange i v) s = .next t ∧ Moves 5 s t := by
  refine ⟨_, rfl, ?_⟩
  exact (.ite (fun _ => .refl s) (fun _ => Moves.modOcc (by omega) ..))

theorem exec_occDebounceExpiry (i : Fin 8) (s : State) : ∃ t, exec (.occDebounceExpiry i) s = .next t ∧ Moves 5 s t := by
  refine ⟨_, rfl, ?_⟩
  exact (.ite (fun _ => Moves.takeOccLevel (by omega) ..) (fun _ => .refl s))

theorem exec_vacancyTimerExpiry (z : Fin 48) (s : State) : ∃ t, exec (.vacancyTimerExpiry z) s = .next t ∧ Moves 1 s t := by
  refine ⟨_, rfl, ?_⟩
  refine (Moves.modZone (by omega) s z (fun x => ?_) (fun x _ h => ?_))
  · split <;> rfl
  · split <;> exact h

/-- Every command's outcome but a reset's is a move of rank 7, and an event's is one of rank 5. -/
theorem exec_moves (c : Instr) (s : State) :
    (∃ t, exec c s = .next t ∧ Moves 7 s t ∧ (isEvent c = true → c ≠ .frameDiscarded → c ≠ .frameGapTimeout → Moves 5 s t))
      ∨ ∃ pins clock, exec c s = .next (s.resetWith pins clock) := by
  have five : ∀ {a : Answer} {n : Nat}, (∃ t, a = .next t ∧ Moves n s t) → n ≤ 5 →
      (∃ t, a = .next t ∧ Moves 7 s t ∧ (isEvent c = true → c ≠ .frameDiscarded → c ≠ .frameGapTimeout → Moves 5 s t))
        ∨ ∃ pins clock, a = .next (s.resetWith pins clock) :=
    fun ⟨t, e, h⟩ hn => .inl ⟨t, e, h.mono (by omega), fun _ _ _ => h.mono hn⟩
  have seven : isEvent c = false → ∀ {t : State}, Moves 7 s t → ∃ u, (.next t : Answer) = .next u ∧ Moves 7 s u ∧
      (isEvent c = true → c ≠ .frameDiscarded → c ≠ .frameGapTimeout → Moves 5 s u) :=
    fun e _ h => ⟨_, rfl, h, fun e' => by rw [e] at e'; cases e'⟩
  cases c
  case identify t => exact .inl (seven rfl (Moves.direct s .identify t sound_identify))
  case getStatus t => exact .inl (seven rfl (Moves.direct s .getStatus t sound_getStatus))
  case clearFlags t w => exact .inl (seven rfl (Moves.direct s .clearFlags t (sound_whenRunning (sound_clearFlags w))))
  case setFlagEnables t w =>
    exact .inl (seven rfl (Moves.direct s .setFlagEnables t (sound_whenRunning (sound_setFlagEnables w))))
  case restart t => exact .inl (seven rfl (Moves.direct s .restart t (sound_whenRunning sound_restart)))
  case saveConfig t => exact .inl (seven rfl (Moves.direct s .saveConfig t (sound_whenRunning sound_saveConfig)))
  case loadDefaults t => exact .inl (seven rfl (Moves.direct s .loadDefaults t (sound_whenRunning sound_loadDefaults)))
  case defineSensor t r => exact .inl (seven rfl (Moves.direct s .defineSensor t (sound_whenRunning (sound_defineSensor r))))
  case setSensor t r => exact .inl (seven rfl (Moves.direct s .setSensor t (sound_whenRunning (sound_setSensor r))))
  case deleteSensor t r => exact .inl (seven rfl (Moves.direct s .deleteSensor t (sound_whenRunning (sound_deleteSensor r))))
  case defineZone t r => exact .inl (seven rfl (Moves.direct s .defineZone t (sound_whenRunning (sound_defineZone r))))
  case setZone t r => exact .inl (seven rfl (Moves.direct s .setZone t (sound_whenRunning (sound_setZone r))))
  case deleteZone t r => exact .inl (seven rfl (Moves.direct s .deleteZone t (sound_whenRunning (sound_deleteZone r))))
  case defineSegment t r => exact .inl (seven rfl (Moves.direct s .defineSegment t (sound_whenRunning (sound_defineSegment r))))
  case defineGear t r => exact .inl (seven rfl (Moves.direct s .defineGear t (sound_whenRunning (sound_defineGear r))))
  case deleteGear t r => exact .inl (seven rfl (Moves.direct s .deleteGear t (sound_whenRunning (sound_deleteGear r))))
  case defineCurve t i p =>
    refine .inl (seven rfl (Moves.direct s .defineCurve t (f := fun s =>
      if p.length = 9 then whenRunning (serveDefineCurve i p) s else refused .badLength s) fun s => ?_))
    split
    · exact sound_whenRunning (sound_defineCurve i p) s
    · exact sound_refused _ s
  case readSensorDef t r => exact .inl (seven rfl (Moves.direct s .readSensorDef t (sound_whenRunning (sound_readSensorDef r))))
  case readZoneDef t r => exact .inl (seven rfl (Moves.direct s .readZoneDef t (sound_whenRunning (sound_readZoneDef r))))
  case readSegmentDef t r => exact .inl (seven rfl (Moves.direct s .readSegmentDef t (sound_whenRunning (sound_readSegmentDef r))))
  case readGearDef t r => exact .inl (seven rfl (Moves.direct s .readGearDef t (sound_whenRunning (sound_readGearDef r))))
  case readCurve t r => exact .inl (seven rfl (Moves.direct s .readCurve t (sound_whenRunning (sound_readCurve r))))
  case setSensorLine t r => exact .inl (seven rfl (Moves.direct s .setSensorLine t (sound_whenRunning (sound_setSensorLine r))))
  case readSensorLine t r => exact .inl (seven rfl (Moves.direct s .readSensorLine t (sound_whenRunning (sound_readSensorLine r))))
  case readSensor t r => exact .inl (seven rfl (Moves.direct s .readSensor t (sound_whenRunning (sound_readSensor r))))
  case writeContrib t r => exact .inl (seven rfl (Moves.direct s .writeContrib t (sound_whenRunning (sound_writeContrib r))))
  case readContrib t r => exact .inl (seven rfl (Moves.direct s .readContrib t (sound_whenRunning (sound_readContrib r))))
  case readProfile t r => exact .inl (seven rfl (Moves.direct s .readProfile t (sound_whenRunning (sound_readProfile r))))
  case overrideZone t z l d =>
    exact .inl (seven rfl (Moves.direct s .overrideZone t (sound_whenRunning (sound_overrideZone z l d))))
  case releaseZone t r => exact .inl (seven rfl (Moves.direct s .releaseZone t (sound_whenRunning (sound_releaseZone r))))
  case readZone t r => exact .inl (seven rfl (Moves.direct s .readZone t (sound_whenRunning (sound_readZone r))))
  case startCalibration t r =>
    exact .inl (seven rfl (Moves.direct s .startCalibration t (sound_whenRunning (sound_startCalibration r))))
  case abortCalibration t => exact .inl (seven rfl (Moves.direct s .abortCalibration t (sound_whenRunning sound_abortCalibration)))
  case readCalibration t f k z =>
    exact .inl (seven rfl (Moves.direct s .readCalibration t (sound_whenRunning (sound_readCalibration f k z))))
  case setGearLine t r => exact .inl (seven rfl (Moves.direct s .setGearLine t (sound_whenRunning (sound_setGearLine r))))
  case lineControlEnable t l =>
    exact .inl (seven rfl (Moves.direct s .lineControl t (sound_whenRunning (sound_lineControl l .enable))))
  case lineControlDisable t l =>
    exact .inl (seven rfl (Moves.direct s .lineControl t (sound_whenRunning (sound_lineControl l .disable))))
  case lineControlHold t l =>
    exact .inl (seven rfl (Moves.direct s .lineControl t (sound_whenRunning (sound_lineControl l .hold))))
  case lineControlRelease t l =>
    exact .inl (seven rfl (Moves.direct s .lineControl t (sound_whenRunning (sound_lineControl l .release))))
  case readGearLine t l f k =>
    exact .inl (seven rfl (Moves.direct s .readGearLine t (sound_whenRunning (sound_readGearLine l f k))))
  case readGear t r => exact .inl (seven rfl (Moves.direct s .readGear t (sound_whenRunning (sound_readGear r))))
  case shadeCommandGoto t g p d =>
    exact .inl (seven rfl (Moves.direct s .shadeCommand t (sound_whenRunning (sound_shadeCommand g (some .goto) p d))))
  case shadeCommandStop t g p d =>
    exact .inl (seven rfl (Moves.direct s .shadeCommand t (sound_whenRunning (sound_shadeCommand g (some .stop) p d))))
  case shadeCommandAuto t g p d =>
    exact .inl (seven rfl (Moves.direct s .shadeCommand t (sound_whenRunning (sound_shadeCommand g (some .auto) p d))))
  case clearShadeFault t r =>
    exact .inl (seven rfl (Moves.direct s .clearShadeFault t (sound_whenRunning (sound_clearShadeFault r))))
  case setShadeQuery t r => exact .inl (seven rfl (Moves.direct s .setShadeQuery t (sound_whenRunning (sound_setShadeQuery r))))
  case readShade t r => exact .inl (seven rfl (Moves.direct s .readShade t (sound_whenRunning (sound_readShade r))))
  case setClock t r => exact .inl (seven rfl (Moves.direct s .setClock t (sound_whenRunning (sound_setClock r))))
  case getClock t => exact .inl (seven rfl (Moves.direct s .getClock t (sound_whenRunning sound_getClock)))
  case setProfileDefaults t p a b =>
    exact .inl (seven rfl (Moves.direct s .setProfileDefaults t (sound_whenRunning (sound_setProfileDefaults p a b))))
  case definePeriod t r => exact .inl (seven rfl (Moves.direct s .definePeriod t (sound_whenRunning (sound_definePeriod r))))
  case deletePeriod t r => exact .inl (seven rfl (Moves.direct s .deletePeriod t (sound_whenRunning (sound_deletePeriod r))))
  case readSchedule t r => exact .inl (seven rfl (Moves.direct s .readSchedule t (sound_whenRunning (sound_readSchedule r))))
  case setOccInput t i d => exact .inl (seven rfl (Moves.direct s .setOccInput t (sound_whenRunning (sound_setOccInput i d))))
  case readOccupancy t f k =>
    exact .inl (seven rfl (Moves.direct s .readOccupancy t (sound_whenRunning (sound_readOccupancy f k))))
  case snapshot t k => exact .inl (seven rfl (Moves.direct s .snapshot t (sound_whenRunning (sound_snapshot k))))
  case readCounters t a g f k =>
    exact .inl (seven rfl (Moves.direct s .readCounters t (sound_whenRunning (sound_readCounters a g f k))))
  case executeUnknownKind t k => exact .inl (seven rfl (Moves.answer s _ _ _ (by decide) (sound_refused _ s).1))
  case frameReceived k t p =>
    exact .inl (seven rfl (.ite (fun _ => .after (Moves.takeFrame ..) (Moves.hunt s)) (fun _ => Moves.discardFrame s)))
  case frameDiscarded =>
    exact .inl ⟨_, rfl, .ite (fun _ => Moves.discardFrame s) (fun _ => .refl s), fun _ h => absurd rfl h⟩
  case frameGapTimeout =>
    exact .inl ⟨_, rfl, .ite (fun _ => Moves.discardFrame s) (fun _ => .refl s), fun _ _ h => absurd rfl h⟩
  case replySent => exact .inl (seven rfl (.ite (fun _ => .refl s) (fun _ => .after (Moves.executeHead _) (Moves.sent s))))
  case restartTakesEffect pins =>
    simp only [exec, execRestartTakesEffect]
    split
    · exact .inr ⟨_, _, rfl⟩
    · exact .inl (seven rfl (.refl s))
  case pinReset pins => exact .inr ⟨_, _, rfl⟩
  case powerOn pins b => exact .inr ⟨_, _, rfl⟩
  case startupDelayExpiry => exact five (exec_startupDelayExpiry s) (by omega)
  case autoloadPageReadEnd r =>
    refine .inl (seven rfl ?_)
    split
    · exact .refl s
    · split
      · exact .ite (fun _ => Moves.pageRead (by omega) ..) (fun _ => Moves.pageFailed (by omega) ..)
      · exact Moves.pageFailed (by omega) ..
      · exact Moves.pageFailed (by omega) ..
  case memoryTransactionTimeout =>
    refine .inl (seven rfl ?_)
    split
    · exact .refl s
    · exact Moves.pageFailed (by omega) ..
  case savePageWriteEnd r => exact five (exec_savePageWriteEnd r s) (by omega)
  case ackPollAnswered => exact five (exec_ackPollAnswered s) (by omega)
  case ackPollTimeout => exact five (exec_ackPollTimeout s) (by omega)
  case saveReadbackEnd r => exact five (exec_saveReadbackEnd r s) (by omega)
  case pollIntervalExpiry l => exact five (exec_pollIntervalExpiry l s) (by omega)
  case sensorTransactionEnd l r => exact five (exec_sensorTransactionEnd l r s) (by omega)
  case sensorTransactionTimeout l => exact five (exec_sensorTransactionTimeout l s) (by omega)
  case calSettleExpiry => exact five (exec_calSettleExpiry s) (by omega)
  case overrideExpiry z => exact five (exec_overrideExpiry z s) (by omega)
  case lpwrInputChange l v => exact five (exec_lpwrInputChange l v s) (by omega)
  case linePowerChange l => exact five (exec_linePowerChange l s) (by omega)
  case startSettleExpiry l => exact five (exec_startSettleExpiry l s) (by omega)
  case forwardFrameStart l => exact five (exec_forwardFrameStart l s) (by omega)
  case groupFrameSent l => exact five (exec_groupFrameSent l s) (by omega)
  case gearAnswerReceived l d st k x => exact five (exec_gearAnswerReceived l d st k x s) (by omega)
  case replyWindowEnd l => exact five (exec_replyWindowEnd l s) (by omega)
  case backwardFrameTimeout l => exact five (exec_backwardFrameTimeout l s) (by omega)
  case auditTimerExpiry l => exact five (exec_auditTimerExpiry l s) (by omega)
  case shadeQueryExpiry g => exact five (exec_shadeQueryExpiry g s) (by omega)
  case travelTimeout g => exact five (exec_travelTimeout g s) (by omega)
  case shadeSettleExpiry g => exact five (exec_shadeSettleExpiry g s) (by omega)
  case glareTimerExpiry g => exact five (exec_glareTimerExpiry g s) (by omega)
  case releaseTimerExpiry g => exact five (exec_releaseTimerExpiry g s) (by omega)
  case manualExpiry g => exact five (exec_manualExpiry g s) (by omega)
  case clockSecondAdvance => exact five (exec_clockSecondAdvance s) (by omega)
  case oscillatorStop => exact five (exec_oscillatorStop s) (by omega)
  case oscillatorResume => exact five (exec_oscillatorResume s) (by omega)
  case occInputChange i v => exact five (exec_occInputChange i v s) (by omega)
  case occDebounceExpiry i => exact five (exec_occDebounceExpiry i s) (by omega)
  case vacancyTimerExpiry z => exact five (exec_vacancyTimerExpiry z s) (by omega)
  case frameByteReceived x =>
    refine .inl (seven rfl ?_)
    split
    · exact Moves.huntByte ..
    · exact .ite (fun _ => .after (Moves.huntByte ..) (Moves.discardFrame s)) (fun _ => Moves.takeByte ..)

end Sys2Proof.Machine
end

