-- ==== Sys2Proof/Laws/Frames.lean ====
section
/-! SUPPORT. From moves to frames: what a move of a low rank leaves as it was, in the terms that the statements use, and which zone
each operation of the ZCU touches. -/

namespace Sys2Proof.Machine

set_option Elab.async false

open Sys2Proof.Safety

namespace Moves

variable {s t : State} {n : Nat}

theorem rest0 (h : Moves 0 s t) :
    t = { s with gear := t.gear, gearLines := t.gearLines, flags := t.flags, live := t.live } := by
  rw [← h.pending, ← h.tick, ← h.straps, ← h.replyCount_eq (by omega), ← h.sensors_eq (by omega),
    ← h.sensorLines_eq (by omega), ← h.zones_eq (by omega), ← h.segments_eq (by omega), ← h.curves_eq (by omega),
    ← h.sweep_eq (by omega), ← h.calResults_eq (by omega), ← h.shadeQuery_eq (by omega), ← h.clock_eq (by omega),
    ← h.profiles_eq (by omega), ← h.periods_eq (by omega), ← h.occ_eq (by omega), ← h.liveSince_eq (by omega),
    ← h.shadow_eq (by omega), ← h.shadowHeader_eq (by omega), ← h.port_eq (by omega), ← h.loader_eq (by omega)]

theorem rest1 (h : Moves 1 s t) :
    t = { s with zones := t.zones, gear := t.gear, gearLines := t.gearLines, flags := t.flags, live := t.live } := by
  rw [← h.pending, ← h.tick, ← h.straps, ← h.replyCount_eq (by omega), ← h.sensors_eq (by omega),
    ← h.sensorLines_eq (by omega), ← h.segments_eq (by omega), ← h.curves_eq (by omega),
    ← h.sweep_eq (by omega), ← h.calResults_eq (by omega), ← h.shadeQuery_eq (by omega), ← h.clock_eq (by omega),
    ← h.profiles_eq (by omega), ← h.periods_eq (by omega), ← h.occ_eq (by omega), ← h.liveSince_eq (by omega),
    ← h.shadow_eq (by omega), ← h.shadowHeader_eq (by omega), ← h.port_eq (by omega), ← h.loader_eq (by omega)]

theorem rest2 (h : Moves 2 s t) :
    t = { s with zones := t.zones, segments := t.segments, gear := t.gear, gearLines := t.gearLines, flags := t.flags,
                 live := t.live } := by
  rw [← h.pending, ← h.tick, ← h.straps, ← h.replyCount_eq (by omega), ← h.sensors_eq (by omega),
    ← h.sensorLines_eq (by omega), ← h.curves_eq (by omega),
    ← h.sweep_eq (by omega), ← h.calResults_eq (by omega), ← h.shadeQuery_eq (by omega), ← h.clock_eq (by omega),
    ← h.profiles_eq (by omega), ← h.periods_eq (by omega), ← h.occ_eq (by omega), ← h.liveSince_eq (by omega),
    ← h.shadow_eq (by omega), ← h.shadowHeader_eq (by omega), ← h.port_eq (by omega), ← h.loader_eq (by omega)]

theorem rest3 (h : Moves 3 s t) :
    t = { s with sensors := t.sensors, zones := t.zones, segments := t.segments, gear := t.gear, gearLines := t.gearLines,
                 sweep := t.sweep, calResults := t.calResults, flags := t.flags, live := t.live } := by
  rw [← h.pending, ← h.tick, ← h.straps, ← h.replyCount_eq (by omega),
    ← h.sensorLines_eq (by omega), ← h.curves_eq (by omega), ← h.shadeQuery_eq (by omega), ← h.clock_eq (by omega),
    ← h.profiles_eq (by omega), ← h.periods_eq (by omega), ← h.occ_eq (by omega), ← h.liveSince_eq (by omega),
    ← h.shadow_eq (by omega), ← h.shadowHeader_eq (by omega), ← h.port_eq (by omega), ← h.loader_eq (by omega)]

theorem rest4 (h : Moves 4 s t) :
    t = { s with sensors := t.sensors, sensorLines := t.sensorLines, zones := t.zones, segments := t.segments, gear := t.gear,
                 gearLines := t.gearLines, sweep := t.sweep, calResults := t.calResults, flags := t.flags, live := t.live,
                 loader := t.loader } := by
  rw [← h.pending, ← h.tick, ← h.straps, ← h.replyCount_eq (by omega), ← h.curves_eq (by omega),
    ← h.shadeQuery_eq (by omega), ← h.clock_eq (by omega),
    ← h.profiles_eq (by omega), ← h.periods_eq (by omega), ← h.occ_eq (by omega), ← h.liveSince_eq (by omega),
    ← h.shadow_eq (by omega), ← h.shadowHeader_eq (by omega), ← h.port_eq (by omega)]

/-- A move's flags: a list that holds every flag of its rank bounds what it latches. -/
theorem flagsGrow_list (h : Moves n s t) (hn : n < 7) {fs : List Flag} (hf : ∀ f, flagRank f ≤ n → f ∈ fs) :
    FlagsGrow fs s t :=
  ⟨(h.flagsGrow hn).1, fun f => ⟨(h.flagsGrow hn).2.1 f, fun hm => (h.flagsGrow hn).2.2 f (by
    by_contra hc; exact hm (hf f (by omega)))⟩⟩

theorem countersGrow_of (h : Moves n s t) (hn : n < 7) {p : Counter → Bool} (hp : ∀ k, p k = false → n < counterRank k) :
    CountersGrow p s t :=
  fun k => ⟨fun hk => (h.countersGrow hn).2 k (hp k hk), fun hr => (h.countersGrow hn).1 hr k⟩

/-- A move of rank 0 is a hand-over. -/
theorem handsOver (h : Moves 0 s t) : HandsOver s t where
  rest := h.rest0
  gear := h.gearCore_eq (by omega)
  lines := h.lineCore_eq (by omega)
  flags := h.flagsGrow_list (by omega) (by intro f; cases f <;> simp [flagRank])
  counters := h.countersGrow_of (by omega) (by intro k; cases k <;> simp [counterRank, isDeferral])

/-- A move of rank 1 that leaves the zones not named and puts the named ones in the order's state is a resolution. -/
theorem resolves (h : Moves 1 s t) {named : Nat → Prop} (others : ∀ z, ¬ named z → t.zone z = s.zone z)
    (state : ∀ z x, named z → t.zone z = some x → x.state = t.resolved z x) : Resolves named s t where
  rest := h.rest1
  others := others
  static := h.zoneCfg_eq (by omega)
  state := state
  gear := h.gearCore_eq (by omega)
  lines := h.lineCore_eq (by omega)
  flags := h.flagsGrow_list (by omega) (by intro f; cases f <;> simp [flagRank])
  counters := h.countersGrow_of (by omega) (by intro k; cases k <;> simp [counterRank, isDeferralOrOverride])

end Moves

/-! ### Which zone a resolution touches -/

section

variable (s : State) (z : Nat)

theorem zone_handLevel (y : Nat) : (s.handLevel z).zone y = s.zone y := by
  have h : Moves 0 s (s.handLevel z) := Moves.handLevel ..
  rw [State.zone, State.zone, h.zones_eq (by omega)]

theorem zone_handIfChanged (old y : Nat) : (s.handIfChanged z old).zone y = s.zone y := by
  unfold State.handIfChanged; split
  · rfl
  · exact zone_handLevel s z y

theorem zone_latch (f : Flag) (y : Nat) : (s.latch f).zone y = s.zone y := rfl

theorem zone_latchIf (c : Bool) (f : Flag) (y : Nat) : (s.latchIf c f).zone y = s.zone y := by cases c <;> rfl

theorem zone_countBy (k : Counter) (v y : Nat) : (s.countBy k v).zone y = s.zone y := by
  simp [State.zone]

theorem zone_accrueOverride_ne (m : Option Tick) {y : Nat} (h : y ≠ z) : (s.accrueOverride z m).zone y = s.zone y := by
  unfold State.accrueOverride
  split
  · rfl
  · rw [zone_countBy, State.modRem, State.zone_modZone, if_neg (Ne.symm h)]

/-- An override accrual changes nothing of its zone but the remainders. -/
theorem zone_accrueOverride (m : Option Tick) {x : Zone} (h : s.zone z = some x) :
    ∃ r, (s.accrueOverride z m).zone z = some { x with rem := r } := by
  unfold State.accrueOverride
  split
  · exact ⟨x.rem, h⟩
  · rw [zone_countBy, State.modRem, State.zone_modZone, if_pos rfl, h]; exact ⟨_, rfl⟩

variable {s z}

/-- The record that a resolution leaves: unchanged or entered into the state that the order gives, with the reason of an entry into
FALLBACK, and remainders that an override's accrual may change (R63 to R66). -/
theorem zone_resolveHeld {x : Zone} (h : s.zone z = some x) :
    ∃ r, (s.resolveHeld z).zone z = some
      { (if s.resolved z x = x.state then x else x.entered (s.resolved z x)) with
        fallbackReason := if s.resolved z x = .fallback then s.fallbackReasonOf z x else x.fallbackReason
        rem := r } := by
  unfold State.resolveHeld
  simp only [h]
  generalize s.resolved z x = n
  generalize s.fallbackReasonOf z x = why
  have h1 : (if n = .fallback then s.modZone z fun y => { y with fallbackReason := why } else s).zone z
      = some { x with fallbackReason := if n = .fallback then why else x.fallbackReason } := by
    split
    · rw [State.zone_modZone, if_pos rfl, h]; rfl
    · exact h
  generalize (if n = .fallback then s.modZone z fun y => { y with fallbackReason := why } else s) = t at h1 ⊢
  by_cases hn : n = x.state
  · rw [if_pos hn, if_pos hn]
    exact ⟨x.rem, h1⟩
  · rw [if_neg hn, if_neg hn]
    have h2 : ∃ r, (if x.state = .override then t.accrueOverride z none else t).zone z
        = some { x with fallbackReason := if n = .fallback then why else x.fallbackReason, rem := r } := by
      split
      · exact zone_accrueOverride t z none h1
      · exact ⟨x.rem, h1⟩
    generalize (if x.state = .override then t.accrueOverride z none else t) = u at h2 ⊢
    obtain ⟨r, h2⟩ := h2
    rw [zone_latchIf]
    have h3 : (u.modZone z (Zone.entered n)).zone z = some (Zone.entered n
        { x with fallbackReason := if n = .fallback then why else x.fallbackReason, rem := r }) := by
      rw [State.zone_modZone, if_pos rfl, h2]; rfl
    generalize u.modZone z (Zone.entered n) = v at h3 ⊢
    split
    · rw [State.markOverride, State.modRem, State.zone_modZone, if_pos rfl, h3]
      refine ⟨{ r with mark := some v.tick }, ?_⟩
      cases n <;> rfl
    · refine ⟨r, ?_⟩
      rw [h3]; cases n <;> rfl

theorem zone_resolveHeld_ne {y : Nat} (h : y ≠ z) : (s.resolveHeld z).zone y = s.zone y := by
  unfold State.resolveHeld
  split
  · rfl
  · next x hx =>
    dsimp only
    generalize s.resolved z x = n
    have h1 : (if n = .fallback then s.modZone z fun y => { y with fallbackReason := s.fallbackReasonOf z x } else s).zone y
        = s.zone y := by
      split
      · rw [State.zone_modZone, if_neg (Ne.symm h)]
      · rfl
    generalize (if n = .fallback then s.modZone z fun y => { y with fallbackReason := s.fallbackReasonOf z x } else s) = t
      at h1 ⊢
    split
    · exact h1
    · have h2 : (if x.state = .override then t.accrueOverride z none else t).zone y = s.zone y := by
        split
        · rw [zone_accrueOverride_ne t z none h, h1]
        · exact h1
      generalize (if x.state = .override then t.accrueOverride z none else t) = u at h2 ⊢
      rw [zone_latchIf]
      have h3 : (u.modZone z (Zone.entered n)).zone y = s.zone y := by
        rw [State.zone_modZone, if_neg (Ne.symm h), h2]
      generalize u.modZone z (Zone.entered n) = v at h3 ⊢
      split
      · rw [State.markOverride, State.modRem, State.zone_modZone, if_neg (Ne.symm h), h3]
      · exact h3

theorem zone_resolve_ne {y : Nat} (h : y ≠ z) : (s.resolve z).zone y = s.zone y := by
  rw [State.resolve, zone_handIfChanged, zone_resolveHeld_ne h]

theorem zone_resolve : (s.resolve z).zone z = (s.resolveHeld z).zone z := by
  rw [State.resolve, zone_handIfChanged]

theorem resolved_congr {t : State} (h1 : t.sensors = s.sensors) (h2 : t.sweep = s.sweep) {x y : Zone} (hc : y.cfg = x.cfg)
    (ho : y.overrideActive = x.overrideActive) (h3 : y.holdShade = x.holdShade) (h4 : y.holdCal = x.holdCal) :
    t.resolved z y = s.resolved z x := by
  have hs : t.sensor = s.sensor := by funext i; rw [State.sensor, State.sensor, h1]
  simp only [State.resolved, State.inSweep, State.sweeping, State.controlOf, State.ownGain, Zone.held, hs, h2, hc, ho, h3, h4]
  rfl

theorem entered_rest (n : ZoneState) (x : Zone) :
    (x.entered n).state = n ∧ (x.entered n).cfg = x.cfg ∧ (x.entered n).overrideActive = x.overrideActive
      ∧ (x.entered n).holdShade = x.holdShade ∧ (x.entered n).holdCal = x.holdCal := by
  cases n <;> exact ⟨rfl, rfl, rfl, rfl, rfl⟩

/-- A resolved zone stands in the state that the order gives, in the state after (R63, R64). -/
theorem resolve_state {x : Zone} (h : (s.resolve z).zone z = some x) : x.state = (s.resolve z).resolved z x := by
  have m : Moves 1 s (s.resolve z) := Moves.resolve (by omega) ..
  rw [zone_resolve] at h
  cases hz : s.zone z with
  | none =>
    have : s.resolveHeld z = s := by unfold State.resolveHeld; rw [hz]
    rw [this, hz] at h; cases h
  | some y =>
    obtain ⟨r, e⟩ := zone_resolveHeld hz
    rw [e] at h
    have hx : _ = x := Option.some.inj h
    have := resolved_congr (s := s) (t := s.resolve z) (z := z) (m.sensors_eq (by omega)) (m.sweep_eq (by omega))
      (x := y) (y := x) (by rw [← hx]; split <;> [rfl; exact (entered_rest _ _).2.1])
      (by rw [← hx]; split <;> [rfl; exact (entered_rest _ _).2.2.1])
      (by rw [← hx]; split <;> [rfl; exact (entered_rest _ _).2.2.2.1])
      (by rw [← hx]; split <;> [rfl; exact (entered_rest _ _).2.2.2.2])
    rw [this, ← hx]
    split
    · next e => exact e.symm
    · exact (entered_rest _ _).1

/-- Zones resolved in turn: the listed ones stand in the order's state, the others are as they were. -/
theorem resolves_forEach (l : List Nat) (s : State) : Resolves (· ∈ l) s (forEach l State.resolve s) := by
  have m : ∀ (l : List Nat) (s : State), Moves 1 s (forEach l State.resolve s) := fun l s =>
    Moves.forEach l _ (fun _ _ _ => Moves.resolve (by omega) ..) s
  refine (m l s).resolves ?_ ?_
  · induction l generalizing s with
    | nil => exact fun _ _ => rfl
    | cons i l ih =>
      intro z hz
      simp only [List.mem_cons, not_or] at hz
      rw [forEach_cons, ih (s.resolve i) z hz.2, zone_resolve_ne hz.1]
  · induction l generalizing s with
    | nil => intro z x h; cases h
    | cons i l ih =>
      intro z x hz hx
      rw [forEach_cons] at hx ⊢
      by_cases hl : z ∈ l
      · exact ih (s.resolve i) z x hl hx
      · have hi : z = i := by simpa [hl] using hz
        subst hi
        have keep : ∀ (l : List Nat) (s : State), z ∉ l → (forEach l State.resolve s).zone z = s.zone z := by
          intro l
          induction l with
          | nil => exact fun _ _ => rfl
          | cons j l ih =>
            intro s h
            simp only [List.mem_cons, not_or] at h
            rw [forEach_cons, ih (s.resolve j) h.2, zone_resolve_ne h.1]
        rw [keep l _ hl] at hx
        rw [resolve_state hx]
        exact (resolved_congr ((m l _).sensors_eq (by omega)) ((m l _).sweep_eq (by omega)) rfl rfl rfl rfl).symm

/-- The resolution of one zone. -/
theorem resolves_one (z : Nat) (s : State) : Resolves (· = z) s (s.resolve z) := by
  have := resolves_forEach [z] s
  exact { this with
    others := fun y hy => this.others y (by simpa using hy)
    state := fun y x hy => this.state y x (by simpa using hy) }

end

end Sys2Proof.Machine
end

