-- ==== Sys2Proof/Laws/Wire.lean ====
section
/-! SUPPORT. What the characters of the gear lines and of the Building Link Port carry, and how long frames and transactions are (R177,
R202, R204, R208). -/

namespace Sys2Proof.Machine

open Sys2Proof.Safety

/-! ### Characters (R202) -/

/-- The level in each bit time of a byte's character: the start bit, the data bits least significant first, the stop bit. -/
theorem characterOf_getLsbD (b : Byte) {k : Nat} (hk : k < 10) :
    (characterOf b).getLsbD k = if k = 0 then false else if k = 9 then true else b.getLsbD (k - 1) := by
  have h : (characterOf b).getLsbD k = (1#1 ++ b ++ 0#1 : BitVec (1 + 8 + 1)).getLsbD k := rfl
  rw [h, BitVec.getLsbD_append, BitVec.getLsbD_append]
  interval_cases k <;> simp

theorem characterByte_getLsbD (c : Character) {k : Nat} (hk : k < 8) : (characterByte c).getLsbD k = c.getLsbD (k + 1) := by
  simp [characterByte, hk, Nat.add_comm]

@[simp] theorem characterByte_characterOf (b : Byte) : characterByte (characterOf b) = b :=
  BitVec.eq_of_getLsbD_eq fun k hk => by
    rw [characterByte_getLsbD _ hk, characterOf_getLsbD b (by omega)]
    simp [Nat.ne_of_lt hk]

@[simp] theorem startsLow_characterOf (b : Byte) : startsLow (characterOf b) = true := by
  simp [startsLow, characterOf_getLsbD b (show 0 < 10 by decide), -BitVec.getLsbD_eq_getElem]

@[simp] theorem stopsLow_characterOf (b : Byte) : stopsLow (characterOf b) = false := by
  simp [stopsLow, characterOf_getLsbD b (show 9 < 10 by decide), -BitVec.getLsbD_eq_getElem]

/-- A character with a low start bit and a high stop bit is the character of its byte. -/
theorem characterOf_characterByte {c : Character} (h0 : startsLow c = true) (h9 : stopsLow c = false) :
    characterOf (characterByte c) = c := by
  simp only [startsLow, Bool.not_eq_true'] at h0
  simp only [stopsLow, Bool.not_eq_false'] at h9
  refine BitVec.eq_of_getLsbD_eq fun k hk => ?_
  rw [characterOf_getLsbD _ hk]
  split
  · next h => rw [h, h0]
  · split
    · next h => rw [h, h9]
    · rw [characterByte_getLsbD _ (by omega)]
      congr 1
      omega

theorem characterLevels_characterOf (b : Byte) : characterLevels (characterOf b) = lineLevels b := by
  have h : characterLevels (characterOf b)
      = (List.range 10).map fun k => if k = 0 then false else if k = 9 then true else b.getLsbD (k - 1) :=
    List.map_congr_left fun k hk => characterOf_getLsbD b (List.mem_range.1 hk)
  rw [h]
  rfl

/-- A frame's levels are its bytes' in turn. -/
theorem frameLevels_eq (l : List Byte) : frameLevels l = l.flatMap lineLevels :=
  congrArg (List.flatMap · l) (funext characterLevels_characterOf)

/-- A frame has ten levels for each byte: 40 bit times for a forward frame. -/
@[simp] theorem length_frameLevels (l : List Byte) : (frameLevels l).length = 10 * l.length := by
  induction l with
  | nil => rfl
  | cons b l ih => rw [frameLevels_eq] at ih ⊢; simp [lineLevels] at ih ⊢; omega

/-- The one character that carries a byte is the byte's. -/
theorem carries_iff (c : Character) (b : Byte) : Carries c b ↔ c = characterOf b := by
  have h : ∀ k, k < 10 → (lineLevels b)[k]? = some ((characterOf b).getLsbD k) := fun k hk => by
    rw [← characterLevels_characterOf]
    simp [characterLevels, hk]
  constructor
  · exact fun hc => BitVec.eq_of_getLsbD_eq fun k hk => Option.some.inj ((hc k hk).symm.trans (h k hk))
  · rintro rfl
    exact h

/-- The characters of three bytes make the command that carries them (R202, R203). -/
theorem answerCommand_characterOf (l : Fin 4) (data status check : Byte) :
    answerCommand l (characterOf data) (characterOf status) (characterOf check)
      = some (.gearAnswerReceived l data status check false) := by
  simp [answerCommand]

/-- What the receiver makes of three characters: an answer's command, which reports each low stop bit, and nothing where a start bit is
not low. -/
theorem answerCommand_eq_some_iff (l : Fin 4) (first second third : Character) (i : Instr) :
    answerCommand l first second third = some i
      ↔ (startsLow first = true ∧ startsLow second = true ∧ startsLow third = true)
        ∧ .gearAnswerReceived l (characterByte first) (characterByte second) (characterByte third)
            (stopsLow first || stopsLow second || stopsLow third) = i := by
  simp [answerCommand, and_assoc]

/-- The bit rate that a line runs at (R111). -/
theorem gearRate_eq (code : Nat) : gearRate code = lineRate code := by
  unfold lineRate
  rcases code with _ | _ | _ | _ | _ | _ | _ | n <;> simp [gearRate]
  rw [if_neg (by omega), if_neg (by omega), if_neg (by omega)]

/-! ### The Building Link Port (R177, R178, R181) -/

/-- The character of a byte makes the command that carries the byte. -/
@[simp] theorem byteCommand_characterOf (b : Byte) : byteCommand (characterOf b) = some (.frameByteReceived b) := by
  simp [byteCommand]

/-- What the port's receiver makes of a character: nothing without a low start bit, a discard with a low stop bit, and the byte
otherwise. -/
theorem byteCommand_eq_some_iff (c : Character) (i : Instr) :
    byteCommand c = some i
      ↔ startsLow c = true ∧ (if stopsLow c then .frameDiscarded else .frameByteReceived (characterByte c)) = i := by
  simp [byteCommand]

/-- The characters of bytes, taken in turn, make the commands that carry the bytes. -/
theorem filterMap_byteCommand_characterOf (l : List Byte) :
    (l.map characterOf).filterMap byteCommand = l.map .frameByteReceived := by
  rw [List.filterMap_map, funext (f := byteCommand ∘ characterOf) byteCommand_characterOf]
  exact congrFun List.filterMap_eq_map l

/-- The bit rate that the port runs at (R177). -/
theorem portRate_eq (straps : BitVec 2) : portRate straps = strapRate straps := by
  revert straps
  decide

/-- The port's frame is the start of frame, the kind, tag, length and payload, and their check, high byte first (R200). -/
theorem frameBytes_eq (kind tag : Byte) (payload : List Byte) :
    ∃ hi lo : Byte, hi ++ lo = crc16 (kind :: tag :: BitVec.ofNat 8 payload.length :: payload)
      ∧ frameBytes kind tag payload = 0xA5 :: (kind :: tag :: BitVec.ofNat 8 payload.length :: payload) ++ [hi, lo] := by
  refine ⟨(frameCheck kind tag payload).extractLsb' 8 8, (frameCheck kind tag payload).extractLsb' 0 8, ?_, ?_⟩
  · exact BitVec.extractLsb'_append_extractLsb'_eq_extractLsb' (by decide) |>.trans (BitVec.extractLsb'_eq_self)
  · simp [frameBytes, u16, BitVec.extractLsb', Nat.shiftRight_eq_div_pow]

/-- What BLP_TXD does (R181, R189): the frame of the earliest waiting reply while no reset is due, and idle high otherwise. -/
theorem portOutput_eq (s : State) :
    s.portOutput = (match s.port.replies.head?, s.port.restartDue with
      | some r, false => .frame (r.frame.flatMap lineLevels) (strapRate s.straps)
      | _, _ => .idleHigh) := by
  unfold State.portOutput
  cases s.port.replies <;> cases s.port.restartDue <;> simp [frameLevels_eq, portRate_eq]

/-! ### Transactions (R204, R208) -/

@[simp] theorem heardBytes_zero : heardBytes 0 = [] := rfl

theorem sentByte_eq (b : Byte) : sentByte b = busOut b := by
  simp [sentByte, busOut, BitVec.getMsbD, List.range_succ]

theorem heardBytes_eq (n : Nat) : heardBytes (n + 1) = busIn n := by
  simp [heardBytes, heardByte, busIn]

end Sys2Proof.Machine
end

