-- ==== Sys2Proof/WellFormed.lean ====
section
/-! DEFINITION. Which commands are well formed: each field fits the bytes the wire gives it (R201), and the lengths that an event
fixes are right. The meanings are total: they do not rely on this. -/

namespace Sys2Proof

/-- A value that one byte carries (R201). -/
def oneByte (n : Nat) : Bool := decide (n < 256)

/-- A value that two bytes carry (R201). -/
def twoBytes (n : Nat) : Bool := decide (n < 65536)

/-- An optional one-byte field. -/
def optOneByte (o : Option Nat) : Bool := o.all oneByte

/-- An optional two-byte field. -/
def optTwoBytes (o : Option Nat) : Bool := o.all twoBytes

/-- DEFINE_SENSOR's fields fit their bytes. -/
def DefineSensor.wf (r : DefineSensor) : Bool :=
  oneByte r.index && oneByte r.kind && oneByte r.line && oneByte r.address && optOneByte r.enabled && optTwoBytes r.scale
    && optOneByte r.fallCoeff && optOneByte r.riseCoeff

/-- SET_SENSOR's fields fit their bytes. -/
def SetSensor.wf (r : SetSensor) : Bool :=
  oneByte r.index && optOneByte r.enabled && optTwoBytes r.scale && optOneByte r.fallCoeff && optOneByte r.riseCoeff

/-- The optional fields of a zone fit their bytes. -/
def ZoneFields.wf (r : ZoneFields) : Bool :=
  optOneByte r.controlSensor && optOneByte r.group0 && optOneByte r.group1 && optOneByte r.group2 && optOneByte r.group3
    && optOneByte r.defaultCurve && optTwoBytes r.lmin && optTwoBytes r.fallbackLevel && optOneByte r.profile
    && optOneByte r.occInput && optOneByte r.upRate && optOneByte r.downRate && optTwoBytes r.deadband
    && optTwoBytes r.offDelay && optTwoBytes r.onMargin && optOneByte r.enabled

/-- DEFINE_ZONE's fields fit their bytes. -/
def DefineZone.wf (r : DefineZone) : Bool := oneByte r.index && oneByte r.segment && oneByte r.band && r.fields.wf

/-- SET_ZONE's fields fit their bytes. -/
def SetZone.wf (r : SetZone) : Bool := oneByte r.index && r.fields.wf

/-- DEFINE_SEGMENT's fields fit their bytes. -/
def DefineSegment.wf (r : DefineSegment) : Bool :=
  oneByte r.index && optOneByte r.windowSensor && optTwoBytes r.glareThreshold && optTwoBytes r.releaseThreshold
    && optTwoBytes r.glareDelay && optTwoBytes r.releaseDelay && optOneByte r.glarePosition && optOneByte r.openPosition
    && optTwoBytes r.settle && optTwoBytes r.travelTimeout && optOneByte r.retryLimit

/-- DEFINE_GEAR's fields fit their bytes. -/
def DefineGear.wf (r : DefineGear) : Bool :=
  oneByte r.index && oneByte r.line && oneByte r.address && oneByte r.kind && oneByte r.owner && optOneByte r.curve
    && optTwoBytes r.trim && optOneByte r.minValue && optOneByte r.lossLevel

/-- SET_SENSOR_LINE's fields fit their bytes. -/
def SetSensorLine.wf (r : SetSensorLine) : Bool :=
  oneByte r.line && optOneByte r.speed && optTwoBytes r.pollInterval && optOneByte r.missLimit

/-- WRITE_CONTRIB's fields fit their bytes. -/
def WriteContrib.wf (r : WriteContrib) : Bool :=
  oneByte r.index && optTwoBytes r.darkOffset && oneByte r.entries.length
    && r.entries.all fun e => oneByte e.1 && twoBytes e.2

/-- START_CALIBRATION's fields fit their bytes. -/
def StartCalibration.wf (r : StartCalibration) : Bool :=
  oneByte r.parts && oneByte r.zones.length && r.zones.all oneByte && optTwoBytes r.settle && optTwoBytes r.gainFloor
    && optTwoBytes r.driftLimit

/-- SET_GEAR_LINE's fields fit their bytes. -/
def SetGearLine.wf (r : SetGearLine) : Bool :=
  oneByte r.line && optOneByte r.rateCode && optOneByte r.attemptLimit && optOneByte r.highWatermark
    && optOneByte r.lowWatermark && optTwoBytes r.auditInterval

/-- SET_CLOCK's fields fit their bytes. -/
def SetClock.wf (r : SetClock) : Bool :=
  twoBytes r.year && oneByte r.month && oneByte r.day && oneByte r.hour && oneByte r.minute && oneByte r.second

/-- DEFINE_PERIOD's fields fit their bytes. -/
def DefinePeriod.wf (r : DefinePeriod) : Bool :=
  oneByte r.index && oneByte r.profile && oneByte r.days && twoBytes r.startMin && twoBytes r.endMin
    && twoBytes r.occupiedSp && twoBytes r.unoccupiedSp

/-- A page read that is acknowledged throughout delivers a page (R208). -/
def MemoryRead.wf : MemoryRead → Bool
  | .data bytes => bytes.length == Config.pageBytes
  | .noAddressAck => true
  | .noLaterAck => true

/-- The number of request kinds: their codes are 1 to 52 (R201). -/
def nKinds : Nat := 52

/-- A kind code that is unknown (R201). -/
def unknownKindCode (k : Byte) : Bool := decide (k.toNat = 0 ∨ nKinds < k.toNat)

/-- A well-formed command. -/
def Instr.wf : Instr → Bool
  | .identify _ => true
  | .getStatus _ => true
  | .clearFlags _ _ => true
  | .setFlagEnables _ _ => true
  | .restart _ => true
  | .saveConfig _ => true
  | .loadDefaults _ => true
  | .defineSensor _ r => r.wf
  | .setSensor _ r => r.wf
  | .deleteSensor _ i => oneByte i
  | .defineZone _ r => r.wf
  | .setZone _ r => r.wf
  | .deleteZone _ i => oneByte i
  | .defineSegment _ r => r.wf
  | .defineGear _ r => r.wf
  | .deleteGear _ i => oneByte i
  | .defineCurve _ i p => oneByte i && p.length == 9 && p.all oneByte
  | .readSensorDef _ i => oneByte i
  | .readZoneDef _ i => oneByte i
  | .readSegmentDef _ i => oneByte i
  | .readGearDef _ i => oneByte i
  | .readCurve _ i => oneByte i
  | .setSensorLine _ r => r.wf
  | .readSensorLine _ l => oneByte l
  | .readSensor _ i => oneByte i
  | .writeContrib _ r => r.wf
  | .readContrib _ i => oneByte i
  | .readProfile _ z => oneByte z
  | .overrideZone _ z level duration => oneByte z && twoBytes level && twoBytes duration
  | .releaseZone _ z => oneByte z
  | .readZone _ z => oneByte z
  | .startCalibration _ r => r.wf
  | .abortCalibration _ => true
  | .readCalibration _ first count zone => oneByte first && oneByte count && optOneByte zone
  | .setGearLine _ r => r.wf
  | .lineControlEnable _ l => oneByte l
  | .lineControlDisable _ l => oneByte l
  | .lineControlHold _ l => oneByte l
  | .lineControlRelease _ l => oneByte l
  | .readGearLine _ l first count => oneByte l && oneByte first && oneByte count
  | .readGear _ i => oneByte i
  | .shadeCommandGoto _ seg position duration => oneByte seg && oneByte position && twoBytes duration
  | .shadeCommandStop _ seg position duration => oneByte seg && oneByte position && twoBytes duration
  | .shadeCommandAuto _ seg position duration => oneByte seg && oneByte position && twoBytes duration
  | .clearShadeFault _ seg => oneByte seg
  | .setShadeQuery _ interval => twoBytes interval
  | .readShade _ seg => oneByte seg
  | .setClock _ r => r.wf
  | .getClock _ => true
  | .setProfileDefaults _ p occupied unoccupied => oneByte p && optTwoBytes occupied && optTwoBytes unoccupied
  | .definePeriod _ r => r.wf
  | .deletePeriod _ i => oneByte i
  | .readSchedule _ p => oneByte p
  | .setOccInput _ i delay => oneByte i && twoBytes delay
  | .readOccupancy _ first count => oneByte first && oneByte count
  | .snapshot _ clear => oneByte clear
  | .readCounters _ set group first count => oneByte set && oneByte group && oneByte first && oneByte count
  | .executeUnknownKind _ kind => unknownKindCode kind
  | .frameReceived _ _ payload => decide (payload.length ≤ Config.maxPayload)
  | .frameDiscarded => true
  | .frameGapTimeout => true
  | .replySent => true
  | .restartTakesEffect _ => true
  | .pinReset _ => true
  | .powerOn _ _ => true
  | .startupDelayExpiry => true
  | .autoloadPageReadEnd r => r.wf
  | .memoryTransactionTimeout => true
  | .savePageWriteEnd _ => true
  | .ackPollAnswered => true
  | .ackPollTimeout => true
  | .saveReadbackEnd r => r.wf
  | .pollIntervalExpiry _ => true
  | .sensorTransactionEnd _ _ => true
  | .sensorTransactionTimeout _ => true
  | .calSettleExpiry => true
  | .overrideExpiry _ => true
  | .lpwrInputChange _ _ => true
  | .linePowerChange _ => true
  | .startSettleExpiry _ => true
  | .forwardFrameStart _ => true
  | .groupFrameSent _ => true
  | .gearAnswerReceived _ _ _ _ _ => true
  | .replyWindowEnd _ => true
  | .backwardFrameTimeout _ => true
  | .auditTimerExpiry _ => true
  | .shadeQueryExpiry _ => true
  | .travelTimeout _ => true
  | .shadeSettleExpiry _ => true
  | .glareTimerExpiry _ => true
  | .releaseTimerExpiry _ => true
  | .manualExpiry _ => true
  | .clockSecondAdvance => true
  | .oscillatorStop => true
  | .oscillatorResume => true
  | .occInputChange _ _ => true
  | .occDebounceExpiry _ => true
  | .vacancyTimerExpiry _ => true
  | .frameByteReceived _ => true

end Sys2Proof
end

