-- ==== Sys2Proof/Tests/Slice0.lean ====
section
/-! SUPPORT. Tests of the model: ill-formed commands refused, the spec's worked examples, and a state and operands that meet the
hypotheses of each statement. -/

namespace Sys2Proof.Tests

set_option Elab.async false

open Sys2Proof Sys2Proof.Machine Sys2Proof.Safety

/-! ### Ill-formed commands -/

theorem test_wf_defineSensor : ∀ r ∈ ([{ index := 256, kind := 0, line := 0, address := 33 },
      { index := 0, kind := 256, line := 0, address := 33 }, { index := 0, kind := 0, line := 256, address := 33 },
      { index := 0, kind := 0, line := 0, address := 256 }, { index := 0, kind := 0, line := 0, address := 33, enabled := some 256 },
      { index := 0, kind := 0, line := 0, address := 33, scale := some 65536 },
      { index := 0, kind := 0, line := 0, address := 33, fallCoeff := some 256 },
      { index := 0, kind := 0, line := 0, address := 33, riseCoeff := some 256 }] : List DefineSensor),
    Instr.wf (.defineSensor 0 r) = false := by decide

theorem test_wf_setSensor : ∀ r ∈ ([{ index := 256 }, { index := 0, enabled := some 256 }, { index := 0, scale := some 65536 },
      { index := 0, fallCoeff := some 256 }, { index := 0, riseCoeff := some 256 }] : List SetSensor),
    Instr.wf (.setSensor 0 r) = false := by decide

/-- One set of optional zone fields that do not fit for each field. -/
def badZoneFields : List ZoneFields :=
  [{ controlSensor := some 256 }, { group0 := some 256 }, { group1 := some 256 }, { group2 := some 256 }, { group3 := some 256 },
    { defaultCurve := some 256 }, { lmin := some 65536 }, { fallbackLevel := some 65536 }, { profile := some 256 },
    { occInput := some 256 }, { upRate := some 256 }, { downRate := some 256 }, { deadband := some 65536 },
    { offDelay := some 65536 }, { onMargin := some 65536 }, { enabled := some 256 }]

theorem test_wf_zone : (∀ f ∈ badZoneFields, Instr.wf (.defineZone 0 { index := 0, segment := 0, band := 0, fields := f }) = false
      ∧ Instr.wf (.setZone 0 { index := 0, fields := f }) = false)
    ∧ Instr.wf (.defineZone 0 { index := 256, segment := 0, band := 0 }) = false
    ∧ Instr.wf (.defineZone 0 { index := 0, segment := 256, band := 0 }) = false
    ∧ Instr.wf (.defineZone 0 { index := 0, segment := 0, band := 256 }) = false
    ∧ Instr.wf (.setZone 0 { index := 256 }) = false := by decide

theorem test_wf_defineSegment : ∀ r ∈ ([{ index := 256 }, { index := 0, windowSensor := some 256 },
      { index := 0, glareThreshold := some 65536 }, { index := 0, releaseThreshold := some 65536 },
      { index := 0, glareDelay := some 65536 }, { index := 0, releaseDelay := some 65536 }, { index := 0, glarePosition := some 256 },
      { index := 0, openPosition := some 256 }, { index := 0, settle := some 65536 }, { index := 0, travelTimeout := some 65536 },
      { index := 0, retryLimit := some 256 }] : List DefineSegment), Instr.wf (.defineSegment 0 r) = false := by decide

theorem test_wf_defineGear : ∀ r ∈ ([{ index := 256, line := 0, address := 0, kind := 0, owner := 0 },
      { index := 0, line := 256, address := 0, kind := 0, owner := 0 }, { index := 0, line := 0, address := 256, kind := 0, owner := 0 },
      { index := 0, line := 0, address := 0, kind := 256, owner := 0 }, { index := 0, line := 0, address := 0, kind := 0, owner := 256 },
      { index := 0, line := 0, address := 0, kind := 0, owner := 0, curve := some 256 },
      { index := 0, line := 0, address := 0, kind := 0, owner := 0, trim := some 65536 },
      { index := 0, line := 0, address := 0, kind := 0, owner := 0, minValue := some 256 },
      { index := 0, line := 0, address := 0, kind := 0, owner := 0, lossLevel := some 256 }] : List DefineGear),
    Instr.wf (.defineGear 0 r) = false := by decide

theorem test_wf_indices : ∀ i ∈ ([.deleteSensor 0 256, .deleteZone 0 256, .deleteGear 0 256, .defineCurve 0 256 (List.replicate 9 0),
      .defineCurve 0 0 (List.replicate 8 0), .defineCurve 0 0 (List.replicate 9 256), .readSensorDef 0 256, .readZoneDef 0 256,
      .readSegmentDef 0 256, .readGearDef 0 256, .readCurve 0 256, .readSensorLine 0 256, .readSensor 0 256, .readContrib 0 256,
      .readProfile 0 256, .releaseZone 0 256, .readZone 0 256, .lineControlEnable 0 256, .lineControlDisable 0 256,
      .lineControlHold 0 256, .lineControlRelease 0 256, .readGear 0 256, .clearShadeFault 0 256, .readShade 0 256,
      .deletePeriod 0 256, .readSchedule 0 256] : List Instr), i.wf = false := by decide

theorem test_wf_fields : ∀ i ∈ ([.setSensorLine 0 { line := 256 }, .setSensorLine 0 { line := 0, speed := some 256 },
      .setSensorLine 0 { line := 0, pollInterval := some 65536 }, .setSensorLine 0 { line := 0, missLimit := some 256 },
      .writeContrib 0 { index := 256, entries := [] }, .writeContrib 0 { index := 0, darkOffset := some 65536, entries := [] },
      .writeContrib 0 { index := 0, entries := List.replicate 256 (0, 1) }, .writeContrib 0 { index := 0, entries := [(256, 1)] },
      .writeContrib 0 { index := 0, entries := [(0, 65536)] }, .overrideZone 0 256 0 0, .overrideZone 0 0 65536 0,
      .overrideZone 0 0 0 65536, .startCalibration 0 { parts := 256, zones := [] },
      .startCalibration 0 { parts := 1, zones := List.replicate 256 0 }, .startCalibration 0 { parts := 1, zones := [256] },
      .startCalibration 0 { parts := 1, zones := [], settle := some 65536 },
      .startCalibration 0 { parts := 1, zones := [], gainFloor := some 65536 },
      .startCalibration 0 { parts := 1, zones := [], driftLimit := some 65536 }, .readCalibration 0 256 1 none,
      .readCalibration 0 0 256 none, .readCalibration 0 0 1 (some 256), .setGearLine 0 { line := 256 },
      .setGearLine 0 { line := 0, rateCode := some 256 }, .setGearLine 0 { line := 0, attemptLimit := some 256 },
      .setGearLine 0 { line := 0, highWatermark := some 256 }, .setGearLine 0 { line := 0, lowWatermark := some 256 },
      .setGearLine 0 { line := 0, auditInterval := some 65536 }, .readGearLine 0 256 0 1, .readGearLine 0 0 256 1,
      .readGearLine 0 0 0 256] : List Instr), i.wf = false := by decide +kernel

theorem test_wf_fields_more : ∀ i ∈ ([.shadeCommandGoto 0 256 0 0, .shadeCommandGoto 0 0 256 0, .shadeCommandGoto 0 0 0 65536,
      .shadeCommandStop 0 256 0 0, .shadeCommandStop 0 0 256 0, .shadeCommandStop 0 0 0 65536, .shadeCommandAuto 0 256 0 0,
      .shadeCommandAuto 0 0 256 0, .shadeCommandAuto 0 0 0 65536, .setShadeQuery 0 65536, .setClock 0 ⟨65536, 1, 1, 0, 0, 0⟩,
      .setClock 0 ⟨2000, 256, 1, 0, 0, 0⟩, .setClock 0 ⟨2000, 1, 256, 0, 0, 0⟩, .setClock 0 ⟨2000, 1, 1, 256, 0, 0⟩,
      .setClock 0 ⟨2000, 1, 1, 0, 256, 0⟩, .setClock 0 ⟨2000, 1, 1, 0, 0, 256⟩, .setProfileDefaults 0 256 none none,
      .setProfileDefaults 0 0 (some 65536) none, .setProfileDefaults 0 0 none (some 65536), .definePeriod 0 ⟨256, 0, 1, 0, 5, 0, 0⟩,
      .definePeriod 0 ⟨0, 256, 1, 0, 5, 0, 0⟩, .definePeriod 0 ⟨0, 0, 256, 0, 5, 0, 0⟩, .definePeriod 0 ⟨0, 0, 1, 65536, 5, 0, 0⟩,
      .definePeriod 0 ⟨0, 0, 1, 0, 65536, 0, 0⟩, .definePeriod 0 ⟨0, 0, 1, 0, 5, 65536, 0⟩, .definePeriod 0 ⟨0, 0, 1, 0, 5, 0, 65536⟩,
      .setOccInput 0 256 1, .setOccInput 0 0 65536, .readOccupancy 0 256 1, .readOccupancy 0 0 256, .snapshot 0 256,
      .readCounters 0 256 0 0 1, .readCounters 0 0 256 0 1, .readCounters 0 0 0 256 1, .readCounters 0 0 0 0 256,
      .executeUnknownKind 0 1, .executeUnknownKind 0 52, .frameReceived 1 0 (List.replicate 241 0),
      .autoloadPageReadEnd (.data (List.replicate 63 0)), .saveReadbackEnd (.data (List.replicate 65 0))] : List Instr),
    i.wf = false := by decide +kernel

/-! ### The spec's worked examples -/

/-- Chapter 2's worked conversions: counts to lux. -/
theorem test_luxOf : toLux 272 1 1000 = 531 ∧ toLux 300 3 40000 = 65535 ∧ toLux 256 0 3 = 0 := by decide

/-- Chapter 3's cloud over S9: the filter's steps. -/
theorem test_filterStep : filterStep 12 2 380 344 = 353 ∧ filterStep 12 2 353 120 = 178 ∧ filterStep 12 2 178 118 = 133
    ∧ filterStep 12 2 133 400 = 167 ∧ filterStep 12 2 167 410 = 198 ∧ filterStep 12 2 198 410 = 225
    ∧ filterStep 12 2 409 410 = 410 := by decide

/-- Chapter 3's learning of a window ratio for Z5. -/
theorem test_learnRatio : let m : Learned := { rho := 0, learnCount := 0, accSum := 0, accCount := 0, bins := [] }
    (m.learnRatio 353 4200).rho = 5 ∧ ((m.learnRatio 353 4200).learnRatio 350 4100).rho = 10
      ∧ moveToward 16 80 86 = 81 ∧ moveToward 16 81 70 = 80
      ∧ (Learned.learnRatio 353 4200 { m with learnCount := 64 }).learnCount = 64 := by decide

/-- Chapter 3's bin 26 of Z5 at the boundary. -/
theorem test_binUpdate : binUpdate 1512000 3600 (some 380) = some 390 ∧ binUpdate 1512000 3600 none = some 420
    ∧ binUpdate 1404000 3600 (some 392) = some 391 ∧ binUpdate 3120 8 (some 390) = some 390 := by decide

/-- Chapter 4's descent of Z5: the slew. -/
theorem test_slew : slew 100 20 75 (allowance 6 500) 300 213 = 270 ∧ slew 100 20 75 (allowance 6 500) 270 213 = 240
    ∧ slew 100 20 75 (allowance 6 500) 240 213 = 213 ∧ slew 100 20 75 (allowance 6 500) 213 213 = 213
    ∧ ceilDiv (87 * 1000) 410 = 213 := by decide

/-- Chapter 6's worked conversions: levels to values for gear 17, with min_value 30, and for a group frame. -/
theorem test_levelValue : levelValue factoryCurve 240 1 270 = 65 ∧ levelValue factoryCurve 240 1 240 = 57
    ∧ levelValue factoryCurve 240 1 213 = 52 ∧ levelValue factoryCurve 240 1 100 = 24 ∧ levelValue factoryCurve 240 1 1000 = 238
    ∧ levelValue factoryCurve 240 30 100 = 30 ∧ levelValue factoryCurve 256 1 270 = 69 ∧ levelValue factoryCurve 240 30 0 = 0 := by
  decide

/-- Chapter 12's frame of SET_VALUE 65 to gear 17, and its answer. -/
theorem test_gear_check : sumCheck [0x11, 0x01, 0x41] = 0xAC ∧ sumCheck [0x41, 0x00] = 0xBE := by decide

/-- Chapter 5's two-zone sweep at S9: the means, the gain and drift of Z5, and the outcomes of Z5 and Z6. -/
theorem test_sweep_arithmetic : roundDiv 210 4 = 53 ∧ roundDiv 16122 4 = 4031
    ∧ Measured.gain ⟨9, some 51, some 462, .closed (some 53)⟩ = some 410
    ∧ Measured.drift ⟨9, some 51, some 462, .closed (some 53)⟩ = some 2
    ∧ Measured.gain ⟨9, some 53, some 173, .closed (some 66)⟩ = some 113
    ∧ outcomeOf true (some 2) (some 410) 10 5 = .ok ∧ outcomeOf true (some 13) (some 113) 10 5 = .drift
    ∧ outcomeOf true (some 2) (some 3) 10 5 = .weak := by decide

/-! ### A small part -/

/-- Sensor S9 of the worked examples: a CEILING sensor on SL0 at 0x21. -/
def s9 : Sensor :=
  { kind := .ceiling, line := 0, address := 0x21, enabled := true, scale := 272, fallCoeff := 12, riseCoeff := 2, health := .ok
    missCount := 0, recoverCount := 0, lastCount := 0, lastRange := 0, overrange := false, lux := 0, timestamp := 0, darkOffset := 0
    contrib := [⟨5, 410⟩, ⟨6, 120⟩], daylight := 344, daylightF := 353, primed := true }

/-- Sensor S40: the WINDOW sensor of SEG3, on SL1 at 0x30. -/
def s40 : Sensor := { s9 with kind := .window, line := 1, address := 0x30, contrib := [] }

/-- Zone Z5's static fields: segment 3, band A, controlled by S9, with line group 3 on GL1. -/
def z5def : ZoneDef := { zoneDefaults 3 .a with controlSensor := some 9, groups := ⟨none, some 3, none, none⟩, occInput := some 2 }

/-- Zone Z5, TRACKING at level 300. -/
def z5 : Zone :=
  { cfg := z5def, state := .tracking, holdShade := false, holdCal := false, level := 300, target := 300, setpoint := 500
    occupancy := .vacant, vacancy := none, fallbackSource := .none, fallbackReason := .noSensor, underlit := false
    daylitOff := false, outputLost := false, belowMinSince := none, overrideLevel := 0, overrideExpiry := none
    overrideActive := false, lastEval := none, learned := Learned.empty, rem := ⟨0, 0, 0, 0, none⟩ }

/-- Gear 17: the driver of Z5 at address 17 of GL1. -/
def g17 : Gear :=
  { newGear { line := 1, address := 17, role := .driver 5, curve := 0, trim := 240, minValue := 1, lossLevel := 254 } with
    state := .present, expected := some 65, confirmed := some 65 }

/-- Gear 60: a shade of SEG3 at address 20 of GL1. -/
def g60 : Gear :=
  { newGear { line := 1, address := 20, role := .shade 3, curve := 0, trim := 256, minValue := 1, lossLevel := 254 } with
    state := .present }

/-- A line that is UP, with its audit running. -/
def lineUp : GearLine :=
  { GearLine.factory true with state := .up, audit := some ⟨0, 10000⟩ }

/-- The segment of S40. -/
def seg3 : Segment := Segment.atReset { SegmentDef.factory with windowSensor := some 40 }

/-- A RUNNING part with S9, S40, Z5, gear 17, gear 60, SEG3 and GL1 of the worked examples. -/
def bench : State :=
  { State.reset with
    loader := { Loader.atReset with device := .running, startup := none }
    sensors := ((List.replicate 64 none).set 9 (some s9)).set 40 (some s40)
    zones := (List.replicate 48 none).set 5 (some z5)
    gear := ((List.replicate 192 none).set 17 (some g17)).set 60 (some g60)
    segments := (List.replicate 16 (Segment.atReset SegmentDef.factory)).set 3 seg3
    gearLines := [GearLine.factory false, lineUp, GearLine.factory true, GearLine.factory false] }

/-- What holds of each defined entry of a table, by a check of the table. -/
theorem entries_all {α : Type} (l : List (Option α)) (p : Nat → α → Bool)
    (h : l.zipIdx.all (fun e => e.1.all (p e.2)) = true) (i : Nat) (x : α) (hx : entryAt l i = some x) : p i x = true := by
  unfold entryAt at hx
  rw [Option.join_eq_some_iff] at hx
  have hm : (some x, i) ∈ l.zipIdx := List.mem_zipIdx_iff_getElem?.mpr (by simpa using hx)
  simpa using List.all_eq_true.mp h _ hm

/-- `entries_all` for a decidable statement. -/
theorem entries {α : Type} {l : List (Option α)} (p : Nat → α → Prop) [∀ i x, Decidable (p i x)]
    (h : l.zipIdx.all (fun e => e.1.all fun x => decide (p e.2 x)) = true) : ∀ i x, entryAt l i = some x → p i x :=
  fun i x hx => of_decide_eq_true (entries_all l (fun i x => decide (p i x)) h i x hx)

/-- The gear that a condition holds of, in ascending order, by a check of the table. -/
theorem gear_inOrder {s : State} {l : List Nat} (gear : List (Option Gear)) (hs : s.gear = gear) (p : Gear → Prop) [DecidablePred p]
    (h : (l.all (decide <| · < gear.length) && gear.zipIdx.all fun e => decide (e.2 ∈ l) == e.1.any fun g => decide (p g)) = true)
    (hl : l.Pairwise (· < ·)) : GearInOrder s p l := by
  simp only [Bool.and_eq_true, List.all_eq_true, decide_eq_true_eq, beq_iff_eq] at h
  have at_ : ∀ i g, s.gearAt i = some g → (some g, i) ∈ gear.zipIdx := by
    intro i g hg
    unfold State.gearAt entryAt at hg
    rw [hs, Option.join_eq_some_iff] at hg
    exact List.mem_zipIdx_iff_getElem?.mpr (by simpa using hg)
  refine ⟨hl, fun i => ⟨fun hi => ?_, ?_⟩⟩
  · have hlt := h.1 i hi
    have hm : (gear[i], i) ∈ gear.zipIdx := List.mem_zipIdx_iff_getElem?.mpr (by simp)
    have := h.2 _ hm
    rw [decide_eq_true hi, eq_comm, Option.any_eq_true] at this
    obtain ⟨g, hg, hp⟩ := this
    refine ⟨g, ?_, of_decide_eq_true hp⟩
    unfold State.gearAt entryAt
    simpa [hs, hlt] using hg
  · rintro ⟨g, hg, hp⟩
    simpa [hp] using h.2 _ (at_ i g hg)

theorem bench_undisturbed : Undisturbed bench := by unfold Undisturbed; decide +kernel

theorem bench_whole : TablesWhole bench := by constructor <;> decide +kernel

/-- Z5 in OVERRIDE. -/
def z5Over (expiry : Option Tick) : Zone :=
  { z5 with state := .override, overrideActive := true, overrideLevel := 300, overrideExpiry := expiry, rem := ⟨0, 0, 0, 0, some 0⟩ }

/-- The bench with this Z5. -/
def benchZone (x : Zone) : State := { bench with zones := bench.zones.set 5 (some x) }

/-- The state a command leaves. -/
def after (c : Instr) (s : State) : State :=
  match exec c s with
  | .next t => t
  | _ => s

theorem bench_quiet (s : State) (h : s.gearLines = bench.gearLines) : ∀ l, (s.gearLine l).queue = [] := by
  intro l
  unfold State.gearLine
  rw [h]
  match l with
  | 0 => rfl
  | 1 => rfl
  | 2 => rfl
  | 3 => rfl
  | n + 4 => rfl

/-! ### A state and operands for each statement: the machine -/

theorem witness_StepRunsTheFrontCommand :
    ({ bench with pending := [.getClock 7, .getStatus 8] } : State).pending = .getClock 7 :: [.getStatus 8] := rfl

/-- At tick 20 the start-up delay is due; at tick 19 and at reset nothing is. -/
theorem witness_StepWithNothingWaitingPassesTime :
    State.reset.pending = [] ∧ State.reset.dueCommands = [] ∧ ({ State.reset with tick := 19 } : State).dueCommands = []
      ∧ ({ State.reset with tick := 20 } : State).dueCommands = .startupDelayExpiry :: [] := by decide +kernel

/-- A command that waits at the bench. -/
def benchClearing : State := { bench with pending := [.clearFlags 1 0x0200] }

theorem witness_StepKeepsAttnCoherent : AttnCoherent benchClearing ∧ ∃ t, step benchClearing = .next t :=
  ⟨by unfold AttnCoherent; decide +kernel, _, rfl⟩

/-- An entry of a transmit queue. -/
def waiting (cmd : GearCmd) (i : Nat) : Entry :=
  { target := .gear i, cmd := cmd, value := 65, group := none, origin := .zone, attempts := 0, inFlight := false, attempting := false, orphan := false }

/-- An entry in flight. -/
def flying (cmd : GearCmd) (i : Nat) : Entry := { waiting cmd i with inFlight := true, attempting := true }

/-- The bench with this GL1. -/
def benchLine (x : GearLine) : State := { bench with gearLines := [GearLine.factory false, x, GearLine.factory true, GearLine.factory false] }

/-- GL1 with one entry at the head of its queue and these behind it. -/
def lineWith (e : Entry) (rest : List Entry) : GearLine := { lineUp with queue := e :: rest }

/-- The bench with this SEG3. -/
def benchSeg (g : Segment) : State := { bench with segments := (List.replicate 16 (Segment.atReset SegmentDef.factory)).set 3 g }

/-- The bench with a full transmit queue on GL1, a full request queue and a full BUSY list. -/
def benchFull : State :=
  { bench with
    pending := [.replySent]
    gearLines := [GearLine.factory false, { lineUp with queue := (List.range 32).map (waiting .setValue) }, GearLine.factory true,
      GearLine.factory false]
    port := { bench.port with
      queue := [{ waitingRequest 1 0 [] with executed := true }, waitingRequest 1 1 [], waitingRequest 1 2 [], waitingRequest 1 3 []]
      replies := List.replicate 4 { origin := .busy, kind := 1, tag := 0, result := .busy, fields := [] } } }

theorem witness_StepKeepsTheCapacities : LinesSound benchFull ∧ MarksSound benchFull ∧ PortWithinCapacity benchFull
    ∧ CountersInRange benchFull.live ∧ CountersInRange benchFull.shadow ∧ TablesWhole benchFull ∧ ∃ t, step benchFull = .next t := by
  refine ⟨?_, ⟨?_, by decide +kernel, by decide +kernel, by decide +kernel⟩, ?_, countersInRange_zero, countersInRange_zero, ?_, _, rfl⟩
  · unfold LinesSound LineSound QueueSound WaitApart; decide +kernel
  · exact fun i g hg _ => entries (l := bench.gear) (fun _ (g : Gear) => g.dirty = .clear ∧ g.trimPending = false) (by decide +kernel) i g hg
  · unfold PortWithinCapacity; decide +kernel
  · constructor <;> decide +kernel

/-- Levels at the ends of their ranges: 0, the minimum and full output. -/
def benchLevels : State :=
  { bench with
    zones := [some { z5 with level := 0 }, some { z5 with level := 100, overrideActive := true, overrideLevel := 100 },
      some { z5 with level := 1000, overrideActive := true, overrideLevel := 1000 }, none]
    pending := [.clockSecondAdvance] }

theorem witness_StepKeepsTheLevelsLegal : LevelsLegal benchLevels ∧ ∃ t, step benchLevels = .next t := by
  refine ⟨?_, _, rfl⟩
  intro x hx
  have h : ∀ o ∈ benchLevels.zones, ∀ x ∈ o, ZoneLegal x := by unfold ZoneLegal LevelLegal; decide +kernel
  exact h _ hx x rfl

theorem witness_EventsKeepTheConfigurationAndOnlyAddFlagsAndCounts :
    isEvent (.occDebounceExpiry 2) = true ∧ isEvent .frameDiscarded = true ∧ CountersInRange bench.live
      ∧ (∃ t, exec (.occDebounceExpiry 2) bench = .next t) ∧ ∃ t, exec .frameDiscarded bench = .next t :=
  ⟨rfl, rfl, countersInRange_zero, ⟨_, rfl⟩, _, rfl⟩

/-- A part whose FRAMING_ERRORS counter stands one below its maximum, at it, or at 0. -/
def benchCount (n : Nat) : State := { bench with live := { Counters.zero with framingErrors := n } }

theorem witness_ACounterSaturatesAtItsMaximum : ∀ n ∈ [0, 4294967294, 4294967295], CountersInRange (benchCount n).live := by
  intro n hn
  refine Moves.getPut (k := .framingErrors) (v := n) countersInRange_zero ?_
  simp only [List.mem_cons, List.not_mem_nil, or_false] at hn
  simp only [Config.counterMax]; omega

/-! ### The port -/

theorem witness_IdentifyAndTheFlagRequestsAnswer : bench.running = true := by decide +kernel

/-- Unknown kinds 0x00 and 0x35; IDENTIFY with a payload; GET_CLOCK while STARTING; and a refusal. -/
theorem witness_ThePortChecksInOrderAndRefusalsChangeNothing :
    Kind.ofCode 0x00 = none ∧ Kind.ofCode 0x35 = none ∧ Kind.ofCode 0x01 = some .identify ∧ serviceOf .identify [0] = none
      ∧ (∃ k f, Kind.ofCode 0x34 = some k ∧ serviceOf k [0, 0, 0, 1] = some f ∧ k ≠ .identify ∧ k ≠ .getStatus
        ∧ State.reset.loader.device ≠ .running)
      ∧ (serveRequest 0x00 [] bench).result ≠ .ok ∧ (serveRequest 0x00 [] bench).result ≠ .adjusted := by
  refine ⟨by decide, by decide, by decide, rfl, ⟨.readCounters, _, by decide, rfl, by decide, by decide, by decide⟩, ?_, ?_⟩
    <;> decide +kernel

/-- A frame of the longest payload at an idle port, at a port with a request before it, and at a full port. -/
theorem witness_AFrameIsQueuedAnsweredBusyOrDiscarded :
    (List.replicate 240 (0 : Byte)).length ≤ 240 ∧ bench.port.queue = [] ∧ bench.port.restartDue = false
      ∧ (∀ r ∈ bench.port.replies, r.origin = .busy) ∧ ¬ benchFull.port.queue.length < 4 ∧ ¬ benchFull.port.busyList.length < 4
      ∧ ({ benchFull.port with replies := [] } : Port).busyList.length < 4 := by decide +kernel

/-- The bench with its receiver in a frame. -/
def benchRx (l : List Byte) (rxLast : Tick) : State := { bench with port := { bench.port with rx := .inFrame l, rxLast := rxLast } }

/-- HUNT; a gap of 21 ms, and of 20; a length of 241, and of 240; a frame's last byte, with a check that agrees and one that does
not; and a byte before the last. The frame is IDENTIFY with tag 7. The characters of its start of frame: whole, with a low stop bit, and with
a high start bit. -/
theorem witness_BytesAssembleOrDiscardFrames :
    bench.port.rx = .hunt ∧ (benchRx [] 0).port.rx = .inFrame []
      ∧ 20 < ({ benchRx [] 0 with tick := 21 } : State).tick.since 0 ∧ ¬ 20 < ({ benchRx [] 0 with tick := 20 } : State).tick.since 0
      ∧ ([1, 7] : List Byte).length = 2 ∧ 240 < (241 : Byte).toNat ∧ (240 : Byte).toNat ≤ 240
      ∧ (∃ hi lo : Byte, hi ++ lo = crc16 [1, 7, 0] ∧ [1, 7, 0, hi] ++ [lo] = 1 :: 7 :: BitVec.ofNat 8 ([] : List Byte).length :: [] ++ [hi, lo])
      ∧ ((0 : Byte) ++ (0 : Byte) ≠ crc16 [1, 7, 0])
      ∧ (∃ n : Byte, ([1, 7, 0, 0] : List Byte)[2]? = some n ∧ n.toNat ≤ 240 ∧ ¬ ([1, 7, 0, 0] : List Byte).length + 1 < n.toNat + 5)
      ∧ (∃ n : Byte, ([1, 7, 0] : List Byte)[2]? = some n ∧ n.toNat ≤ 240 ∧ ([1, 7, 0] : List Byte).length + 1 < n.toNat + 5)
      ∧ Carries 0b1101001010 0xA5
      ∧ ((0b0101001010 : Character).getLsbD 0 = false ∧ (0b0101001010 : Character).getLsbD 9 = false)
      ∧ (0b1101001011 : Character).getLsbD 0 = true := by
  refine ⟨rfl, rfl, by decide, by decide, rfl, by decide, by decide,
    ⟨(crc16 [1, 7, 0]).extractLsb 15 8, (crc16 [1, 7, 0]).extractLsb 7 0, by decide +kernel, by decide +kernel⟩, by decide +kernel,
    ⟨0, by decide⟩, ⟨0, by decide⟩, (carries_iff ..).2 (by decide), by decide, by decide⟩

/-- A reply of a queued request with a request behind it, and a BUSY reply. -/
def benchReplies (o : ReplyOrigin) (kind : Byte) : State :=
  { bench with port := { bench.port with
    queue := [{ waitingRequest 1 0 [] with executed := true }, waitingRequest 1 1 []]
    replies := [{ origin := o, kind := kind, tag := 0, result := .ok, fields := [] }] } }

theorem witness_AReplySentFreesThePort : (bench.port.replies = []
      ∧ ({ bench with port := { bench.port with restartDue := true } } : State).port.restartDue = true)
    ∧ ∀ o ∈ [ReplyOrigin.queued, .busy, .direct],
    (benchReplies o 1).port.restartDue = false ∧ (benchReplies o 1).port.replies ≠ []
      ∧ ∀ r ∈ (benchReplies o 1).port.replies, ¬ (r.kind = Kind.restart.code ∧ r.result = .ok) := by decide +kernel

theorem witness_ResetsBringEveryBlockUp : bench.running = true
    ∧ (∃ r rest, (benchReplies .queued Kind.restart.code).port.replies = r :: rest ∧ r.kind = Kind.restart.code ∧ r.result = .ok)
    ∧ (benchReplies .queued Kind.restart.code).port.restartDue = false
    ∧ ({ bench with port := { bench.port with restartDue := true } } : State).port.restartDue = true :=
  ⟨by decide +kernel, ⟨_, _, rfl, rfl, rfl⟩, rfl, rfl⟩

/-! ### Chapter 1 -/

theorem bench_zone (z : Nat) (x : Zone) : bench.zone z = some x → z = 5 ∧ x = z5 :=
  entries (fun z x => z = 5 ∧ x = z5) (by decide +kernel) z x

/-- Z5 alone names S9. -/
theorem bench_namers : ZonesInOrder bench (fun x => x.cfg.controlSensor = some 9) [5] := by
  refine ⟨by decide, fun z => ⟨fun h => ?_, fun ⟨x, hx, _⟩ => by simp [(bench_zone z x hx).1]⟩⟩
  obtain rfl : z = 5 := by simpa using h
  exact ⟨z5, rfl, rfl⟩

/-- A new CEILING sensor at the top of the table and at the ends of the address range; S9 again with another address; and S9 set
disabled, and kept enabled with the ends of the scale's range. -/
theorem witness_SensorsAreDefinedAndSet :
    (∀ r ∈ ([{ index := 63, kind := 0, line := 0, address := 0x08, scale := some 1023, fallCoeff := some 0, riseCoeff := some 17 },
        { index := 0, kind := 1, line := 1, address := 0x5A, enabled := some 0 },
        { index := 9, kind := 0, line := 0, address := 0x77, enabled := some 1, scale := some 64 }] : List DefineSensor),
      Undisturbed bench ∧ bench.sensors.length = Config.nSensors ∧ r.index < Config.nSensors
        ∧ (∃ kind, SensorKind.ofCode r.kind = some kind ∧ bench.kindFree r.index kind = true)
        ∧ r.line < 2 ∧ 0x08 ≤ r.address ∧ r.address ≤ 0x77 ∧ ¬ (r.line = 0 ∧ r.address = 0x5A) ∧ (∀ v ∈ r.enabled, v ≤ 1)
        ∧ (∀ v ∈ r.scale, 64 ≤ v ∧ v ≤ 1023)
        ∧ (∀ j x, j ≠ r.index → bench.sensor j = some x → ¬ (x.line = r.line ∧ x.address = r.address))
        ∧ (sensorsBeside bench r.index r.line).length < 32)
      ∧ bench.sensor 9 = some s9 ∧ ZonesInOrder bench (fun x => x.cfg.controlSensor = some 9) [5]
      ∧ ∀ r ∈ ([{ index := 9, enabled := some 0, scale := some 64 }, { index := 9, enabled := some 1, scale := some 1023 }] :
          List SetSensor),
        r.index < Config.nSensors ∧ bench.sensor r.index = some s9 ∧ (∀ v ∈ r.enabled, v ≤ 1)
          ∧ (∀ v ∈ r.scale, 64 ≤ v ∧ v ≤ 1023) := by
  have h : ∀ j x, bench.sensor j = some x → j = 9 ∧ x.line = 0 ∧ x.address = 0x21 ∨ j = 40 ∧ x.line = 1 ∧ x.address = 0x30 :=
    entries (fun j (x : Sensor) => j = 9 ∧ x.line = 0 ∧ x.address = 0x21 ∨ j = 40 ∧ x.line = 1 ∧ x.address = 0x30) (by decide +kernel)
  refine ⟨?_, by decide +kernel, bench_namers, by decide +kernel⟩
  intro r hr
  simp only [List.mem_cons, List.not_mem_nil, or_false] at hr
  obtain rfl | rfl | rfl := hr
  · refine ⟨bench_undisturbed, by decide +kernel, by decide, ⟨.ceiling, by decide, by decide +kernel⟩, by decide, by decide, by decide,
      by decide, by decide, by decide, ?_, by decide +kernel⟩
    intro j x _ hx; have := h j x hx; simp only; omega
  · refine ⟨bench_undisturbed, by decide +kernel, by decide, ⟨.window, by decide, by decide +kernel⟩, by decide, by decide, by decide,
      by decide, by decide, by decide, ?_, by decide +kernel⟩
    intro j x _ hx; have := h j x hx; simp only; omega
  · refine ⟨bench_undisturbed, by decide +kernel, by decide, ⟨.ceiling, by decide, by decide +kernel⟩, by decide, by decide, by decide,
      by decide, by decide, by decide, ?_, by decide +kernel⟩
    intro j x _ hx; have := h j x hx; simp only; omega

/-- The bench with a further sensor S63 that nothing names. -/
def benchSpare : State := { bench with sensors := bench.sensors.set 63 (some { s9 with address := 0x77 }) }

theorem witness_DeleteSensorEmptiesTheEntry :
    (Undisturbed bench ∧ (bench.sensor 9).isSome = true ∧ (∃ z, Names bench 9 z) ∧ ∃ g ∈ bench.segments, g.cfg.windowSensor = some 40)
      ∧ Undisturbed benchSpare ∧ 63 < Config.nSensors ∧ (benchSpare.sensor 63).isSome = true ∧ (∀ z, ¬ Names benchSpare 63 z)
      ∧ ∀ g ∈ benchSpare.segments, g.cfg.windowSensor ≠ some 63 := by
  refine ⟨⟨bench_undisturbed, by decide +kernel, ⟨5, z5, by decide +kernel, by decide⟩, by decide +kernel⟩, bench_undisturbed,
    by decide, by decide +kernel, ?_, by decide +kernel⟩
  rintro z ⟨x, hx, hn⟩
  exact entries (fun _ (x : Zone) => x.cfg.controlSensor ≠ some 63) (by decide +kernel) z x hx hn

/-- Zone fields at the ends of their ranges. -/
def zoneFields : ZoneFields :=
  { controlSensor := some 9, group1 := some 15, group2 := some 0xFF, defaultCurve := some 3, lmin := some 500
    fallbackLevel := some 1000, profile := some 3, occInput := some 7, upRate := some 16, downRate := some 0
    deadband := some 201, offDelay := some 60, onMargin := some 500, enabled := some 1 }

theorem zoneFields_inRange : ZoneFieldsInRange zoneFields := by constructor <;> decide

theorem zoneFields_free (z : Nat) : ZoneRefsFree bench z zoneFields := by
  constructor
  · intro i hi _
    simp only [zoneFields, Option.mem_def, Option.some.injEq] at hi
    subst hi
    exact ⟨s9, by decide +kernel, rfl⟩
  · intro y x hx _
    obtain ⟨-, rfl⟩ := bench_zone y x hx
    decide

/-- The bench without gear. -/
def benchBare : State := { bench with gear := List.replicate 192 none }

theorem benchBare_gear (i : Nat) (g : Gear) : benchBare.gearAt i ≠ some g := fun h =>
  entries (fun _ _ => False) (by decide +kernel) i g h

/-- Z5 without gear, in an override that has been counted from tick 0 where it is in one. -/
def benchBareWith (x : Zone) : State := { benchBare with zones := bench.zones.set 5 (some x) }

/-- A new zone at the ends of its ranges; and Z5 without gear, outside an override and in one. -/
theorem witness_ZonesAreMadeAndDeleted :
    (let r : DefineZone := { index := 47, segment := 15, band := 2, fields := zoneFields }
     Undisturbed bench ∧ bench.zones.length = Config.nZones ∧ r.index < Config.nZones ∧ bench.zone r.index = none
        ∧ Band.ofCode r.band = some .c ∧ r.segment < Config.nSegments ∧ ZoneFieldsInRange r.fields ∧ ZoneRefsFree bench r.index r.fields
        ∧ ∀ y x, bench.zone y = some x → ¬ (x.cfg.segment = r.segment ∧ x.cfg.band = .c))
      ∧ (∀ x, Undisturbed (benchBareWith x) ∧ (benchBareWith x).zone 5 = some x ∧ (∀ i g, (benchBareWith x).gearAt i = some g → g.cfg.role ≠ .driver 5)
        ∧ 5 < (benchBareWith x).live.zones.length)
      ∧ 5 < Config.nZones ∧ z5.rem.mark = none ∧ (z5Over none).rem.mark = some 0 := by
  refine ⟨⟨bench_undisturbed, by decide +kernel, by decide, by decide +kernel, by decide, by decide, zoneFields_inRange,
    zoneFields_free _, ?_⟩, fun x => ⟨bench_undisturbed, rfl, fun i g h => absurd h (benchBare_gear i g),
      show 5 < bench.live.zones.length by decide +kernel⟩,
    by decide, rfl, rfl⟩
  intro y x hx
  obtain ⟨-, rfl⟩ := bench_zone y x hx
  decide

/-- Fields at the ends of their ranges, a raised minimum with another group, a disabling, an enabling, and a zone without a sensor. -/
theorem witness_ADefinedZoneIsRedefined :
    (∀ x ∈ [z5, { z5 with cfg := { z5def with enabled := false }, state := .disabled }, z5Over none],
      Undisturbed (benchZone x) ∧ (benchZone x).zone 5 = some x
      ∧ ∀ f ∈ [zoneFields, { enabled := some 0 }, { enabled := some 1 }, { controlSensor := some 0xFF }, { lmin := some 301, group1 := some 4 }],
        ZoneFieldsInRange f ∧ ZoneRefsFree (benchZone x) 5 f)
      ∧ Band.ofCode 1 = some .b ∧ 5 < Config.nZones ∧ 0 < Config.nSegments
      ∧ ∀ x y w, (benchZone x).zone y = some w → y ≠ 5 → ¬ (w.cfg.segment = 0 ∧ w.cfg.band = .b) := by
  have only : ∀ x y w, (benchZone x).zone y = some w → y ≠ 5 → False := by
    intro x y w hw hy
    refine absurd (bench_zone y w ?_).1 hy
    unfold State.zone at hw ⊢
    rwa [show (benchZone x).zones = bench.zones.set 5 (some x) from rfl, entryAt_set, if_neg (fun e => hy e.1.symm)] at hw
  refine ⟨fun x _ => ⟨bench_undisturbed, rfl, fun f hf => ⟨?_, ?_, fun y w hw hy => (only x y w hw hy).elim⟩⟩,
    by decide, by decide, by decide, fun x y w hw hy => (only x y w hw hy).elim⟩
  · simp only [List.mem_cons, List.not_mem_nil, or_false] at hf
    obtain rfl | rfl | rfl | rfl | rfl := hf <;> constructor <;> decide
  · intro i hi hne
    simp only [List.mem_cons, List.not_mem_nil, or_false] at hf
    obtain rfl | rfl | rfl | rfl | rfl := hf <;> simp [zoneFields] at hi <;> subst hi
    · exact ⟨s9, show bench.sensor 9 = some s9 by decide +kernel, rfl⟩
    · exact absurd rfl hne

/-- SEG3 without a window sensor, and SEG15 with S40 and every other field at an end of its range. -/
theorem witness_DefineSegmentStoresTheEntry : Undisturbed bench ∧ (bench.segment 3).cfg.windowSensor = some 40
    ∧ ∀ r ∈ ([{ index := 3 }, { index := 15, windowSensor := some 40, glareThreshold := some 1000, releaseThreshold := some 999
                                glareDelay := some 5, releaseDelay := some 60, glarePosition := some 100, openPosition := some 100
                                settle := some 120, travelTimeout := some 255, retryLimit := some 5 }] : List DefineSegment),
      r.index < Config.nSegments ∧ 1000 ≤ r.glareThreshold.getD 20000 ∧ r.glareThreshold.getD 20000 ≤ 60000
        ∧ 1 ≤ r.releaseThreshold.getD 8000 ∧ r.releaseThreshold.getD 8000 < r.glareThreshold.getD 20000
        ∧ 5 ≤ r.glareDelay.getD 60 ∧ r.glareDelay.getD 60 ≤ 600 ∧ 60 ≤ r.releaseDelay.getD 900 ∧ r.releaseDelay.getD 900 ≤ 3600
        ∧ r.glarePosition.getD 80 ≤ 100 ∧ r.openPosition.getD 0 ≤ 100 ∧ r.settle.getD 20 ≤ 120 ∧ 5 ≤ r.travelTimeout.getD 90
        ∧ r.travelTimeout.getD 90 ≤ 255 ∧ r.retryLimit.getD 2 ≤ 5
        ∧ ∀ i ∈ refGiven none r.windowSensor, i < 64 ∧ ∃ c, bench.sensor i = some c ∧ c.kind = .window := by
  refine ⟨bench_undisturbed, by decide +kernel, ?_⟩
  intro r hr
  simp only [List.mem_cons, List.not_mem_nil, or_false] at hr
  obtain rfl | rfl := hr
  · refine ⟨by decide, by decide, by decide, by decide, by decide, by decide, by decide, by decide, by decide, by decide, by decide,
      by decide, by decide, by decide, by decide, ?_⟩
    simp [refGiven]
  · refine ⟨by decide, by decide, by decide, by decide, by decide, by decide, by decide, by decide, by decide, by decide, by decide,
      by decide, by decide, by decide, by decide, ?_⟩
    intro i hi
    simp [refGiven] at hi
    subst hi
    exact ⟨by decide, s40, by decide +kernel, rfl⟩

theorem bench_gear (i : Nat) (g : Gear) : bench.gearAt i = some g → i = 17 ∧ g = g17 ∨ i = 60 ∧ g = g60 :=
  entries (fun i g => i = 17 ∧ g = g17 ∨ i = 60 ∧ g = g60) (by decide +kernel) i g

theorem bench_address (line address j : Nat) (g : Gear) (h : bench.gearAt j = some g) :
    g.cfg.line = line ∧ g.cfg.address = address → j = 17 ∧ line = 1 ∧ address = 17 ∨ j = 60 ∧ line = 1 ∧ address = 20 := by
  rintro ⟨rfl, rfl⟩
  obtain ⟨rfl, rfl⟩ | ⟨rfl, rfl⟩ := bench_gear j g h
  · exact .inl ⟨rfl, rfl, rfl⟩
  · exact .inr ⟨rfl, rfl, rfl⟩

/-- A new driver and a new shade; gear 17 again with the same identity and new parameters. -/
theorem witness_DefineGearMakesAGearOrKeepsItsRuntime :
    (Undisturbed bench ∧ bench.gear.length = Config.nGear ∧ ∀ r ∈ ([{ index := 191, line := 3, address := 47, kind := 1, owner := 15 },
        { index := 0, line := 1, address := 0, kind := 0, owner := 5, curve := some 3, trim := some 128, minValue := some 254
          lossLevel := some 0 }] : List DefineGear), bench.gearAt r.index = none ∧ GearFieldsInRange r ∧ GearRefsFree bench r)
      ∧ let r : DefineGear := { index := 17, line := 1, address := 17, kind := 0, owner := 5, trim := some 256, lossLevel := some 10 }
        bench.gearAt 17 = some g17 ∧ GearFieldsInRange r ∧ GearRefsFree bench r ∧ g17.cfg.line = r.line ∧ g17.cfg.address = r.address
          ∧ g17.cfg.role = roleGiven r.kind r.owner := by
  refine ⟨⟨bench_undisturbed, by decide +kernel, ?_⟩, by decide +kernel, by constructor <;> decide, ?_, rfl, rfl, by decide⟩
  · intro r hr
    simp only [List.mem_cons, List.not_mem_nil, or_false] at hr
    obtain rfl | rfl := hr
    · refine ⟨by decide +kernel, by constructor <;> decide, fun h => by simp at h, ?_, by decide +kernel⟩
      intro j g hg _ h; have := bench_address _ _ j g hg h; simp at this
    · refine ⟨by decide +kernel, by constructor <;> decide, by decide +kernel, ?_, fun h => by simp at h⟩
      intro j g hg _ h; have := bench_address _ _ j g hg h; simp at this
  · refine ⟨by decide +kernel, ?_, fun h => by simp at h⟩
    intro j g hg hj h; have := bench_address _ _ j g hg h; simp at this hj; exact hj this

/-- Gear 17 moved to another address, gear 60 to another segment, and gear 17 made a shade. -/
theorem witness_DefineGearReplacesTheStaticFields : Undisturbed bench
    ∧ ∀ r ∈ ([{ index := 17, line := 0, address := 47, kind := 0, owner := 5 }, { index := 60, line := 1, address := 20, kind := 1, owner := 0 },
        { index := 17, line := 1, address := 17, kind := 1, owner := 3 }] : List DefineGear),
      (∃ g, bench.gearAt r.index = some g) ∧ GearFieldsInRange r ∧ GearRefsFree bench r := by
  refine ⟨bench_undisturbed, ?_⟩
  intro r hr
  simp only [List.mem_cons, List.not_mem_nil, or_false] at hr
  obtain rfl | rfl | rfl := hr
  · refine ⟨⟨g17, by decide +kernel⟩, by constructor <;> decide, by decide +kernel, ?_, fun h => by simp at h⟩
    intro j g hg _ h; have := bench_address _ _ j g hg h; simp at this
  · refine ⟨⟨g60, by decide +kernel⟩, by constructor <;> decide, fun h => by simp at h, ?_, by decide +kernel⟩
    intro j g hg hj h; have := bench_address _ _ j g hg h; simp at this hj; exact hj this
  · refine ⟨⟨g17, by decide +kernel⟩, by constructor <;> decide, fun h => by simp at h, ?_, by decide +kernel⟩
    intro j g hg hj h; have := bench_address _ _ j g hg h; simp at this hj; exact hj this

theorem witness_DeleteGearRemovesTheGear : Undisturbed bench ∧ 17 < Config.nGear ∧ bench.gearAt 17 = some g17
    ∧ g17.cfg.role = .driver 5 ∧ 60 < Config.nGear ∧ bench.gearAt 60 = some g60 ∧ g60.cfg.role = .shade 3 ∧ 3 < bench.segments.length
    ∧ ∀ j h, bench.gearAt j = some h → j ≠ 60 → h.cfg.role ≠ .shade 3 := by
  refine ⟨bench_undisturbed, by decide, by decide +kernel, rfl, by decide, by decide +kernel, rfl, by decide +kernel, ?_⟩
  intro j h hj h60
  obtain ⟨rfl, rfl⟩ | ⟨rfl, rfl⟩ := bench_gear j h hj
  · decide
  · exact absurd rfl h60

theorem witness_DefineCurveStoresThePoints : Undisturbed bench ∧ 3 < Config.nCurves
    ∧ ∀ p ∈ [[0, 0, 0, 0, 0, 0, 0, 0, 0], [0, 32, 64, 95, 127, 159, 191, 222, 254], [254, 254, 254, 254, 254, 254, 254, 254, 254]],
      p.length = 9 ∧ (∀ v ∈ p, v ≤ 254) ∧ p.Pairwise (· ≤ ·) :=
  ⟨bench_undisturbed, by decide, by decide⟩

/-- The index limits of the reads at the ends of the tables; every device that is RUNNING meets the rest. -/
theorem witness_DefinitionReadsAnswerTheStoredFields : bench.running = true ∧ bench.sensor 9 = some s9 ∧ bench.sensor 63 = none
    ∧ bench.zone 5 = some z5 ∧ bench.zone 47 = none ∧ bench.gearAt 17 = some g17 ∧ bench.gearAt 191 = none := by decide +kernel

theorem witness_StateReadsAnswerTheStateAsItStands : bench.running = true ∧ bench.sensor 9 = some s9 ∧ bench.zone 5 = some z5
    ∧ bench.gearAt 17 = some g17 ∧ (∃ n most first count, 4 = 4 ∧ n = 1 ∧ most = 1 ∧ first < n ∧ 1 ≤ count ∧ count ≤ most ∧ first + count ≤ n)
    ∧ (∃ first count, 1 ≤ count ∧ count ≤ 24 ∧ first + count ≤ 48) ∧ (∃ first count, first ≤ 31 ∧ 1 ≤ count ∧ count ≤ 12)
    ∧ GearInOrder bench (fun h => h.cfg.role = .shade 3) [60] :=
  ⟨by decide +kernel, by decide +kernel, by decide +kernel, by decide +kernel, ⟨1, 1, 0, 1, by decide⟩, ⟨24, 24, by decide⟩, ⟨31, 12, by decide⟩,
    gear_inOrder _ rfl _ (by decide +kernel) (by decide)⟩

/-! ### Chapters 2 to 5 -/

/-- The bench with period 0 of profile 1 on Mondays from 08:00 to 12:00. -/
def benchPeriod : State :=
  { bench with periods := (List.replicate 32 none).set 0 (some ⟨1, 0b0000001, 480, 720, 500, 0⟩) }

/-- The ends of the ranges of each parameter request; a period that begins where another of its profile ends, and one on another
day. -/
theorem witness_ParameterRequestsStoreTheirFields :
    benchPeriod.running = true ∧ benchPeriod.saving = false ∧ benchPeriod.sweeping = false
      ∧ (∀ r ∈ ([{ line := 0, speed := some 0, pollInterval := some 100, missLimit := some 1 },
          { line := 1, speed := some 1, pollInterval := some 5000, missLimit := some 15 }] : List SetSensorLine),
        r.line < 2 ∧ (∀ v ∈ r.speed, v ≤ 1) ∧ (∀ v ∈ r.pollInterval, 100 ≤ v ∧ v ≤ 5000) ∧ ∀ v ∈ r.missLimit, 1 ≤ v ∧ v ≤ 15)
      ∧ (∀ n ∈ [1, 10], 1 ≤ n ∧ n ≤ 10) ∧ (∀ n ∈ [1, 120], 1 ≤ n ∧ n ≤ 120)
      ∧ (∀ r ∈ ([⟨31, 1, 1, 720, 1440, 5000, 5001⟩, ⟨1, 1, 126, 0, 1440, 0, 0⟩, ⟨0, 3, 127, 0, 5, 500, 0⟩] : List DefinePeriod),
        r.index < 32 ∧ r.profile < 4 ∧ 1 ≤ r.days ∧ r.days ≤ 127 ∧ r.startMin % 5 = 0 ∧ r.endMin % 5 = 0
          ∧ r.startMin < r.endMin ∧ r.endMin ≤ 1440
          ∧ ∀ j q, benchPeriod.period j = some q → j ≠ r.index → q.profile = r.profile → BitVec.ofNat 7 r.days &&& q.days ≠ 0 →
            q.endMin ≤ r.startMin ∨ r.endMin ≤ q.startMin)
      ∧ (benchPeriod.period 0).isSome = true := by
  refine ⟨by decide +kernel, by decide +kernel, by decide +kernel, by decide, by decide, by decide, ?_, by decide +kernel⟩
  have h : ∀ j q, benchPeriod.period j = some q → q = ⟨1, 0b0000001, 480, 720, 500, 0⟩ :=
    entries (fun _ (q : Period) => q = ⟨1, 0b0000001, 480, 720, 500, 0⟩) (by decide +kernel)
  intro r hr
  simp only [List.mem_cons, List.not_mem_nil, or_false] at hr
  obtain rfl | rfl | rfl := hr <;>
    refine ⟨by decide, by decide, by decide, by decide, by decide, by decide, by decide, by decide, ?_⟩ <;>
    · intro j q hq _
      cases h j q hq
      decide

theorem witness_WriteContribStoresTheListInZoneOrder :
    let r : WriteContrib := { index := 9, darkOffset := some 255, entries := [(7, 4095), (5, 1)] }
    let s : State := { bench with zones := bench.zones.set 7 (some z5) }
    Undisturbed s ∧ r.index < 64 ∧ s.sensor r.index = some s9 ∧ r.entries.length ≤ 8
      ∧ (∀ e ∈ r.entries, (s.zone e.1).isSome = true ∧ e.1 < 48 ∧ 1 ≤ e.2 ∧ e.2 ≤ 4095) ∧ (r.entries.map Prod.fst).Nodup
      ∧ ∀ v ∈ r.darkOffset, v ≤ 255 :=
  ⟨bench_undisturbed, by decide, by decide +kernel, by decide, by decide +kernel, by decide, by decide⟩

/-- A sensor whose filter falls, rises, and stays, with coefficients at the ends of their range. -/
theorem witness_AFilterStepMovesTowardTheEstimate :
    ∀ x ∈ [{ s9 with contrib := [], lux := 120, fallCoeff := 16 }, { s9 with contrib := [], lux := 410, riseCoeff := 1 },
        { s9 with contrib := [], lux := 353 }],
      (({ bench with sensors := bench.sensors.set 9 (some x) } : State).sensor 9 = some x) ∧ x.primed = true ∧ 1 ≤ x.fallCoeff
        ∧ x.fallCoeff ≤ 16 ∧ 1 ≤ x.riseCoeff ∧ x.riseCoeff ≤ 16 ∧ x.daylightF ≤ 65535 := by decide +kernel

/-- The bench during a transaction with S9. -/
def benchTxn (discard : Bool) : State :=
  { bench with sensorLines := [{ SensorLine.factory with
      scan := .scanning, txn := some { sensor := 9, sent := 0x43, speed := .khz100, start := 0, discard := discard } }, SensorLine.factory] }

/-- S9's reply in the worked conversion of chapter 2, with its check. -/
def s9Reply : SensorReply := { status := 0x11, countHigh := 0x03, countLow := 0xE8, check := crc8 [0x11, 0x03, 0xE8] }

theorem segments_named (seg : Nat) : seg ∈ [3] ↔ ∃ g, bench.segments[seg]? = some g ∧ g.cfg.windowSensor = some 40 := by
  have h : ∀ e ∈ bench.segments.zipIdx, e.1.cfg.windowSensor = some 40 → e.2 = 3 := by decide +kernel
  refine ⟨fun hs => ?_, fun ⟨g, hg, hw⟩ => ?_⟩
  · obtain rfl : seg = 3 := by simpa using hs
    exact ⟨_, rfl, by decide +kernel⟩
  · have := h (g, seg) (List.mem_zipIdx_iff_getElem?.mpr hg) hw
    simpa using this

/-- S40, which SEG3 alone names as its window sensor, and a transaction with S9. -/
theorem witness_AGoodReadingIsTaken :
    (bench.sensor 40 = some s40 ∧ [3].Pairwise (· < ·)
        ∧ ∀ seg, seg ∈ [3] ↔ ∃ g, bench.segments[seg]? = some g ∧ g.cfg.windowSensor = some 40)
      ∧ ((benchTxn false).sensorLine (0 : Fin 2)).txn = some { sensor := 9, sent := 0x43, speed := .khz100, start := 0, discard := false }
      ∧ (benchTxn false).sensor 9 = some s9 ∧ s9.health ≠ .disabled ∧ goodAnswer s9Reply :=
  ⟨⟨by decide +kernel, by decide, segments_named⟩, rfl, by decide +kernel, by decide, by unfold goodAnswer; decide +kernel⟩

/-- No answer, an answer whose check does not agree, and one that is not ready; with the outcome kept, and discarded where it is good
too; and the zone that names S9. -/
theorem witness_AMissIsCounted :
    (∀ d, ((benchTxn d).sensorLine (0 : Fin 2)).txn = some { sensor := 9, sent := 0x43, speed := .khz100, start := 0, discard := d })
      ∧ (benchTxn false).sensor 9 = some s9 ∧ (∀ a ∈ (none : Option SensorReply), ¬ goodAnswer a)
      ∧ (∀ a ∈ some { s9Reply with countLow := 0xE9 }, ¬ goodAnswer a)
      ∧ goodAnswer s9Reply ∧ ZonesInOrder bench (fun x => x.cfg.controlSensor = some 9) [5]
      ∧ ∀ a ∈ some { s9Reply with status := 0x10, check := crc8 [0x10, 0x03, 0xE8] }, ¬ goodAnswer a := by
  refine ⟨fun _ => rfl, by decide +kernel, by simp, ?_, by unfold goodAnswer; decide +kernel, bench_namers, ?_⟩ <;> intro a ha <;> cases ha <;> unfold goodAnswer <;> decide +kernel

/-- The bench with a save in progress. -/
def benchSave (phase : SavePhase) (page attempts : Nat) (addressed : Bool) : State :=
  { bench with loader := { bench.loader with
      save := some { phase := phase, slot := 0, generation := 1, pages := [List.replicate 64 0, List.replicate 64 1], page := page
                     attempts := attempts, addressed := addressed, poll := none } } }

/-- The bench with SL0 in a scanner state and its interval expired. -/
def benchScan (scan : ScanState) (last : Option Nat) : State :=
  { bench with sensorLines := [{ SensorLine.factory with
      scan := scan, lastVisited := last, interval := some ⟨0, 500⟩ }, SensorLine.factory] }

theorem visits_s9 (s : State) (hs : s.sensors = bench.sensors) (hl : (s.sensorLine 0).lastVisited = none) : VisitsNext s 0 9 := by
  have e : ∀ j, s.sensor j = bench.sensor j := fun j => by unfold State.sensor; rw [hs]
  refine ⟨⟨s9, by rw [e]; decide +kernel, rfl, rfl⟩, by simp [hl], ?_⟩
  rintro j ⟨x, hx, hline, -⟩ -
  rw [e] at hx
  exact entries (fun j (x : Sensor) => x.line = 0 → 9 ≤ j) (by decide +kernel) j x hx hline

/-- Each scanner state with an expired interval, a cycle that visits S9, one with nothing left to visit, and no interval; no save, one
that waits for SL0 and one that has it; and a completion with Z5, also in an override whose time is counted from tick 0. -/
theorem witness_TheScannerVisitsItsSensorsInOrder :
    (∀ scan last, (benchScan scan last).sensorLines.length = 2 ∧ ((benchScan scan last).sensorLine (0 : Fin 2)).interval.isSome = true
        ∧ ((benchScan scan last).sensorLine (0 : Fin 2)).scan = scan)
      ∧ VisitsNext (benchScan .scanning none) 0 9
      ∧ (∀ i, ¬ VisitsNext { benchScan .waiting none with sensors := [] } 0 i)
      ∧ (bench.sensorLine (0 : Fin 2)).interval = none ∧ (∀ j, (benchScan .scanning none).loader.save = some j → j.phase ≠ .waitGrant)
      ∧ (∃ j, (benchSave .waitGrant 0 0 false).loader.save = some j ∧ j.phase = .waitGrant)
      ∧ (∀ j, (benchSave .writing 0 0 false).loader.save = some j → j.phase ≠ .waitGrant)
      ∧ ZonesInOrder bench (fun x => x.cfg.enabled = true ∧ evalLineOf bench x = (0 : Fin 2)) [5]
      ∧ OverriddenOn (benchZone (z5Over none)) 0 (z5Over none) ∧ (z5Over none).rem.mark = some 0
      ∧ 5 < (benchZone (z5Over none)).live.zones.length := by
  have none_waits : bench.loader.save = none := rfl
  refine ⟨fun _ _ => ⟨rfl, rfl, rfl⟩, visits_s9 _ rfl rfl, ?_, rfl, ?_, ⟨_, rfl, rfl⟩, ?_, ⟨by decide, fun z => ⟨?_, ?_⟩⟩,
    ⟨rfl, by decide +kernel⟩, rfl, show 5 < bench.live.zones.length by decide +kernel⟩
  · rintro i ⟨⟨x, hx, -⟩, -⟩
    simp [State.sensor, entryAt] at hx
  · intro j hj
    rw [show (benchScan .scanning none).loader.save = none from none_waits] at hj
    cases hj
  · intro j hj
    cases hj
    decide
  · intro h
    obtain rfl : z = 5 := by simpa using h
    exact ⟨z5, rfl, rfl, by decide +kernel⟩
  · rintro ⟨x, hx, -⟩
    simp [(bench_zone z x hx).1]

/-- Z5 of the period's profile, at a minute of a Monday. -/
def benchAt (valid : Bool) (hour minute : Nat) : State :=
  { benchPeriod with clock := { bench.clock with valid := valid, hour := hour, minute := minute, weekday := 0 } }

/-- Z5 leaving an override; its period's first minute, the minute after its last, and no valid clock; TRACKING and FALLBACK; the need's
sign; the five cases of the slew at their ends; and the greatest rate code. -/
theorem witness_AZoneIsResolvedAndEvaluated :
    (∀ x, (benchZone x).zone 5 = some x ∧ 5 < (benchZone x).live.zones.length)
      ∧ (let x := { z5Over none with overrideActive := false }
        x.state = .override ∧ stateByOrder (benchZone x) 5 x ≠ .override ∧ x.rem.mark = some 0)
      ∧ (let x := { z5 with cfg := { z5def with profile := 1 } }
        let covers := fun (s : State) i (q : Period) => s.period i = some q ∧ q.profile = x.cfg.profile
          ∧ q.days.getLsbD s.clock.weekday = true ∧ q.startMin ≤ 60 * s.clock.hour + s.clock.minute
          ∧ 60 * s.clock.hour + s.clock.minute < q.endMin
        covers (benchAt true 8 0) 0 ⟨1, 0b0000001, 480, 720, 500, 0⟩ ∧ (∀ j p, j < 0 → ¬ covers (benchAt true 8 0) j p)
          ∧ (benchAt true 8 0).clock.valid = true ∧ (benchAt false 8 0).clock.valid = false
          ∧ ∀ i q, ¬ covers (benchAt true 12 0) i q)
      ∧ z5.state = .tracking ∧ ({ z5 with state := .fallback } : Zone).state = .fallback
      ∧ (∀ need ∈ [-5, 0, 1], 0 < 500 ∧ 0 < (Demand.mk need 410).gain)
      ∧ (∀ level ∈ [0, 100, 120, 1000], ∀ target ∈ [0, 100, 120, 121, 1000], LevelLegal 100 level ∧ LevelLegal 100 target)
      ∧ 15 ≤ 15 := by
  refine ⟨fun _ => ⟨rfl, show 5 < bench.live.zones.length by decide +kernel⟩, by decide +kernel, ⟨by decide +kernel, fun j _ hj => absurd hj (by omega),
    rfl, rfl, ?_⟩, rfl, rfl, by decide, by unfold LevelLegal; decide, by decide⟩
  rintro i q ⟨hq, -, -, -, h⟩
  have : q.endMin ≤ 720 := entries (fun _ (q : Period) => q.endMin ≤ 720) (l := (benchAt true 12 0).periods) (by decide +kernel) i q hq
  simp only [show (benchAt true 12 0).clock.hour = 12 from rfl, show (benchAt true 12 0).clock.minute = 0 from rfl] at h
  omega

theorem witness_OverrideZoneTakesTheLevel : bench.running = true ∧ bench.sweeping = false ∧ bench.zone 5 = some z5 ∧ z5.cfg.enabled = true
    ∧ (∀ level ∈ [0, 1, 1000], ∀ duration ∈ [0, 1440], level ≤ 1000 ∧ duration ≤ 1440)
    ∧ ∃ x, ({ bench with zones := bench.zones.set 47 (some { z5 with cfg := { z5def with enabled := false }, state := .disabled }) } :
        State).zone 47 = some x ∧ x.cfg.enabled = false ∧ x.state = .disabled :=
  ⟨by decide +kernel, by decide +kernel, by decide +kernel, rfl, by decide, _, rfl, rfl, rfl⟩

theorem witness_AnOverrideEnds : bench.running = true ∧ bench.zone (5 : Fin 48) = some z5 ∧ z5.overrideActive = false
    ∧ (∀ e, ({ bench with zones := bench.zones.set 5 (some (z5Over e)) } : State).zone (5 : Fin 48) = some (z5Over e)
      ∧ (z5Over e).overrideActive = true ∧ (z5Over e).state = .override ∧ (z5Over e).rem.mark = some 0 ∧ (z5Over e).cfg.enabled = true)
    ∧ (5 : Fin 48).val < bench.live.zones.length :=
  ⟨by decide +kernel, by decide +kernel, rfl, fun _ => ⟨rfl, rfl, rfl, rfl, rfl⟩, by decide +kernel⟩

/-- The bench during a sweep in a state, with its settle timer and with or without a measured sensor. -/
def benchSweep (st : SweepState) (m : List Measured) : State :=
  { bench with sweep := { Sweep.atReset with
    state := st, zones := [5], current := some 5, measured := m, settle := some ⟨0, 30000⟩ } }

/-- Z5's output is settled where its driver is clean and nothing waits on GL1, by a check of the gear table. -/
theorem settled_of {s : State} (gear : List (Option Gear)) (hs : s.gear = gear)
    (h : gear.zipIdx.all (fun e => e.1.all fun g => decide (g.cfg.role = .driver 5 → g.state = .silent ∨ g.dirty = .clear)) = true)
    (hq : ∀ l, (s.gearLine l).queue = []) : Settled s 5 := by
  refine .inr ⟨fun i g hg hr => ?_, fun x l k _ _ _ => by simp [hq]⟩
  unfold State.gearAt at hg
  rw [hs] at hg
  exact (entries (fun _ (g : Gear) => g.cfg.role = .driver 5 → g.state = .silent ∨ g.dirty = .clear) h i g hg hr).imp_right
    fun hc => ⟨hc, by simp [hq]⟩

/-- A sweep of GAINS alone, and one of both parts over every enabled zone, with parameters at the ends of their ranges, with Z5 at a
level and at 0, where no other zone is enabled; and each settle state with Z5's output settled and with its value waiting. -/
theorem witness_StartCalibrationStartsTheSweep : (∀ level, Undisturbed (benchZone { z5 with level := level }))
    ∧ (∀ level, TablesWhole (benchZone { z5 with level := level }))
    ∧ (∀ level, ∀ r ∈ ([{ parts := 2, zones := [5], settle := some 5, gainFloor := some 1, driftLimit := some 100 },
        { parts := 3, zones := [5], settle := some 120, gainFloor := some 100, driftLimit := some 1 }] : List StartCalibration),
      SweepMayStart (benchZone { z5 with level := level }) r)
    ∧ (let t := after (.startCalibration 0 { parts := 2, zones := [5] }) (benchZone { z5 with level := 0 })
      Settled t 5)
    ∧ (([] : List Nat).Pairwise (· < ·) ∧ ∀ z, z ∈ ([] : List Nat) ↔ z ∉ [5] ∧ ∃ x, bench.zone z = some x ∧ x.cfg.enabled = true)
    ∧ (∀ st, Settled (benchSweep st []) 5) ∧ ∀ st, (benchSweep st []).sweep.state = st ∧ (benchSweep st []).sweep.zones = [5]
      ∧ (benchSweep st []).sweep.current = some 5
      ∧ ¬ Settled { benchSweep st [] with gearLines := (benchLine (lineWith (waiting .setValue 17) [])).gearLines } 5 := by
  refine ⟨fun _ => bench_undisturbed, fun _ => ?_, fun level => ?_, ?_,
    ⟨.nil, fun z => ⟨fun h => by simp at h, fun ⟨h, x, hx, _⟩ => absurd (bench_zone z x hx).1 (by simpa using h)⟩⟩,
    fun st => settled_of bench.gear rfl (by decide +kernel) (bench_quiet _ rfl),
    fun st => ⟨rfl, rfl, rfl, ?_⟩⟩
  · constructor
    case zones => exact (List.length_set ..).trans bench_whole.zones
    exacts [bench_whole.sensors, bench_whole.sensorLines, bench_whole.segments, bench_whole.gear, bench_whole.curves,
      bench_whole.gearLines, bench_whole.calResults, bench_whole.profiles, bench_whole.periods, bench_whole.occ]
  · have hl : ∀ i g z, (benchZone { z5 with level := level }).gearAt i = some g → g.cfg.role = .driver z →
        g.cfg.line < 4 ∧ ((benchZone { z5 with level := level }).gearLine g.cfg.line).state = .up := by
      intro i g z hg _
      obtain ⟨-, rfl⟩ | ⟨-, rfl⟩ := bench_gear i g hg <;> exact ⟨by decide, rfl⟩
    have hz : ∀ z x, (benchZone { z5 with level := level }).zone z = some x → z = 5 ∧ x.state = .tracking := by
      intro z x hx
      unfold State.zone at hx
      rw [show (benchZone { z5 with level := level }).zones = bench.zones.set 5 (some { z5 with level := level }) from rfl, entryAt_set] at hx
      split at hx
      · rename_i h
        cases hx
        exact ⟨h.1.symm, rfl⟩
      · obtain ⟨h, rfl⟩ := bench_zone z x hx
        exact ⟨h, rfl⟩
    have hg : ∀ g ∈ bench.segments, g.state ≠ .moving ∧ g.state ≠ .settling := by decide +kernel
    intro r hr
    simp only [List.mem_cons, List.not_mem_nil, or_false] at hr
    obtain rfl | rfl := hr <;>
    · refine ⟨by decide, by decide, fun z hz => by simp at hz; subst hz; exact ⟨by decide, _, rfl, rfl⟩, by decide, by decide, by decide,
        ?_, fun z x hx _ => by rw [(hz z x hx).2]; decide, hg, fun i g z h hr _ => hl i g z h hr⟩
      intro _ z x hx _
      simp [(hz z x hx).1]
  · exact settled_of _ rfl (by decide +kernel) (bench_quiet _ (by decide +kernel))
  · rintro (h | ⟨h, -⟩)
    · exact h 17 g17 rfl rfl
    · rcases h 17 g17 rfl rfl with h | ⟨-, h⟩
      · exact absurd h (by decide)
      · exact h ⟨waiting .setValue 17, List.mem_cons_self, rfl, rfl, rfl⟩

/-- A list of eight gains at S9, for zones 10 to 17, of which zone 17's is the weakest. -/
def fullList : List Contrib := (List.range 8).map fun i => ⟨10 + i, 4095 - 100 * i⟩

/-- Two measured sensors whose collections have closed, one with a reading and one without. -/
def measuredTwo : List Measured := [⟨9, some 51, some 462, .closed (some 53)⟩, ⟨40, none, none, .closed none⟩]

/-- The bench during a sweep of Z5, with Z6 in HOLD for it. -/
def benchHeld : State :=
  { benchSweep .restoreSettle [] with
    zones := bench.zones.set 6 (some { z5 with cfg := { z5def with band := .b, groups := ⟨none, none, none, none⟩ }, state := .hold, holdCal := true }) }

/-- `benchHeld` with the set's zones resolved, and then with the other zones freed. -/
def benchFreed : State × State :=
  let resolved := benchHeld.sweep.zones.foldl (fun u z => State.resolve z u) benchHeld
  (resolved, [6].foldl (fun u z => State.setCalHold z false u) resolved)

/-- Z6 alone is held for the sweep, and every group is in AUTO. -/
theorem benchFreed_lists : ZonesInOrder benchFreed.1 (fun x => x.holdCal = true) [6] ∧ (List.range 16).Pairwise (· < ·)
    ∧ ∀ seg, seg ∈ List.range 16 ↔ ∃ g, benchFreed.2.segments[seg]? = some g ∧ g.manual = false := by
  refine ⟨⟨by decide, fun z => ⟨fun h => ?_, fun ⟨x, hx, hc⟩ => ?_⟩⟩, by decide, fun seg => ⟨fun h => ?_, fun ⟨g, hg, _⟩ => ?_⟩⟩
  · obtain rfl : z = 6 := by simpa using h
    have hz : (benchFreed.1.zone 6).map Zone.holdCal = some true := by decide +kernel
    obtain ⟨x, hx, hc⟩ := Option.map_eq_some_iff.mp hz
    exact ⟨x, hx, hc⟩
  · have := entries (l := benchFreed.1.zones) (fun z (x : Zone) => x.holdCal = true → z = 6) (by decide +kernel) z x hx hc
    simp [this]
  · have hl : seg < benchFreed.2.segments.length := by
      rw [show benchFreed.2.segments.length = 16 by decide +kernel]; exact List.mem_range.mp h
    exact ⟨_, List.getElem?_eq_getElem hl,
      (show ∀ g ∈ benchFreed.2.segments, g.manual = false by decide +kernel) _ (List.getElem_mem hl)⟩
  · have hl := (List.getElem?_eq_some_iff.mp hg).1
    rw [show benchFreed.2.segments.length = 16 by decide +kernel] at hl
    exact List.mem_range.mpr hl

/-- Without a sweep; each settle state; a collection that is open, at its last cycle and at its last reading; closed collections in
each read state; Z5 in CALIBRATING and not; Z6 held for a sweep; and gains below and at the floor at a list with room and at a full one. -/
theorem witness_ASweepIsAbortedOrReads :
    (bench.running = true ∧ bench.sweeping = false ∧ bench.sweep.settle = none)
      ∧ (∀ st ∈ [SweepState.baseSettle, .stepSettle, .restoreSettle, .baseRead, .stepRead, .restoreRead], ∀ m,
        (benchSweep st m).running = true ∧ (benchSweep st m).sweeping = true ∧ (benchSweep st m).sweep.state = st
          ∧ (benchSweep st m).sweep.settle.isSome = true ∧ (benchSweep st m).sweep.measured = m ∧ (benchSweep st m).sweep.current = some 5)
      ∧ measuredTwo ≠ [] ∧ 3 < 4 ∧ (∃ m ∈ [Measured.mk 9 none none (.opened 7 3 100)], ∃ c g v, m.coll = .opened c g v)
      ∧ (∀ m ∈ measuredTwo, m.coll = .closed (if m.sensor = 9 then some 53 else none)) ∧ (measuredTwo.map Measured.sensor).Nodup
      ∧ (benchZone { z5 with state := .calibrating }).zone 5 = some { z5 with state := .calibrating } ∧ z5.state ≠ .calibrating
      ∧ (∀ x, ({ bench with sensors := bench.sensors.set 9 (some x) } : State).sensor 9 = some x)
      ∧ (∀ l ∈ [s9.contrib, fullList], (l.map Contrib.zone).Pairwise (· < ·) ∧ l.length ≤ 8)
      ∧ (fullList.filter fun c => c.zone != 5).length = 8 ∧ Weakest (fullList.filter fun c => c.zone != 5) ⟨17, 3395⟩
      ∧ (ZonesInOrder benchFreed.1 (fun x => x.holdCal = true) [6] ∧ (List.range 16).Pairwise (· < ·)
        ∧ ∀ seg, seg ∈ List.range 16 ↔ ∃ g, benchFreed.2.segments[seg]? = some g ∧ g.manual = false)
      ∧ ([(9, 410)].map Prod.fst).Nodup ∧ (∀ k, (9, k) ∈ [(9, 4)] → k < 5) ∧ (9, 410) ∈ [(9, 410)] ∧ 5 ≤ 410 := by
  refine ⟨by decide +kernel, fun st hst m => ?_, by decide, by decide, ⟨_, List.mem_cons_self, 7, 3, 100, rfl⟩, by decide, by decide, rfl, by decide,
    fun _ => rfl, by decide, by decide, by unfold Weakest; decide, benchFreed_lists, by decide, by simp, by simp, by decide⟩
  simp only [List.mem_cons, List.not_mem_nil, or_false] at hst
  refine ⟨show bench.running = true by decide +kernel, ?_, rfl, rfl, rfl, rfl⟩
  obtain rfl | rfl | rfl | rfl | rfl | rfl := hst <;> rfl

/-! ### Chapter 6 -/

theorem witness_ALevelGivesAValueThroughTheCurve : factoryCurve.length = 9 ∧ factoryCurve.Pairwise (· ≤ ·)
    ∧ ∀ level ∈ [1, 124, 125, 875, 999, 1000], 0 < level ∧ level ≤ 1000 := by decide

/-- GL1 with this many entries, none of them for gear 17 or for a group. -/
def lineDeep (n : Nat) (congested : Bool) : GearLine :=
  { lineUp with queue := (List.range n).map fun i => waiting .setValue (100 + i), congested := congested }

/-- An arrival at a line that is not UP, for a SILENT gear and for a dirty one; one that joins the entry that waits for it; one that
takes the last place of a queue and one that finds none; the dirty set; and Z5's driver offered its own value and its group's. -/
theorem witness_LevelsReachTheTransmitQueues :
    let a := arriving (.gear 17) .setValue 65 none .zone
    let with17 := fun g : Gear => ({ bench with gear := bench.gear.set 17 (some g) } : State)
    (∀ x, (benchLine x).gearLines[1]? = some x)
      ∧ (∀ x, x.state ≠ .up → DropsArrival (benchLine x) x false a) ∧ (GearLine.factory true).state ≠ .up
      ∧ DropsArrival (with17 { g17 with state := .silent }) lineUp true a
      ∧ DropsArrival (with17 { g17 with dirty := .value }) lineUp false a
      ∧ (∀ x, x.state = .up → ¬ DropsArrival (benchLine x) x false a)
      ∧ (WaitsLike a (waiting .setValue 17) ∧ ¬ WaitsLike a (waiting .setValue 18) ∧ ¬ WaitsLike a (flying .setValue 17))
      ∧ (∀ n ∈ [31, 32], ∀ f ∈ (lineDeep n false).queue, ¬ WaitsLike a f)
      ∧ (lineDeep 31 false).queue.length < 32 ∧ 32 ≤ (lineDeep 32 false).queue.length
      ∧ bench.gearAt 17 = some g17 ∧ bench.gearAt 60 = some g60 ∧ bench.zone 5 = some z5
      ∧ GearInOrder (with17 { g17 with dirty := .value }) (fun g => g.cfg.line = 1 ∧ g.dirty ≠ .clear) [17]
      ∧ (∀ x, GearInOrder (benchLine x) (fun g => g.cfg.role = .driver 5 ∧ g.cfg.line = 1) [17])
      ∧ (∀ n ∈ [31, 32], ∀ c, (lineDeep n c).congested = c ∧ (lineDeep n c).state = .up ∧ z5.cfg.groups.on 1 = some 3
        ∧ [17].filter (readyForGroup (benchLine (lineDeep n c)) (lineDeep n c)) ≠ []
        ∧ ∀ f ∈ (lineDeep n c).queue, ¬ WaitsLike (arriving (.group 3) .setValue 71 none .zone) f) := by
  refine ⟨fun _ => rfl, fun _ h => .inl h, by decide, .inr ⟨17, _, rfl, rfl, .inl ⟨rfl, by decide⟩⟩, .inr ⟨17, _, rfl, rfl, .inr ⟨by decide, rfl, .inl rfl⟩⟩,
    ?_, ?_, ?_, by decide, by decide, rfl, rfl, rfl, gear_inOrder _ rfl _ (by decide +kernel) (by decide), fun _ => gear_inOrder bench.gear rfl _ (by decide +kernel) (by decide), ?_⟩
  · rintro x hx (h | ⟨i, g, hi, hg, h⟩)
    · exact h hx
    · cases hi
      cases (show some g17 = some g from hg)
      rcases h with ⟨h, -⟩ | ⟨h, -⟩ <;> revert h <;> decide
  · unfold WaitsLike; decide
  · unfold WaitsLike; decide
  · unfold WaitsLike; decide +kernel

theorem witness_SetGearLineStoresTheParameters : Undisturbed bench ∧ bench.gearLines[1]? = some lineUp ∧ 8 ≤ lineUp.highWatermark
    ∧ ∀ r ∈ ([{ line := 1, rateCode := some 7, attemptLimit := some 7, highWatermark := some 0, lowWatermark := some 40, auditInterval := some 60 },
        { line := 1, rateCode := some 2, attemptLimit := some 1, highWatermark := some 200, lowWatermark := some 0, auditInterval := some 0 }] :
          List SetGearLine),
      r.line < 4 ∧ (∀ v ∈ r.rateCode, v ≤ 7) ∧ (∀ v ∈ r.attemptLimit, 1 ≤ v ∧ v ≤ 7) ∧ ∀ v ∈ r.auditInterval, v ≤ 60 :=
  ⟨bench_undisturbed, by decide +kernel, by decide, by decide⟩

/-- Every state of a line and both levels of its supply; a sweep of Z5, which GL1 serves and GL0 does not; and no sweep. -/
theorem witness_LineControlMovesTheLine : (benchLine lineUp).running = true
    ∧ (∀ (st : LineState) (b : Bool), (benchLine { lineUp with state := st, supply := b }).gearLines[1]? = some { lineUp with state := st, supply := b })
    ∧ lineUp.state = .up ∧ (benchSweep .preparing []).sweeping = true ∧ (benchSweep .preparing []).gearLines[1]? = some lineUp
    ∧ ServesSweep (benchSweep .preparing []) 1 ∧ ¬ ServesSweep (benchSweep .preparing []) 0 ∧ (benchLine lineUp).sweeping = false :=
  ⟨by decide +kernel, fun _ _ => rfl, rfl, rfl, rfl, ⟨17, g17, 5, rfl, rfl, rfl, by decide +kernel⟩, fun ⟨i, g, _, hg, hl, _⟩ => by
    obtain ⟨-, rfl⟩ | ⟨-, rfl⟩ := bench_gear i g hg <;> exact absurd hl (by decide), by decide +kernel⟩

/-- No level that waits; every state of a line and both raw levels; and a sweep of Z5, which GL1 serves. -/
theorem witness_TheSupplyMovesTheLine : lineUp.supplyDebounce = none
    ∧ (let s : State := { benchSweep .preparing [] with gearLines := (benchLine { lineUp with supplyRaw := false, supplyDebounce := some ⟨0, 20⟩ }).gearLines }
      s.sweeping = true ∧ ServesSweep s 1)
    ∧ ∀ (st : LineState) (b : Bool), let x := { lineUp with state := st, supplyRaw := b, supplyDebounce := some ⟨0, 20⟩ }
      (benchLine x).gearLines[(1 : Fin 4).val]? = some x ∧ x.supplyDebounce.isSome = true ∧ x.supplyRaw = b ∧ x.state = st :=
  ⟨rfl, ⟨rfl, 17, g17, 5, rfl, rfl, rfl, by decide +kernel⟩, fun _ _ => ⟨rfl, rfl, rfl, rfl⟩⟩

theorem witness_AStartedLineIsSetUp : lineUp.state ≠ .starting ∧ lineUp.queue = []
    ∧ let x := { lineUp with state := .starting, settle := some ⟨0, 600⟩ }
      (benchLine x).gearLines[(1 : Fin 4).val]? = some x ∧ x.queue = [] ∧ x.state = .starting ∧ x.settle.isSome = true :=
  ⟨by decide, rfl, rfl, rfl, rfl, rfl⟩

/-- A line that is not UP, with no entry, with an attempt under way, with an entry that waits for its first frame and one that waits
for its resend, and with a group's frame under way. -/
theorem witness_TheHeadEntryIsSent :
    (∀ x, (benchLine x).gearLines[(1 : Fin 4).val]? = some x) ∧ (GearLine.factory true).state ≠ .up ∧ lineUp.queue = []
      ∧ (∀ e, (lineWith e []).queue = e :: [] ∧ (lineWith e []).state = .up) ∧ (waiting .setValue 17).attempting = false
      ∧ (waiting .setValue 17).attempts = 0
      ∧ ({ flying .setValue 17 with attempting := false, attempts := 1 } : Entry).attempting = false ∧ (flying .setValue 17).attempting = true
      ∧ ({ flying .setValue 0 with target := .group 3, group := some 3 } : Entry).target = .group 3
      ∧ ({ flying .setValue 0 with target := .group 3, group := some 3 } : Entry).attempting = true :=
  ⟨fun _ => rfl, by decide, rfl, fun _ => ⟨rfl, rfl⟩, rfl, rfl, rfl, rfl, rfl, rfl⟩

/-- An answer of gear 17, PRESENT and SILENT, and of shade 60, whose group is IDLE or MOVING, to any command: the value that was
sent and another, and the greatest position, each in the characters that carry it. -/
theorem witness_AValidAnswerIsTaken :
    (∀ cmd i g seg, let s : State := { benchLine (lineWith (flying cmd i) []) with gear := bench.gear.set i (some g), segments := seg }
        s.gearLines[(1 : Fin 4).val]? = some (lineWith (flying cmd i) []) ∧ (lineWith (flying cmd i) []).queue = flying cmd i :: []
        ∧ (flying cmd i).attempting = true ∧ (flying cmd i).inFlight = true ∧ (flying cmd i).orphan = false
        ∧ (flying cmd i).target = .gear i ∧ (i < 192 → s.gearAt i = some g) ∧ s.segments = seg)
      ∧ (∀ st, ({ g17 with state := st } : Gear).cfg.line = (1 : Fin 4) ∧ ({ g17 with state := st } : Gear).cfg.role = .driver 5
        ∧ ({ g60 with state := st } : Gear).cfg.line = (1 : Fin 4) ∧ ({ g60 with state := st } : Gear).cfg.role = .shade 3)
      ∧ 17 < 192 ∧ 60 < 192 ∧ (0x41 : Byte).toNat = (flying .setValue 17).wireValue ∧ (0x42 : Byte).toNat ≠ (flying .setValue 17).wireValue
      ∧ (∀ st, (benchSeg { seg3 with state := st }).segments[3]? = some { seg3 with state := st }) ∧ (100 : Byte).toNat ≤ 100
      ∧ (∀ data status, Carries (characterOf data) data ∧ Carries (characterOf status) status
        ∧ Carries (characterOf (gearCheck [data, status])) (gearCheck [data, status])) := by
  refine ⟨fun cmd i g seg => ⟨rfl, rfl, rfl, rfl, rfl, rfl, fun hi => ?_, rfl⟩, fun _ => ⟨rfl, rfl, rfl, rfl⟩, by decide, by decide, by decide, by decide,
    fun _ => rfl, by decide, fun _ _ => ⟨(carries_iff ..).2 rfl, (carries_iff ..).2 rfl, (carries_iff ..).2 rfl⟩⟩
  unfold State.gearAt entryAt
  have : bench.gear.length = 192 := bench_whole.gear
  simp [this, hi]

/-- The three outcomes of a failed attempt at gear 17, present and SILENT: the entry waits below the limit of 3, has used up its
attempts at it, and leaves where a later value supersedes it; an entry of a gear that has gone; heads without an attempt at a gear; a
wrong check, a position above 100, and a low stop bit in each of the three characters. -/
theorem witness_AFailedAttemptIsRetriedOrSilences :
    (∀ e rest, (benchLine (lineWith e rest)).gearLines[(1 : Fin 4).val]? = some (lineWith e rest)
        ∧ (lineWith e rest).queue = e :: rest ∧ (benchLine (lineWith e rest)).gearAt 17 = some g17
        ∧ (benchLine (lineWith e rest)).gearAt 99 = none)
      ∧ g17.cfg.line = (1 : Fin 4) ∧ (∀ cmd i, (flying cmd i).attempting = true ∧ (flying cmd i).target = .gear i)
      ∧ (0xBF : Byte) ≠ gearCheck [0x41, 0x00] ∧ 100 < (101 : Byte).toNat
      ∧ (∀ b : Byte, (characterOf b).getLsbD 0 = false) ∧ (0b0010000010 : Character).getLsbD 0 = false
      ∧ (0b0010000010 : Character).getLsbD 9 = false
      ∧ ([waiting .setValue 17].all fun f => !f.inFlight) = true
      ∧ attemptFailed (lineWith (flying .setValue 17) []) { flying .setValue 17 with attempts := 1 } [] = .waits
      ∧ attemptFailed (lineWith (flying .setValue 17) []) { flying .setValue 17 with attempts := 2 } [] = .exhausted
      ∧ attemptFailed (lineWith (flying .setValue 17) [waiting .setValue 17]) (flying .setValue 17) [waiting .setValue 17] = .leaves
      ∧ attemptFailed (lineWith (flying .setValue 99) []) { flying .setValue 99 with orphan := true } [] = .leaves
      ∧ (∀ e, (lineWith (waiting .setValue 17) []).queue.head? = some e → e.attempting = true → ∃ k, e.target = .group k)
      ∧ ∀ e, (lineWith { flying .setValue 0 with target := .group 3 } []).queue.head? = some e → e.attempting = true → ∃ k, e.target = .group k := by
  refine ⟨fun _ _ => ⟨rfl, rfl, rfl, rfl⟩, rfl, fun _ _ => ⟨rfl, rfl⟩, by decide, by decide,
    fun b => characterOf_getLsbD b (by decide), by decide, by decide, by decide, by decide, by decide, by decide, by decide, ?_, ?_⟩
  · intro e he ha
    cases he
    cases ha
  · intro e he _
    cases he
    exact ⟨3, rfl⟩

/-- The bench's line and gear: no visit, the first after none, the next, and the return to the lowest. -/
theorem witness_TheAuditVisitsTheNextGear :
    (∀ x, (benchLine x).gearLines[(1 : Fin 4).val]? = some x) ∧ (GearLine.factory true).state ≠ .up ∧ lineUp.state = .up
      ∧ lineUp.audit.isSome = true ∧ lineUp.congested = false ∧ ({ lineUp with congested := true } : GearLine).congested = true
      ∧ (∀ i, ¬ ∃ g, bench.gearAt i = some g ∧ g.cfg.line = (2 : Fin 4))
      ∧ let here := fun i => ∃ g, bench.gearAt i = some g ∧ g.cfg.line = (1 : Fin 4)
        (lineUp.auditPos = none ∧ ∀ j, here j → 17 ≤ j) ∧ (17 < 60 ∧ ∀ j, here j → 17 < j → 60 ≤ j) ∧ ∀ j, here j → j ≤ 60 := by
  have h : ∀ i g, bench.gearAt i = some g → (i = 17 ∨ i = 60) ∧ g.cfg.line = 1 := by
    intro i g hg
    obtain ⟨rfl, rfl⟩ | ⟨rfl, rfl⟩ := bench_gear i g hg <;> decide
  refine ⟨fun _ => rfl, by decide, rfl, rfl, rfl, rfl, ?_, ⟨rfl, ?_⟩, ⟨by decide, ?_⟩, ?_⟩
  · rintro i ⟨g, hg, hl⟩
    have := (h i g hg).2
    rw [hl] at this
    simp at this
  all_goals
    rintro j ⟨g, hg, -⟩
    have := (h j g hg).1
    omega

/-! ### Chapter 7 -/

/-- Groups in every state, in AUTO and MANUAL, whose one active gear has no position or has the target; the group without gear; the
zone of SEG3; and a glare timer that does not run or has its delay. -/
theorem witness_ShadeCommandsMoveTheGroup : bench.running = true ∧ bench.sweeping = false
    ∧ (∀ (st : ShadeState) (m : Bool), let g := { seg3 with state := st, manual := m }
      (benchSeg g).segments[3]? = some g ∧ GearInOrder (benchSeg g) (fun h => h.cfg.role = .shade 3 ∧ h.shadeFaulted = false) [60]
        ∧ GearInOrder (benchSeg g) (fun h => h.cfg.role = .shade 3) [60] ∧ GearInOrder (benchSeg g) (fun h => h.cfg.role = .shade 0) []
        ∧ (benchSeg g).gearAt 60 = some g60)
    ∧ (∀ p ∈ [0, 100], ∀ d ∈ [0, 1440], p ≤ 100 ∧ d ≤ 1440) ∧ g60.position = none
    ∧ (∀ p : Nat, let s : State := { bench with gear := bench.gear.set 60 (some { g60 with position := some p }) }
      ∀ i ∈ [60], ∀ h, s.gearAt i = some h → h.position = some p)
    ∧ (∀ z, z ∈ [5] ↔ ∃ x, bench.zone z = some x ∧ x.cfg.segment = 3)
    ∧ seg3.glareStart = none ∧ (let g := { seg3 with phase := .glarePending, glareStart := some 0, glareLen := 60 }
      g.glareLen = g.delay) := by
  refine ⟨by decide +kernel, by decide +kernel, fun _ _ => ⟨rfl, gear_inOrder bench.gear rfl _ (by decide +kernel) (by decide),
    gear_inOrder bench.gear rfl _ (by decide +kernel) (by decide), gear_inOrder bench.gear rfl _ (by decide +kernel) (by decide), rfl⟩,
    by decide, rfl, ?_, fun z => ⟨?_, ?_⟩, rfl, by decide⟩
  · intro p s i hi h hh
    simp only [List.mem_cons, List.not_mem_nil, or_false] at hi
    subst hi
    cases (show some { g60 with position := some p } = some h from hh)
    rfl
  · intro h
    simp only [List.mem_cons, List.not_mem_nil, or_false] at h
    subst h
    exact ⟨z5, rfl, rfl⟩
  · rintro ⟨x, hx, -⟩
    simp [(bench_zone z x hx).1]

/-- Groups in every state, in AUTO and MANUAL, with a target and without, whose gear is faulted or not; in a sweep and outside one. -/
theorem witness_ClearShadeFaultClearsTheGroup : bench.running = true ∧ (benchSweep .baseSettle []).running = true
    ∧ (benchSweep .baseSettle []).sweeping = true ∧ bench.sweeping = false
    ∧ (∀ (st : ShadeState) (m : Bool) (p : Option Nat), let g := { seg3 with state := st, manual := m, target := p }
      (benchSeg g).segments[3]? = some g ∧ GearInOrder (benchSeg g) (fun h => h.cfg.role = .shade 3 ∧ h.shadeFaulted = true) [])
    ∧ GearInOrder { bench with gear := bench.gear.set 60 (some { g60 with shadeFaulted := true }) }
      (fun h => h.cfg.role = .shade 3 ∧ h.shadeFaulted = true) [60] :=
  ⟨by decide +kernel, by decide +kernel, by decide +kernel, by decide +kernel,
    fun _ _ _ => ⟨rfl, gear_inOrder bench.gear rfl _ (by decide +kernel) (by decide)⟩,
    gear_inOrder _ rfl _ (by decide +kernel) (by decide)⟩

/-- SEG3 in a travel and in a settle, whose gear has not arrived. -/
theorem witness_TheTravelTimersAct :
    let x := { seg3 with state := .moving, target := some 50, travel := some ⟨0, 90000⟩, query := some ⟨0, 2000⟩ }
    let y := { seg3 with state := .settling, settle := some ⟨0, 20000⟩ }
    (benchSeg x).segments[(3 : Fin 16).val]? = some x ∧ x.state = .moving ∧ x.query.isSome = true ∧ x.travel.isSome = true
      ∧ ((benchSeg x).activeGear 3).filter (fun i => !(benchSeg x).hasArrived 3 i) ≠ []
      ∧ (benchSeg y).segments[(3 : Fin 16).val]? = some y ∧ y.settle.isSome = true ∧ y.state ≠ .moving ∧ seg3.settle = none := by
  decide +kernel

theorem witness_TheGlareTimersAct : (∀ g, (benchSeg g).segments[(3 : Fin 16).val]? = some g)
    ∧ (let x := { seg3 with phase := .glarePending, glareStart := some 0 }
      x.phase = .glarePending ∧ x.glareStart.isSome = true ∧ x.phase ≠ .releasePending)
    ∧ (let x := { seg3 with phase := .releasePending, glareStart := some 0 }
      x.phase = .releasePending ∧ x.glareStart.isSome = true ∧ x.phase ≠ .glarePending)
    ∧ (let x := { seg3 with manual := true, manualExpiry := some 60000 }
      x.manual = true ∧ x.manualExpiry.isSome = true)
    ∧ seg3.manual = false ∧ (benchSweep .baseSettle []).sweeping = true ∧ bench.sweeping = false
    ∧ ∀ phase, let x := { seg3 with phase := phase, glareStart := some 0, glareLen := 1 }
      x.manual = false ∧ x.glareStart = some 0 ∧ x.glareLen ≠ x.delay :=
  ⟨fun _ => rfl, by decide, by decide, by decide, rfl, by decide +kernel, by decide +kernel,
    fun phase => ⟨rfl, rfl, by cases phase <;> decide⟩⟩

/-! ### Chapters 8 and 9 -/

/-- Dates at the ends of their ranges; a stopped crystal; the carries of second, minute, hour, day, month, year and the range's end. -/
theorem witness_TheClockIsSetAndAdvances : bench.running = true
    ∧ (∀ r ∈ ([⟨2000, 1, 1, 0, 0, 0⟩, ⟨2099, 12, 31, 23, 59, 59⟩, ⟨2024, 2, 29, 12, 30, 0⟩] : List SetClock),
      2000 ≤ r.year ∧ r.year ≤ 2099 ∧ 1 ≤ r.month ∧ r.month ≤ 12 ∧ 1 ≤ r.day ∧ r.day ≤ daysInMonth r.year r.month ∧ r.hour ≤ 23
        ∧ r.minute ≤ 59 ∧ r.second ≤ 59)
    ∧ bench.clock.stopped = false ∧ bench.clock.second < 59
    ∧ (∀ c ∈ [{ bench.clock with valid := true, minute := 29, second := 59 }, { bench.clock with minute := 58, second := 59 }],
      c.stopped = false ∧ c.second = 59 ∧ c.minute < 59 ∧ c.hour ≤ 23)
    ∧ (let c := { bench.clock with valid := true, hour := 22, minute := 59, second := 59 }
      c.stopped = false ∧ c.second = 59 ∧ c.minute = 59 ∧ c.hour < 23)
    ∧ ∀ c ∈ [{ bench.clock with hour := 23, minute := 59, second := 59, year := 2099, month := 12, day := 31 },
        { bench.clock with hour := 23, minute := 59, second := 59, year := 2023, month := 12, day := 31 },
        { bench.clock with hour := 23, minute := 59, second := 59, year := 2023, month := 2, day := 28 },
        { bench.clock with hour := 23, minute := 59, second := 59, year := 2024, month := 2, day := 28 }],
      c.stopped = false ∧ c.second = 59 ∧ c.minute = 59 ∧ c.hour = 23 ∧ c.month ≤ 12 ∧ c.day ≤ daysInMonth c.year c.month := by
  decide +kernel

/-- The bench with this OCC2. -/
def benchOcc (o : OccInput) : State := { bench with occ := (List.replicate 8 (OccInput.factory false)).set 2 o }

theorem witness_OccupancyFollowsItsInput : (∀ o, (benchOcc o).occ[(2 : Fin 8).val]? = some o)
    ∧ (∀ o, (benchOcc o).zone (5 : Fin 48) = some z5) ∧ (OccInput.factory false).debounce = none
    ∧ ({ OccInput.factory false with raw := true, debounce := some ⟨0, 50⟩ } : OccInput).debounce.isSome = true :=
  ⟨fun _ => rfl, fun _ => rfl, rfl, rfl⟩

theorem witness_SnapshotCopiesAndClears : bench.running = true ∧ (0 ≤ 1 ∧ 1 ≤ 1) := ⟨by decide +kernel, by decide⟩

/-! ### Chapter 11 -/

/-- The image of the factory state. -/
def factoryImage : RawImage :=
  { sensors := [], zones := [], gear := [], periods := [], shadeQuery := 2
    segments := (List.range 16).map fun i =>
      { index := i, windowSensor := some 255, glareThreshold := some 20000, releaseThreshold := some 8000, glareDelay := some 60
        releaseDelay := some 900, glarePosition := some 80, openPosition := some 0, settle := some 20, travelTimeout := some 90
        retryLimit := some 2 }
    curves := (List.range 4).map fun i => (i, [0, 32, 64, 95, 127, 159, 191, 222, 254])
    sensorLines := (List.range 2).map fun l => { line := l, speed := some 0, pollInterval := some 500, missLimit := some 3 }
    gearLines := (List.range 4).map fun l =>
      ({ line := l, rateCode := some 5, attemptLimit := some 3, highWatermark := some 24, lowWatermark := some 8
         auditInterval := some 10 }, 1)
    profiles := (List.range 4).map fun p => (p, 500, 0)
    occ := (List.range 8).map fun i => (i, 15) }

theorem factoryBody_read : readWhole readBody State.reset.imageBody = some factoryImage := by decide +kernel

theorem factoryImage_sound : (factoryImage.recordsOk && (State.reset.withImage factoryImage).consistent) = true := by decide +kernel

theorem test_factory_image : imageOf State.reset State.reset.imageBody = some factoryImage := by
  unfold imageOf
  rw [factoryBody_read]
  simp only [factoryImage_sound, if_true]

/-- The factory state with a zone Z5 of SEG3, enabled and without a control sensor or an input. -/
def zonedReset : State := { State.reset with zones := State.reset.zones.set 5 (some (Zone.fresh (zoneDefaults 3 .a) false)) }

theorem zonedImage : ∃ m x, imageOf State.reset zonedReset.imageBody = some m ∧ (State.reset.withImage m).zone 5 = some x := by
  have h : ((imageOf State.reset zonedReset.imageBody).any fun m => ((State.reset.withImage m).zone 5).isSome) = true := by decide +kernel
  obtain ⟨m, hm, hz⟩ := Option.any_eq_true _ _ |>.mp h
  obtain ⟨x, hx⟩ := Option.isSome_iff_exists.mp hz
  exact ⟨m, x, hm, hx⟩

/-- The last page of the factory image's body. -/
def lastPage : List Byte := State.reset.imageBody.drop 384 ++ List.replicate 18 0

/-- The load of the factory image with its last page to come. -/
def lastJob : LoadJob :=
  { slot := 0, page := 7, attempts := 0, addressed := true, body := State.reset.imageBody.take 384, later := [], second := false, txn := none
    finding0 := .candidate 1 430 (crc16 State.reset.imageBody).toNat, finding1 := .blank }

theorem lastPage_body : (lastJob.body ++ lastPage).take 430 = State.reset.imageBody := by decide +kernel

theorem imageOf_loading (j : LoadJob) (s : State) (l : List Byte) : imageOf (loading j s) l = imageOf s l := rfl

/-- A start-up delay; no load; the headers of both slots; a page that is not the last; the last page of the factory image, with its check
and with another; a failed page with and without a further candidate; and an image with a zone. -/
theorem witness_TheAutoloadReadsTheSlots :
    (State.reset.loader.device = .starting ∧ State.reset.loader.startup.isSome = true ∧ bench.loader.device ≠ .starting
        ∧ bench.loader.load = none)
      ∧ (∀ j, (loading j State.reset).loader.load = some j ∧ (loading j State.reset).gearLines.length = 4
        ∧ (loading j State.reset).sensorLines.length = 2)
      ∧ (∀ slot page attempts, let j := { lastJob with slot := slot, page := page, attempts := attempts }
        j.slot = slot ∧ j.page = page ∧ j.attempts = attempts)
      ∧ (List.replicate 64 (0 : Byte)).length = 64 ∧ lastPage.length = 64 ∧ lastJob.page ≠ 0
      ∧ lastJob.finding lastJob.slot = .candidate 1 430 (crc16 State.reset.imageBody).toNat
      ∧ (∀ b : List Byte, (crc16 b).toNat ≠ 65536)
      ∧ ([] : List Byte).length + 64 < 430 ∧ 430 ≤ lastJob.body.length + 64
      ∧ (crc16 ((lastJob.body ++ lastPage).take 430)).toNat = (crc16 State.reset.imageBody).toNat
      ∧ imageOf (loading lastJob State.reset) ((lastJob.body ++ lastPage).take 430) = some factoryImage
      ∧ ({ lastJob with attempts := 2, later := [1] } : LoadJob).later = 1 :: [] ∧ ({ lastJob with attempts := 2 } : LoadJob).later = []
      ∧ (∃ m x, imageOf State.reset zonedReset.imageBody = some m ∧ (State.reset.withImage m).zone 5 = some x)
      ∧ State.reset.sweep.state = .idle := by
  refine ⟨⟨rfl, rfl, by decide, rfl⟩, fun _ => ⟨rfl, rfl, rfl⟩, fun _ _ _ => ⟨rfl, rfl, rfl⟩, by decide, by decide +kernel, by decide, rfl,
    fun b => Nat.ne_of_lt (crc16 b).isLt, by decide, by decide +kernel, by rw [lastPage_body], ?_, rfl, rfl, zonedImage, rfl⟩
  rw [lastPage_body, imageOf_loading, test_factory_image]

/-- The generation's wrap, a save in each phase, below and at its last attempt, and SL0 paused for it; a transaction with S9 and none. -/
theorem witness_ASaveWritesAndVerifiesItsPages :
    Undisturbed bench ∧ bench.loader.knownGen < 2 ^ 32
      ∧ ({ bench.loader with knownGen := 2 ^ 32 - 1 } : Loader).knownGen + 1 = 2 ^ 32
      ∧ (∀ phase page attempts addressed, ∃ j, (benchSave phase page attempts addressed).loader.save = some j ∧ j.phase = phase
        ∧ j.page = page ∧ j.attempts = attempts ∧ j.addressed = addressed)
      ∧ (∃ x, (benchScan .paused none).sensorLines[0]? = some x ∧ x.scan = .paused ∧ x.cycleOpen = false ∧ x.startPending = false)
      ∧ (∀ open? pending, let x := { SensorLine.factory with scan := .paused, cycleOpen := open?, startPending := pending }
        ({ bench with sensorLines := [x, SensorLine.factory] } : State).sensorLines[0]? = some x ∧ x.scan = .paused
          ∧ x.cycleOpen = open? ∧ x.startPending = pending)
      ∧ (∃ x, (benchScan .stopped none).sensorLines[0]? = some x ∧ x.scan ≠ .paused)
      ∧ (∃ t, ((benchTxn false).sensorLine 0).txn = some t) ∧ (bench.sensorLine 0).txn = none :=
  ⟨bench_undisturbed, by decide, rfl, fun _ _ _ _ => ⟨_, rfl, rfl, rfl, rfl, rfl⟩, ⟨_, rfl, rfl, rfl, rfl⟩,
    fun _ _ => ⟨rfl, rfl, rfl, rfl⟩, ⟨_, rfl, by decide⟩, ⟨_, rfl⟩, rfl⟩

theorem witness_LoadDefaultsRestoresTheFactoryState : Undisturbed bench ∧ TablesWhole bench := ⟨bench_undisturbed, bench_whole⟩

/-- The last attempt at the header of slot 1, after two whose address byte was not acknowledged, and a slot 0 that never answered. -/
def lastHeaderJob : LoadJob :=
  { slot := 1, page := 0, attempts := 2, addressed := false, finding0 := .noMemory, finding1 := .unread, body := []
    later := [], second := false, txn := some ⟨0, 25⟩ }

/-- R193, step 1: where no attempt at either header had its address byte acknowledged the memory is absent, also where the last one
timed out; one acknowledged address byte makes the header damaged. -/
theorem test_timeoutBeforeTheAddressAck :
    (after .memoryTransactionTimeout (loading lastHeaderJob State.reset)).loader.loadReport
      = if State.timeoutAcked State.reset lastHeaderJob then some .defaultsDamaged else some .defaultsNoMemory := by
  have h : ∀ acked, (State.pageFailed acked lastHeaderJob (loading lastHeaderJob State.reset)).loader.loadReport
      = if acked then some .defaultsDamaged else some .defaultsNoMemory := by decide +kernel
  exact h _

/-! ### One command each, from the spec's worked sequences -/

/-- The results of the replies that wait. -/
def results (s : State) : List Result := s.port.replies.map Reply.result

/-- The bench before zone Z5 is defined, with an empty list at S9. -/
def benchZoneless : State :=
  { bench with
    zones := List.replicate 48 none, gear := List.replicate 192 none
    sensors := bench.sensors.set 9 (some { s9 with contrib := [] }) }

/-- Before RUNNING, whatever the other checks; during a save and during a sweep; an index at its bound; an entry that is not
defined; S9 and S40, which Z5 and SEG3 name; Z5, which gear 17 drives; a taken address; and lists of nine points and of eight. -/
theorem witness_TheFloorModelsRequestsAreCheckedInOrder :
    (∀ checks, FirstFails ((State.reset.running = true, .notReady) :: checks) .notReady)
      ∧ (∀ s ∈ [benchSave .writing 0 0 false, benchSweep .baseSettle []], ∀ more,
        FirstFails ((s.running = true, .notReady) :: (Quiet s, .conflict) :: more) .conflict)
      ∧ (∀ (bound : Nat) more, FirstFails ((bench.running = true, .notReady) :: (Quiet bench, .conflict)
        :: (bound < bound, .outOfRange) :: more) .outOfRange)
      ∧ (∀ more, FirstFails ((bench.running = true, .notReady) :: (Quiet bench, .conflict) :: (63 < 64, .outOfRange)
        :: ((bench.sensor 63).isSome = true, .noSuch) :: more) .noSuch)
      ∧ (∀ i ∈ [9, 40], FirstFails [(bench.running = true, .notReady), (Quiet bench, .conflict), (i < 64, .outOfRange),
        ((bench.sensor i).isSome = true, .noSuch),
        ((∀ z, ¬ Names bench i z) ∧ ∀ g ∈ bench.segments, g.cfg.windowSensor ≠ some i, .inUse)] .inUse)
      ∧ FirstFails [(bench.running = true, .notReady), (Quiet bench, .conflict), (5 < 48, .outOfRange),
        ((bench.zone 5).isSome = true, .noSuch), (∀ i g, bench.gearAt i = some g → g.cfg.role ≠ .driver 5, .inUse)] .inUse
      ∧ (List.replicate 9 0).length = 9 ∧ (List.replicate 8 0).length ≠ 9 := by
  have run : bench.running = true := bench_undisturbed.1
  have quiet : Quiet bench := bench_undisturbed.2
  refine ⟨fun _ => .inl ⟨by decide +kernel, rfl⟩, fun s hs _ => .inr ⟨?_, .inl ⟨?_, rfl⟩⟩,
    fun _ _ => .inr ⟨run, .inr ⟨quiet, .inl ⟨Nat.lt_irrefl _, rfl⟩⟩⟩,
    fun _ => .inr ⟨run, .inr ⟨quiet, .inr ⟨by decide, .inl ⟨by decide +kernel, rfl⟩⟩⟩⟩, fun i hi => ?_,
    .inr ⟨run, .inr ⟨quiet, .inr ⟨by decide, .inr ⟨by decide +kernel, .inl ⟨fun h => h 17 g17 rfl rfl, rfl⟩⟩⟩⟩⟩, by decide, by decide⟩
  · simp only [List.mem_cons, List.not_mem_nil, or_false] at hs
    obtain rfl | rfl := hs <;> decide +kernel
  · simp only [List.mem_cons, List.not_mem_nil, or_false] at hs
    unfold Quiet
    obtain rfl | rfl := hs <;> decide +kernel
  · simp only [List.mem_cons, List.not_mem_nil, or_false] at hi
    have hw : ∃ g ∈ bench.segments, g.cfg.windowSensor = some 40 := by decide +kernel
    obtain rfl | rfl := hi
    · exact .inr ⟨run, .inr ⟨quiet, .inr ⟨by decide, .inr ⟨by decide +kernel, .inl ⟨fun h => h.1 5 ⟨z5, rfl, rfl⟩, rfl⟩⟩⟩⟩⟩
    · exact .inr ⟨run, .inr ⟨quiet, .inr ⟨by decide, .inr ⟨by decide +kernel, .inl ⟨fun h => hw.elim fun g hg => h.2 g hg.1 hg.2, rfl⟩⟩⟩⟩⟩

/-- Before RUNNING, whatever the other checks; an override during a sweep; a level of 1001; a sweep of an undefined zone; a MOVING
group; a HOLD of an OFF line; and actions beyond the last. -/
theorem witness_TheBlocksRequestsAreCheckedInOrder :
    (∀ checks, FirstFails ((State.reset.running = true, .notReady) :: checks) .notReady)
      ∧ (∀ more, FirstFails (((benchSweep .baseSettle []).running = true, .notReady)
        :: ((benchSweep .baseSettle []).sweeping = false, .conflict) :: more) .conflict)
      ∧ FirstFails [(bench.running = true, .notReady), (bench.sweeping = false, .conflict), (5 < 48, .outOfRange),
        ((bench.zone 5).isSome = true, .noSuch), (1001 ≤ 1000 ∧ 1440 ≤ 1440, .outOfRange)] .outOfRange
      ∧ (∀ more, FirstFails ((bench.running = true, .notReady) :: (Quiet bench, .conflict)
        :: (GivenIn 5 120 (some 5) ∧ GivenIn 1 100 (some 100), .outOfRange)
        :: (∀ z ∈ [47], (bench.zone z).isSome = true, .noSuch) :: more) .noSuch)
      ∧ (let s := benchSeg { seg3 with state := .moving }
        FirstFails [(s.running = true, .notReady), (∀ g ∈ s.segments, g.state ≠ .moving ∧ g.state ≠ .settling, .conflict)] .conflict)
      ∧ FirstFails [((benchLine (GearLine.factory true)).running = true, .notReady), (1 < 4, .outOfRange),
        (((benchLine (GearLine.factory true)).gearLine 1).state ≠ .off, .conflict)] .conflict
      ∧ bench.running = true ∧ 4 ≤ (4 : Byte).toNat ∧ 3 ≤ (3 : Byte).toNat := by
  have run : bench.running = true := bench_undisturbed.1
  have quiet : Quiet bench := bench_undisturbed.2
  refine ⟨fun _ => .inl ⟨by decide +kernel, rfl⟩, fun _ => .inr ⟨run, .inl ⟨by decide +kernel, rfl⟩⟩,
    .inr ⟨run, .inr ⟨by decide +kernel, .inr ⟨by decide, .inr ⟨by decide +kernel, .inl ⟨by decide, rfl⟩⟩⟩⟩⟩,
    fun _ => .inr ⟨run, .inr ⟨quiet, .inr ⟨by simp [GivenIn], .inl ⟨by decide +kernel, rfl⟩⟩⟩⟩,
    .inr ⟨run, .inl ⟨by decide +kernel, rfl⟩⟩, .inr ⟨run, .inr ⟨by decide, .inl ⟨by decide +kernel, rfl⟩⟩⟩, run, by decide, by decide⟩

/-- R4, R5, R9, R16, R82 and R149: the result of each kind of refusal. -/
theorem test_refusals :
    ([.defineSensor 1 { index := 64, kind := 0, line := 0, address := 0x21 }, .defineSensor 1 { index := 0, kind := 0, line := 0, address := 0x5A },
        .defineSensor 1 { index := 0, kind := 0, line := 0, address := 0x21 }, .setSensor 1 { index := 0 }, .deleteSensor 1 40, .deleteZone 1 5,
        .defineGear 1 { index := 0, line := 1, address := 0, kind := 0, owner := 6 }, .overrideZone 1 5 1001 0, .readGear 1 0,
        .lineControlHold 1 0, .defineCurve 1 0 [0, 1, 2, 3, 4, 5, 6, 7, 255]] : List Instr).map (fun c => results (after c bench))
      = [[.outOfRange], [.outOfRange], [.inUse], [.noSuch], [.inUse], [.inUse], [.noSuch], [.outOfRange], [.noSuch], [.conflict], [.outOfRange]]
    ∧ (serveRequest Kind.shadeCommand.code [0, 3, 0, 0, 0] bench).result = .outOfRange := by decide +kernel

/-- A DEFINE_CURVE of eight points has a wrong length also before RUNNING (R180, R183). -/
theorem test_defineCurve_length : results (after (.defineCurve 1 0 (List.replicate 8 0)) State.reset) = [.badLength]
    ∧ results (after (.defineCurve 1 0 (List.replicate 9 0)) State.reset) = [.notReady] := by decide +kernel

/-- Section 1.8, steps 1, 2 and 6: a new zone at its raised fallback level, a WINDOW sensor refused, a new driver. -/
theorem test_defineZone :
    let t := after (.defineZone 0 { index := 5, segment := 3, band := 0, fields := {
      controlSensor := some 9, group1 := some 3, lmin := some 120, fallbackLevel := some 60 } }) benchZoneless
    results t = [.adjusted] ∧ (t.zone 5).map (fun x => (x.level, x.cfg.fallbackLevel, x.state, x.fallbackReason))
        = some (120, 120, .fallback, .noGain)
      ∧ results (after (.defineZone 0 { index := 6, segment := 3, band := 1, fields := { controlSensor := some 40 } }) t)
        = [.adjusted, .outOfRange]
      ∧ results (after (.defineZone 0 { index := 6, segment := 3, band := 1, fields := { controlSensor := some 9, group1 := some 3 } }) t)
        = [.adjusted, .conflict]
      ∧ results (after (.defineZone 0 { index := 7, segment := 3, band := 0 }) t) = [.adjusted, .inUse] := by decide +kernel

/-- Section 1.8, step 6: a new driver on an UP line is sent its setup and then its value, 71 for level 300 by R119. -/
theorem test_defineGear :
    let t := after (.defineGear 0 { index := 18, line := 1, address := 18, kind := 0, owner := 5, trim := some 240 }) bench
    (t.gearAt 18).map Gear.state = some .unknown
      ∧ ((t.gearLine 1).queue.map fun e => (e.target, e.cmd, e.value, e.group)) = [(.gear 18, .setLossLevel, 254, some 3), (.gear 18, .setValue, 71, none)]
      ∧ results (after (.defineGear 0 { index := 19, line := 1, address := 17, kind := 0, owner := 5 }) bench) = [.inUse] := by
  decide +kernel

/-- Section 1.8, step 11: a raised minimum lifts the fallback level and the level at once. -/
theorem test_setZone :
    let s : State := { bench with zones := bench.zones.set 5 (some { z5 with level := 270, cfg := { z5def with fallbackLevel := 120 } }) }
    let t := after (.setZone 0 { index := 5, fields := { lmin := some 300 } }) s
    results t = [.adjusted] ∧ (t.zone 5).map (fun x => (x.level, x.cfg.fallbackLevel)) = some (300, 300) := by decide +kernel

/-- Section 2.5, cycles 4 and 8: the third miss fails S9 and sends Z5 to FALLBACK; the second good reading re-primes the filter. -/
theorem test_health :
    (let s : State := { benchTxn false with sensors := bench.sensors.set 9 (some { s9 with health := .suspect, missCount := 2 }) }
      let t := after (.sensorTransactionTimeout 0) s
      (t.sensor 9).map (fun x => (x.health, x.missCount)) = some (.failed, 3) ∧ hasFlag t.flags.latched .sensorFault = true
        ∧ (t.zone 5).map (fun x => (x.state, x.fallbackReason)) = some (.fallback, .sensorFailed) ∧ t.live.get (.misses 9) = 1)
      ∧ (let s : State := { benchTxn false with sensors := bench.sensors.set 9 (some { s9 with health := .failed, recoverCount := 1 }) }
        let t := after (.sensorTransactionEnd 0 (some s9Reply)) s
        (t.sensor 9).map (fun x => (x.health, x.missCount, x.recoverCount, x.lux)) = some (.ok, 0, 0, 531)
          ∧ (t.sensor 9).map (fun x => decide (x.daylightF = x.daylight)) = some true) := by decide +kernel

/-- Section 3.4's reading and chapter 4's first evaluation of Z5: Day 353 gives the target 213 and the level 270, and gear 17 is
sent the value 65; the record adds 150 to ELECTRIC and 350 to SAVED. -/
theorem test_evaluate :
    let s : State := { bench with
      zones := (bench.zones.set 5 (some { z5 with occupancy := .occupied })).set 6 (some { z5 with
        cfg := { z5def with band := .b, groups := ⟨none, none, none, none⟩ }, level := 500 })
      gear := bench.gear.set 17 (some { g17 with expected := some 71, confirmed := some 71 }) }
    let t := s.evaluate 0 5
    (t.zone 5).map (fun x => (x.setpoint, x.target, x.level)) = some (500, 213, 270)
      ∧ ((t.gearLine 1).queue.map fun e => (e.target, e.cmd, e.value)) = [(.gear 17, .setValue, 65)]
      ∧ t.live.get (.electric 5) = 150 ∧ t.live.get (.saved 5) = 350 := by decide +kernel

/-- Section 9.7, evaluations 4 and 5: the remainders. -/
theorem test_recordEval :
    let r : EvalRecord := { oldLevel := 213, dt := 500, setpoint := 500, gain := some 410, day := some 353 }
    let t := bench.recordEval 5 r
    t.live.get (.electric 5) = 106 ∧ t.live.get (.saved 5) = 393
      ∧ (t.recordEval 5 r).live.get (.electric 5) = 213 ∧ (t.recordEval 5 r).live.get (.saved 5) = 787 := by decide +kernel

/-- Section 4.13: the override's level is raised to the minimum and taken at once; its expiry during a hold gives HOLD. -/
theorem test_override :
    let t := after (.overrideZone 0 5 60 30) bench
    results t = [.adjusted] ∧ (t.zone 5).map (fun x => (x.state, x.level, x.overrideExpiry)) = some (.override, 100, some 1800000)
      ∧ ((after (.overrideExpiry 5) (t.setShadeHold 5 true)).zone 5).map (fun x => (x.state, x.level)) = some (.hold, 100) := by
  decide +kernel

/-- Section 6.7's worked sequence at depth 8: of a trim-pending gear with trim 256 and min_value 1, one whose curve C1 has other points
than C0 is sent its own value, and one whose C1 has C0's points keeps the group value (R19, R132). -/
theorem test_restoration :
    let at8 := fun points : List Nat => ({ benchLine { lineUp with
          queue := (List.range 8).map (fun i => waiting .setValue (100 + i)), congested := true } with
        curves := bench.curves.set 1 points
        gear := bench.gear.set 17 (some { g17 with cfg := { g17.cfg with curve := 1, trim := 256 }, trimPending := true }) } : State).tendLine 1
    let seen := fun t : State => ((t.gearLine 1).congested, (t.gearAt 17).map Gear.trimPending,
      ((t.gearLine 1).queue.drop 8).map fun e => (e.target, e.cmd))
    seen (at8 [0, 10, 20, 30, 40, 50, 60, 70, 80]) = (false, some false, [(.gear 17, .setValue)])
      ∧ seen (at8 factoryCurve) = (false, some false, []) := by decide +kernel

/-- Chapter 12's frame of SET_VALUE 65 to gear 17 goes out as 40 levels at 9600 bit/s, each byte's start bit low, its data bits least
significant first and its stop bit high, and its answer 0x41, 0x00, 0xBE, read from its characters, confirms the value. -/
theorem test_frame :
    let t := after (.forwardFrameStart 1) (benchLine (lineWith (waiting .setValue 17) []))
    (t.gearLine 1).frameOut = [0x11, 0x01, 0x41, 0xAC] ∧ t.live.get (.frames 1) = 1
      ∧ (t.gearLine 1).output = .frame (([0, 1,0,0,0,1,0,0,0, 1,  0, 1,0,0,0,0,0,0,0, 1,
          0, 1,0,0,0,0,0,1,0, 1,  0, 0,0,1,1,0,1,0,1, 1] : List Nat).map (· == 1)) 9600
      ∧ answerCommand 1 0b1010000010 0b1000000000 0b1101111100 = some (.gearAnswerReceived 1 0x41 0x00 0xBE false)
      ∧ (let u := after (.gearAnswerReceived 1 0x41 0x00 0xBE false) t
        (u.gearAt 17).map Gear.confirmed = some (some 65) ∧ (u.gearLine 1).queue = []) := by decide +kernel

/-- The same answer with a low stop bit in its data, its status or its check has a stop-bit error, which fails the attempt and leaves the
gear's record as it is (R203); without a low start bit there is no character. -/
theorem test_stopBitError :
    let s := benchLine (lineWith (flying .setValue 17) [])
    let bad : Instr := .gearAnswerReceived 1 0x41 0x00 0xBE true
    [answerCommand 1 0b0010000010 0b1000000000 0b1101111100, answerCommand 1 0b1010000010 0b0000000000 0b1101111100,
        answerCommand 1 0b1010000010 0b1000000000 0b0101111100, answerCommand 1 0b1010000011 0b1000000000 0b1101111100]
        = [some bad, some bad, some bad, none]
      ∧ ((after bad s).gearAt 17).map Gear.confirmed = (s.gearAt 17).map Gear.confirmed
      ∧ ((after bad s).gearLine 1).queue.map Entry.attempts = [1] := by decide +kernel

/-- R204: a sensor's read at bus address 0x21 is its address byte 0x43, four bytes of which the fourth is not acknowledged, and a stop. -/
theorem test_sensorRead : transaction [[0x43]] 4
    = [.start, .bit false, .bit true, .bit false, .bit false, .bit false, .bit false, .bit true, .bit true, .listen]
      ++ (List.replicate 3 (List.replicate 8 BusSignal.listen ++ [.ack])).flatten
      ++ List.replicate 8 .listen ++ [.noAck, .stop] := by decide +kernel

/-- Section 6.6: the third failed attempt at a driver silences it, and its zone's output is lost. -/
theorem test_silent :
    let t := after (.replyWindowEnd 1) (benchLine (lineWith { flying .queryValue 17 with attempts := 2 } []))
    (t.gearAt 17).map Gear.state = some .silent ∧ t.live.get (.silentEvents 1) = 1 ∧ hasFlag t.flags.latched .gearSilent = true
      ∧ (t.zone 5).map Zone.outputLost = some true ∧ hasFlag t.flags.latched .outputLost = true := by decide +kernel

/-- Section 7.9 at 75 s: the glare delay's end starts a travel to 80 and holds the zones of the segment. -/
theorem test_glare :
    let s := benchSeg { seg3 with phase := .glarePending, glareStart := some 15000, target := some 0 }
    let t := after (.glareTimerExpiry 3) { s with tick := 75000, gear := bench.gear.set 60 (some { g60 with position := some 0 }) }
    (t.segment 3).phase = .glared ∧ (t.segment 3).state = .moving ∧ (t.segment 3).target = some 80
      ∧ (t.segment 3).travel = some ⟨75000, 90000⟩ ∧ t.live.get (.moves 3) = 1 ∧ (t.zone 5).map Zone.state = some .hold
      ∧ ((t.gearLine 1).queue.map fun e => (e.target, e.cmd, e.value)) = [(.gear 60, .shadeGoto, 80)] := by decide +kernel

/-- Section 7.9, gear 62 at 87 s: the third equal position is a stall, and the target is sent again. -/
theorem test_stall :
    let g : Gear := { g60 with position := some 35, unchanged := 2 }
    let x := { seg3 with state := .moving, target := some 80, travel := some ⟨75000, 90000⟩, query := some ⟨75000, 2000⟩ }
    let s : State := { benchLine (lineWith (flying .shadeQuery 60) []) with
      segments := (benchSeg x).segments, gear := bench.gear.set 60 (some g) }
    let t := after (.gearAnswerReceived 1 35 0 (sumCheck [35, 0]) false) s
    t.live.get (.stalls 3) = 1 ∧ (t.gearAt 60).map (fun g => (g.retriesUsed, g.unchanged)) = some (1, 0)
      ∧ ((t.gearLine 1).queue.map fun e => (e.target, e.cmd, e.value)) = [(.gear 60, .shadeGoto, 80)] := by decide +kernel

/-- Section 8.5's Friday: the debounced loss of OCC2 starts Z5's vacancy delay of 15 min, and its end makes Z5 VACANT. -/
theorem test_occupancy :
    let s : State := { benchOcc { OccInput.factory true with raw := false, debounce := some ⟨0, 50⟩ } with
      zones := bench.zones.set 5 (some { z5 with occupancy := .occupied }) }
    let t := after (.occDebounceExpiry 2) s
    (t.zone 5).map (fun x => (x.occupancy, x.vacancy)) = some (.vacancyPending, some ⟨0, 900000⟩)
      ∧ hasFlag t.flags.latched .occChange = true
      ∧ ((after (.vacancyTimerExpiry 5) t).zone 5).map Zone.occupancy = some .vacant := by decide +kernel

/-- Section 8.5: 13:30:00 raises the boundary that ends bin 26. -/
theorem test_boundary :
    let s : State := { bench with
      clock := { bench.clock with valid := true, hour := 13, minute := 29, second := 59, subsec := 32768000 }
      zones := bench.zones.set 5 (some { z5 with learned := { Learned.empty with accSum := 1512000, accCount := 3600 } }) }
    let t := after .clockSecondAdvance s
    (t.zone 5).map (fun x => (x.learned.bins[26]?, x.learned.accSum, x.learned.accCount)) = some (some (some 420), 0, 0)
      ∧ (t.clock.hour, t.clock.minute, t.clock.second) = (13, 30, 0) := by decide +kernel

/-- The weekday of a set clock: 2000-01-01 was a SAT (R155), and 2000-02-29 lies 59 days later, a TUE. -/
theorem test_setClock : (after (.setClock 0 ⟨2000, 1, 1, 0, 0, 0⟩) bench).clock.weekday = 5
    ∧ (after (.setClock 0 ⟨2000, 2, 29, 0, 0, 0⟩) bench).clock.weekday = 1
    ∧ results (after (.setClock 0 ⟨2023, 2, 29, 0, 0, 0⟩) bench) = [.outOfRange] := by decide +kernel

/-- IDENTIFY's reply frame: family 0x4C, part 0x30, version 0x01, RUNNING, 57600 bit/s, 240 and 4 (R188, R201). -/
theorem test_identify : (after (.identify 7) bench).port.replies.map Reply.fields
    = [[0x4C, 0x30, 0x01, 0x02, 0x00, 0x00, 0xE1, 0x00, 240, 4]] := by decide +kernel

/-- IDENTIFY's 17-byte reply frame goes out on BLP_TXD as 170 levels at 57600 bit/s, from the start of frame 0xA5, whose start bit is low
and whose data bits, least significant first, and one stop bit follow; with both straps high the rate is 460800 bit/s (R177, R200). -/
theorem test_portOutput :
    (match (after (.identify 7) bench).portOutput with
      | .frame levels rate => (levels.length, levels.take 20, rate)
      | _ => (0, [], 0))
      = (170, ([0, 1,0,1,0,0,1,0,1, 1,  0, 1,0,0,0,0,0,0,0, 1] : List Nat).map (· == 1), 57600)
    ∧ portRate 3 = 460800 ∧ bench.portOutput = .idleHigh := by decide +kernel

/-- Characters on BLP_RXD: 0xA5 begins a frame; with a low stop bit it is discarded, as a frame in assembly is then, which is counted;
without a low start bit there is no character (R177, R178). -/
theorem test_portCharacter :
    [byteCommand 0b1101001010, byteCommand 0b0101001010, byteCommand 0b1101001011]
        = [some (.frameByteReceived 0xA5), some .frameDiscarded, none]
      ∧ (after (.frameByteReceived 0xA5) bench).port.rx = .inFrame []
      ∧ (after .frameDiscarded (benchRx [1, 7] 0)).port.rx = .hunt
      ∧ (after .frameDiscarded (benchRx [1, 7] 0)).live.get .framingErrors = 1 := by decide +kernel

/-- A frame at a full port is answered BUSY and counted; with a full BUSY list it is discarded. -/
theorem test_frameReceived :
    let t := after (.frameReceived 1 9 []) { benchFull with port := { benchFull.port with replies := [] } }
    t.port.replies = [{ origin := .busy, kind := 1, tag := 9, result := .busy, fields := [] }] ∧ t.live.get .busyReplies = 1
      ∧ (after (.frameReceived 1 9 []) benchFull).live.get .framingErrors = 1 := by decide +kernel

/-- A save in progress refuses a definition with CONFLICT; a sweep refuses an override. -/
theorem test_conflict : results (after (.deletePeriod 0 0) (benchSave .writing 0 0 false)) = [.conflict]
    ∧ results (after (.overrideZone 0 5 60 30) (benchSweep .baseSettle [])) = [.conflict] := by decide +kernel

end Sys2Proof.Tests
end

section
/-! PROOFS. DELETE_SENSOR (R8): when a sensor counts as named, and what the request answers and leaves. -/

namespace Sys2Proof.Machine

open Sys2Proof.Safety

/-! ### The references to a sensor -/

theorem State.isControl_iff {s : State} {i : Nat} : s.isControl i = true ↔ ∃ z, Names s i z := by
  rw [State.isControl, Bool.not_eq_true', List.isEmpty_eq_false_iff_exists_mem]
  simp only [State.mem_zonesWhere, Names, decide_eq_true_eq]

theorem State.mem_segmentsOf {s : State} {i j : Nat} :
    j ∈ s.segmentsOf i ↔ ∃ g, s.segments[j]? = some g ∧ g.cfg.windowSensor = some i := by
  rw [State.segmentsOf, mem_indicesWhere]
  constructor
  · rintro ⟨hj, hw⟩
    exact ⟨s.segments[j], List.getElem?_eq_getElem hj, by simpa [State.segment, hj] using hw⟩
  · rintro ⟨g, hg, hw⟩
    obtain ⟨hj, -⟩ := List.getElem?_eq_some_iff.mp hg
    exact ⟨hj, by simp [State.segment, hg, hw]⟩

theorem State.isWindow_iff {s : State} {i : Nat} :
    s.isWindow i = true ↔ ∃ g ∈ s.segments, g.cfg.windowSensor = some i := by
  rw [State.isWindow, Bool.not_eq_true', List.isEmpty_eq_false_iff_exists_mem]
  constructor
  · rintro ⟨j, hj⟩
    obtain ⟨g, hg, hw⟩ := State.mem_segmentsOf.mp hj
    exact ⟨g, List.mem_of_getElem? hg, hw⟩
  · rintro ⟨g, hg, hw⟩
    obtain ⟨j, hj⟩ := List.mem_iff_getElem?.mp hg
    exact ⟨j, State.mem_segmentsOf.mpr ⟨g, hj, hw⟩⟩

/-! ### The request -/

theorem State.quiet_of_undisturbed {s : State} (h : Undisturbed s) : s.quiet = true := by
  obtain ⟨-, hsave, hsweep⟩ := h
  simp [State.quiet, hsave, hsweep]

/-- Once the checks of the moment and of the entry hold, the references alone decide a DELETE_SENSOR (R4, R8). -/
theorem serveDeleteSensor_eq {s : State} {i : Nat} (hq : s.quiet = true) (hi : i < Config.nSensors)
    (hd : (s.sensor i).isSome = true) :
    serveDeleteSensor i s = if s.isControl i = true ∨ s.isWindow i = true then refused .inUse s
      else accepted [] { s with sensors := s.sensors.set i none, sensorLines := discarding i s.sensorLines } := by
  unfold serveDeleteSensor checked
  simp only [firstFailing_cons, firstFailing_nil, hq, hi, hd, decide_true, if_true]
  cases s.isControl i <;> cases s.isWindow i <;> rfl

theorem exec_deleteSensor {s : State} (h : s.running = true) (tag : Byte) (i : Nat) :
    exec (.deleteSensor tag i) s = .next (reply .direct Kind.deleteSensor.code tag (serveDeleteSensor i s)) := by
  rw [← whenRunning_of_running h (serveDeleteSensor i)]
  rfl

/-- Settles O18: undisturbed and with the entry defined, only the last check of DELETE_SENSOR is open, and it asks for exactly the
references that R8 names. -/
theorem deleteSensorEmptiesTheEntry : Obligations.DeleteSensorEmptiesTheEntry := by
  intro tag i s hs hi hd
  rw [exec_deleteSensor hs.1, serveDeleteSensor_eq (State.quiet_of_undisturbed hs) hi hd]
  constructor
  · intro named
    rw [if_pos (named.imp State.isControl_iff.mpr State.isWindow_iff.mpr)]
    rfl
  · intro noZone noSegment
    have unnamed : ¬ (s.isControl i = true ∨ s.isWindow i = true) := by
      rw [State.isControl_iff, State.isWindow_iff]
      rintro (⟨z, hz⟩ | ⟨g, hg, hw⟩)
      · exact noZone z hz
      · exact noSegment g hg hw
    rw [if_neg unnamed]
    rfl

end Sys2Proof.Machine
end

section
/-! PROOFS. The filter of the daylight estimate (R50): how far a step moves, and what it leaves in the sensor's entry. -/

namespace Sys2Proof.Machine

/-! ### A step of the filter -/

/-- Why a step neither stalls nor overshoots: a coefficient of 1 to 16 takes at least 1 and at most all of a gap, rounded up. -/
theorem ceilDiv_sixteenths_bounds {gap c : Nat} (hgap : 0 < gap) (h1 : 1 ≤ c) (h16 : c ≤ 16) :
    1 ≤ ceilDiv (gap * c) 16 ∧ ceilDiv (gap * c) 16 ≤ gap := by
  have some_taken : gap * 1 ≤ gap * c := Nat.mul_le_mul_left gap h1
  have all_at_most : gap * c ≤ gap * 16 := Nat.mul_le_mul_left gap h16
  unfold ceilDiv
  omega

theorem ceilDiv_mul_sixteen (gap : Nat) : ceilDiv (gap * 16) 16 = gap := by
  unfold ceilDiv
  omega

section
variable {fall rise f d : Nat}

theorem filterStep_of_lt (h : d < f) : filterStep fall rise f d = f - ceilDiv ((f - d) * fall) 16 := if_pos h

theorem filterStep_of_le (h : f ≤ d) : filterStep fall rise f d = f + ceilDiv ((d - f) * rise) 16 :=
  if_neg (Nat.not_lt.mpr h)

@[simp] theorem filterStep_self : filterStep fall rise d d = d := by
  simp [filterStep_of_le (Nat.le_refl d), ceilDiv]

theorem filterStep_falls (h : d < f) (h1 : 1 ≤ fall) (h16 : fall ≤ 16) :
    d ≤ filterStep fall rise f d ∧ filterStep fall rise f d < f ∧ (fall = 16 → filterStep fall rise f d = d) := by
  obtain ⟨moved, short⟩ := ceilDiv_sixteenths_bounds (Nat.sub_pos_of_lt h) h1 h16
  rw [filterStep_of_lt h]
  refine ⟨by omega, by omega, ?_⟩
  rintro rfl
  rw [ceilDiv_mul_sixteen]
  omega

theorem filterStep_rises (h : f < d) (h1 : 1 ≤ rise) (h16 : rise ≤ 16) :
    filterStep fall rise f d ≤ d ∧ f < filterStep fall rise f d ∧ (rise = 16 → filterStep fall rise f d = d) := by
  obtain ⟨moved, short⟩ := ceilDiv_sixteenths_bounds (Nat.sub_pos_of_lt h) h1 h16
  rw [filterStep_of_le h.le]
  refine ⟨by omega, by omega, ?_⟩
  rintro rfl
  rw [ceilDiv_mul_sixteen]
  omega

/-- A step stays within any bound of the filtered daylight and of the estimate. -/
theorem filterStep_le_of_le {b : Nat} (hf : f ≤ b) (hd : d ≤ b) (hr1 : 1 ≤ rise) (hr16 : rise ≤ 16) :
    filterStep fall rise f d ≤ b := by
  rcases Nat.lt_trichotomy d f with h | rfl | h
  · rw [filterStep_of_lt h]
    exact (Nat.sub_le ..).trans hf
  · rwa [filterStep_self]
  · exact (filterStep_rises h hr1 hr16).1.trans hd

end

/-! ### The sensor's entry -/

/-- The sensor after a step toward the estimate `d`, with the coefficients it stores (R47, R50). -/
def Sensor.filteredTo (d : Nat) (x : Sensor) : Sensor :=
  { x with daylight := d, daylightF := filterStep x.fallCoeff x.riseCoeff x.daylightF d, primed := true }

/-- A reading handed as a step of a primed sensor moves the filter toward the estimate of that reading (R47, R50). -/
theorem State.sensor_processReading_step {s : State} {i : Nat} {x : Sensor} (hx : s.sensor i = some x) (hp : x.primed = true) :
    (s.processReading i .step).sensor i = some (x.filteredTo (estimate x.lux x.darkOffset (s.shares x.contrib))) := by
  simp [State.processReading, State.sensor_modSensor, hx, hp, Sensor.filteredTo]

theorem estimate_le (lux dark shares : Nat) : estimate lux dark shares ≤ 65535 := Nat.min_le_left ..

/-- Settles O32: the entry holds one step of the filter from the old filtered daylight, and the estimate lies below it, above it or
at it. -/
theorem aFilterStepMovesTowardTheEstimate : Obligations.AFilterStepMovesTowardTheEstimate := by
  intro i s x hx hp hf1 hf16 hr1 hr16 hb
  have hd := estimate_le x.lux x.darkOffset (s.shares x.contrib)
  refine ⟨_, State.sensor_processReading_step hx hp, hd, filterStep_le_of_le hb hd hr1 hr16, ?falling, ?rising, ?still⟩
  case falling => exact fun h => ⟨filterStep_of_lt h, filterStep_falls h hf1 hf16⟩
  case rising => exact fun h => ⟨filterStep_of_le (Nat.le_of_lt h), filterStep_rises h hr1 hr16⟩
  case still => exact fun h => (congrArg _ h).trans filterStep_self

end Sys2Proof.Machine
end

section
/-! PROOFS. The value of a zone level (R119): the rounded point between two points of the curve, and the clamp to the range of a
driver that is on. -/

namespace Sys2Proof.Machine

/-! ### Rounding and clamping -/

/-- A quotient rounded half up does not pass a whole bound: the half that is added is less than one more `d`. -/
theorem roundDiv_le_of_le_mul {n d k : Nat} (hd : 0 < d) (h : n ≤ k * d) : roundDiv n d ≤ k := by
  have below_next : 2 * n + d < 2 * d * (k + 1) := by
    rw [Nat.mul_succ, Nat.mul_assoc, Nat.mul_comm d]
    omega
  exact Nat.le_of_lt_succ (Nat.div_lt_of_lt_mul below_next)

theorem clamp_eq_max_min {lo hi : Nat} (h : lo ≤ hi) (v : Nat) : clamp lo hi v = max lo (min hi v) := by
  unfold clamp
  split
  next hlow => omega
  next => split <;> omega

theorem le_clamp {lo hi : Nat} (h : lo ≤ hi) (v : Nat) : lo ≤ clamp lo hi v :=
  (clamp_eq_max_min h v).symm ▸ Nat.le_max_left ..

/-! ### The curve -/

section
variable {p : List Nat} {trim minValue level : Nat}

@[simp] theorem levelValue_zero : levelValue p trim minValue 0 = 0 := if_pos rfl

/-- Steps 2 to 5 of R119 for a positive level, between the two points of its segment. -/
theorem levelValue_of_pos {i a b : Nat} (hl : 0 < level) (hi : i = min 7 (level / 125)) (ha : p[i]? = some a)
    (hb : p[i + 1]? = some b) : levelValue p trim minValue level =
      clamp (max 1 minValue) 254 (roundDiv ((a + roundDiv ((b - a) * (level - 125 * i)) 125) * trim) 256) := by
  subst hi
  simp only [levelValue, if_neg hl.ne', List.getD_eq_getElem?_getD, ha, hb, Option.getD_some]

/-- A level lies at most one segment's width above the start of its segment; the last segment takes the level 1000. -/
theorem level_sub_segment_le (h : level ≤ 1000) : level - 125 * min 7 (level / 125) ≤ 125 := by
  omega

/-- The rounded point between two points of a rising segment lies between them. -/
theorem curve_step_bounds {a b x : Nat} (hab : a ≤ b) (hx : x ≤ 125) :
    a ≤ a + roundDiv ((b - a) * x) 125 ∧ a + roundDiv ((b - a) * x) 125 ≤ b := by
  have rise : roundDiv ((b - a) * x) 125 ≤ b - a := roundDiv_le_of_le_mul (by decide) (Nat.mul_le_mul_left _ hx)
  omega

end

/-- Settles O41: the segment's two points exist and do not fall, so the step lies between them, and the clamp's floor is positive. -/
theorem aLevelGivesAValueThroughTheCurve : Obligations.ALevelGivesAValueThroughTheCurve := by
  intro p trim minValue level hlen hsorted hmin hlevel
  refine ⟨levelValue_zero, fun hpos => ?_⟩
  obtain ⟨i, hi⟩ : ∃ i, i = min 7 (level / 125) := ⟨_, rfl⟩
  have hi1 : i + 1 < p.length := by omega
  have hi0 : i < p.length := Nat.lt_of_succ_lt hi1
  have rising : p[i] ≤ p[i + 1] := List.pairwise_iff_getElem.mp hsorted i (i + 1) hi0 hi1 (Nat.lt_succ_self i)
  have hpa : p[i]? = some p[i] := List.getElem?_eq_getElem hi0
  have hpb : p[i + 1]? = some p[i + 1] := List.getElem?_eq_getElem hi1
  have hfloor : max 1 minValue ≤ 254 := by omega
  have hvalue := levelValue_of_pos (trim := trim) (minValue := minValue) hpos hi hpa hpb
  obtain ⟨above, below⟩ := curve_step_bounds rising (hi ▸ level_sub_segment_le hlevel)
  refine ⟨i, p[i], p[i + 1], _, _, hi, hpa, hpb, rfl, above, below, rfl, ?value, ?positive⟩
  case value => exact hvalue.trans (clamp_eq_max_min hfloor _)
  case positive => exact hvalue ▸ (Nat.le_max_left ..).trans (le_clamp hfloor _)

end Sys2Proof.Machine
end

section
/-! PROOFS. Single steps of the part: that a command always completes, what no step breaks of the flags and the levels, and what
the events leave alone. -/

namespace Sys2Proof.Machine

open Sys2Proof.Safety

/-! ### A step of the machine -/

/-- Settles O1. -/
theorem stepRunsTheFrontCommand : Obligations.StepRunsTheFrontCommand := by
  intro c rest s h
  rw [step, h]

/-- Settles O3: a command's outcome is a move, which leaves the queue, or a reset, which keeps it. -/
theorem everyCommandCompletes : Obligations.EveryCommandCompletes := by
  intro c s
  rcases exec_moves c s with ⟨t, ht, moves, -⟩ | ⟨pins, clock, ht⟩
  · exact ⟨t, ht, moves.pending⟩
  · exact ⟨_, ht, rfl⟩

/-- How a predicate of the state comes to hold after every step: every move, every reset, the idle part and the queue keep it. -/
theorem step_keeps {P : State → Prop} (moves : ∀ {s t}, Moves 7 s t → P s → P t)
    (reset : ∀ pins clock s, P s → P (State.resetWith pins clock s)) (idle : ∀ s, P s → P s.passTime)
    (queue : ∀ l s, P s → P { s with pending := l }) {s t : State} (h : P s) (hstep : step s = .next t) : P t := by
  unfold step at hstep
  split at hstep
  next =>
    cases hstep
    unfold State.idle
    split
    · exact idle s h
    · exact queue _ s h
  next c rest _ =>
    have hq := queue rest s h
    rcases exec_moves c { s with pending := rest } with ⟨u, hu, mv, -⟩ | ⟨pins, clock, hu⟩
    · obtain rfl : u = t := by simpa [hu] using hstep
      exact moves mv hq
    · obtain rfl : State.resetWith pins clock { s with pending := rest } = t := by simpa [hu] using hstep
      exact reset _ _ _ hq

/-! ### The flags (R184, R185) -/

theorem attnCoherent_resetWith (pins : ResetPins) (clock : Clock) (s : State) : AttnCoherent (s.resetWith pins clock) := by
  simp only [AttnCoherent, State.resetWith, State.atReset, FlagPort.atReset]
  cases clock.valid <;> decide

/-- Settles O4. -/
theorem stepKeepsAttnCoherent : Obligations.StepKeepsAttnCoherent := fun _ _ h hstep =>
  step_keeps Moves.attn (fun pins clock s _ => attnCoherent_resetWith pins clock s) (fun _ h => h) (fun _ _ h => h) h hstep

/-! ### The levels (R9, R12, R62, R82) -/

/-- A reset leaves no zone defined (R89). -/
theorem levelsLegal_resetWith (pins : ResetPins) (clock : Clock) (s : State) : LevelsLegal (s.resetWith pins clock) := by
  intro x hx
  cases (List.mem_replicate.mp hx).2

/-- Settles O6. -/
theorem stepKeepsTheLevelsLegal : Obligations.StepKeepsTheLevelsLegal := fun _ _ h hstep =>
  step_keeps Moves.levelsLegal (fun pins clock s _ => levelsLegal_resetWith pins clock s) (fun _ h => h) (fun _ _ h => h) h hstep

/-! ### Events -/

/-- An event's outcome is a move below the configuration, the port and the clearing of flags and counts, or a discarded frame. -/
theorem exec_event {c : Instr} (hc : isEvent c = true) (s : State) :
    ∃ t, exec c s = .next t ∧ (Moves 5 s t ∨ t = s.discardFrame) := by
  have moved : ∀ {a : Answer} {n : Nat}, n ≤ 5 → (∃ t, a = .next t ∧ Moves n s t) →
      ∃ t, a = .next t ∧ (Moves 5 s t ∨ t = s.discardFrame) :=
    fun hn ⟨t, ht, mv⟩ => ⟨t, ht, .inl (mv.mono hn)⟩
  have discarded : ∃ t, (.next (if s.port.inFrame then s.discardFrame else s) : Answer) = .next t
      ∧ (Moves 5 s t ∨ t = s.discardFrame) := by
    refine ⟨_, rfl, ?_⟩
    split
    · exact .inr rfl
    · exact .inl (.refl s)
  cases c
  case frameDiscarded => exact discarded
  case frameGapTimeout => exact discarded
  case startupDelayExpiry => exact moved (by omega) (exec_startupDelayExpiry s)
  case savePageWriteEnd r => exact moved (by omega) (exec_savePageWriteEnd r s)
  case ackPollAnswered => exact moved (by omega) (exec_ackPollAnswered s)
  case ackPollTimeout => exact moved (by omega) (exec_ackPollTimeout s)
  case saveReadbackEnd r => exact moved (by omega) (exec_saveReadbackEnd r s)
  case pollIntervalExpiry l => exact moved (by omega) (exec_pollIntervalExpiry l s)
  case sensorTransactionEnd l r => exact moved (by omega) (exec_sensorTransactionEnd l r s)
  case sensorTransactionTimeout l => exact moved (by omega) (exec_sensorTransactionTimeout l s)
  case calSettleExpiry => exact moved (by omega) (exec_calSettleExpiry s)
  case overrideExpiry z => exact moved (by omega) (exec_overrideExpiry z s)
  case lpwrInputChange l v => exact moved (by omega) (exec_lpwrInputChange l v s)
  case linePowerChange l => exact moved (by omega) (exec_linePowerChange l s)
  case startSettleExpiry l => exact moved (by omega) (exec_startSettleExpiry l s)
  case forwardFrameStart l => exact moved (by omega) (exec_forwardFrameStart l s)
  case groupFrameSent l => exact moved (by omega) (exec_groupFrameSent l s)
  case gearAnswerReceived l d st k x => exact moved (by omega) (exec_gearAnswerReceived l d st k x s)
  case replyWindowEnd l => exact moved (by omega) (exec_replyWindowEnd l s)
  case backwardFrameTimeout l => exact moved (by omega) (exec_backwardFrameTimeout l s)
  case auditTimerExpiry l => exact moved (by omega) (exec_auditTimerExpiry l s)
  case shadeQueryExpiry g => exact moved (by omega) (exec_shadeQueryExpiry g s)
  case travelTimeout g => exact moved (by omega) (exec_travelTimeout g s)
  case shadeSettleExpiry g => exact moved (by omega) (exec_shadeSettleExpiry g s)
  case glareTimerExpiry g => exact moved (by omega) (exec_glareTimerExpiry g s)
  case releaseTimerExpiry g => exact moved (by omega) (exec_releaseTimerExpiry g s)
  case manualExpiry g => exact moved (by omega) (exec_manualExpiry g s)
  case clockSecondAdvance => exact moved (by omega) (exec_clockSecondAdvance s)
  case oscillatorStop => exact moved (by omega) (exec_oscillatorStop s)
  case oscillatorResume => exact moved (by omega) (exec_oscillatorResume s)
  case occInputChange i v => exact moved (by omega) (exec_occInputChange i v s)
  case occDebounceExpiry i => exact moved (by omega) (exec_occDebounceExpiry i s)
  case vacancyTimerExpiry z => exact moved (by omega) (exec_vacancyTimerExpiry z s)
  all_goals cases hc

theorem configuration_discardFrame (s : State) : configuration s.discardFrame = configuration s := by
  simp [configuration, State.discardFrame]

theorem hasFlag_latchIf (s : State) (c : Bool) (f g : Flag) :
    hasFlag (s.latchIf c f).flags.latched g = (hasFlag s.flags.latched g || (c && decide (g = f))) := by
  cases c
  · simp [State.latchIf]
  · rw [State.latchIf, if_pos rfl, Moves.hasFlag_latch, Bool.true_and]

theorem hasFlag_count (s : State) (k : Counter) (g : Flag) :
    hasFlag (s.count k).flags.latched g
      = (hasFlag s.flags.latched g || (saturates (s.live.get k) 1 && decide (g = .counterSaturated))) :=
  hasFlag_latchIf ..

/-- What a discarded frame latches: HOST_FRAME_ERROR, and COUNTER_SATURATED where its counter reaches the maximum (R178, R169). -/
theorem hasFlag_discardFrame (s : State) (g : Flag) :
    hasFlag s.discardFrame.flags.latched g = (hasFlag s.flags.latched g
      || (saturates s.live.framingErrors 1 && decide (g = .counterSaturated)) || decide (g = .hostFrameError)) := by
  rw [State.discardFrame, Moves.hasFlag_latch, hasFlag_count]
  rfl

theorem enables_discardFrame (s : State) : s.discardFrame.flags.enables = s.flags.enables := by
  simp only [State.discardFrame, State.latch_flags, State.count, State.countBy_flags]
  split <;> rfl

theorem live_discardFrame (s : State) :
    s.discardFrame.live = s.live.put .framingErrors (satAdd (s.live.get .framingErrors) 1) := by
  simp [State.discardFrame]

/-- Settles O8: an event is a move that adds flags and counts alone, and so is the discard of a frame. -/
theorem eventsKeepTheConfigurationAndOnlyAddFlagsAndCounts : Obligations.EventsKeepTheConfigurationAndOnlyAddFlagsAndCounts := by
  constructor
  · intro c s t hc ht
    obtain ⟨u, hu, mv | rfl⟩ := exec_event hc s <;> obtain rfl : _ = t := by simpa [hu] using ht
    · exact mv.configuration_eq (by omega)
    · exact configuration_discardFrame s
  · intro c s t hc ht
    obtain ⟨u, hu, mv | rfl⟩ := exec_event hc s <;> obtain rfl : _ = t := by simpa [hu] using ht
    · obtain ⟨enables, latched, -⟩ := mv.flagsGrow (by omega)
      exact ⟨enables, latched, (mv.countersGrow (by omega)).1⟩
    · refine ⟨enables_discardFrame s, fun f hf => ?_, fun inRange k => ?_⟩
      · rw [hasFlag_discardFrame, hf, Bool.true_or, Bool.true_or]
      · rw [live_discardFrame]
        exact Moves.get_count _ _ _ _ (inRange k)

/-! ### A counter's increment (R169) -/

/-- Settles O9. -/
theorem aCounterSaturatesAtItsMaximum : Obligations.ACounterSaturatesAtItsMaximum := by
  intro k n s _
  have sum : satAdd (s.live.get k) n = if s.live.get k + n ≤ 4294967295 then s.live.get k + n else 4294967295 := by
    simp only [satAdd, Config.counterMax]
    split <;> omega
  have reached : saturates (s.live.get k) n = decide (s.live.get k < 4294967295 ∧ 4294967295 ≤ s.live.get k + n) := by
    rw [saturates, Config.counterMax, ← Bool.decide_and]
  intro u
  have hu : s.modLive (Counters.put k (satAdd (s.live.get k) n)) = u := by rw [sum]; rfl
  rw [State.countBy, hu, reached, State.latchIf]
  simp only [decide_eq_true_eq]

end Sys2Proof.Machine
end

section
/-! PROOFS. The idle part's timers, and what a reset leaves. -/

namespace Sys2Proof.Machine

open Sys2Proof.Safety

/-! ### What is due (R2; log 1) -/

theorem mem_dueIf {c i : Instr} {b : Bool} : c ∈ dueIf b i ↔ b = true ∧ c = i := by
  cases b <;> simp [dueIf]

theorem State.timerDue_iff {s : State} {o : Option Timer} : s.timerDue o = true ↔ RunOut s o := by
  simp only [State.timerDue, RunOut, Option.any_eq_true, Timer.due, decide_eq_true_eq]
  rfl

theorem State.expiryDue_iff {s : State} {o : Option Tick} : s.expiryDue o = true ↔ o = some s.tick := by
  cases o <;> simp [State.expiryDue]

theorem State.glareDue_iff {s : State} {g : Segment} {p : GlarePhase} :
    s.glareDue g p = true ↔ g.phase = p ∧ ∃ t, g.glareStart = some t ∧ g.glareLen * 1000 ≤ s.tick.since t := by
  cases h : g.glareStart <;> simp [State.glareDue, h]

theorem State.moving_iff {s : State} {g : Nat} : s.moving g = true ↔ (s.segment g).state = .moving := by
  simp only [State.moving, decide_eq_true_eq]
  rfl

theorem Port.inFrame_iff {p : Port} : p.inFrame = true ↔ ∃ l, p.rx = .inFrame l := by
  cases h : p.rx <;> simp [Port.inFrame, h]

theorem State.loadDue_iff {s : State} :
    (s.loader.load.any fun j => s.timerDue j.txn) = true ↔ ∃ j, s.loader.load = some j ∧ RunOut s j.txn := by
  simp only [Option.any_eq_true, State.timerDue_iff]

theorem State.pollDue_iff {s : State} : ((s.saveIn .polling).any fun j => s.timerDue j.poll) = true
    ↔ ∃ j, s.loader.save = some j ∧ j.phase = .polling ∧ RunOut s j.poll := by
  simp only [Option.any_eq_true, State.timerDue_iff, State.saveIn, Option.filter_eq_some_iff, decide_eq_true_eq, and_assoc]

theorem mem_dueOnce {s : State} {c : Instr} : c ∈ s.dueOnce ↔
    (s.port.restartDue = true ∧ c = .restartTakesEffect s.heldPins)
      ∨ ((s.loader.device = .starting ∧ RunOut s s.loader.startup) ∧ c = .startupDelayExpiry)
      ∨ ((∃ j, s.loader.load = some j ∧ RunOut s j.txn) ∧ c = .memoryTransactionTimeout)
      ∨ ((∃ j, s.loader.save = some j ∧ j.phase = .polling ∧ RunOut s j.poll) ∧ c = .ackPollTimeout)
      ∨ (((∃ l, s.port.rx = .inFrame l) ∧ 20 < s.tick.since s.port.rxLast) ∧ c = .frameGapTimeout)
      ∨ ((s.clock.stopped = false ∧ 32768000 ≤ s.clock.subsec) ∧ c = .clockSecondAdvance)
      ∨ (RunOut s s.sweep.settle ∧ c = .calSettleExpiry) := by
  simp only [State.dueOnce, List.mem_append, mem_dueIf, Bool.and_eq_true, decide_eq_true_eq, State.timerDue_iff,
    State.loadDue_iff, State.pollDue_iff, Port.inFrame_iff, State.frameGap, Bool.not_eq_true', or_assoc]
  rfl

theorem mem_dueSensorLine {s : State} {l : Fin 2} {c : Instr} : c ∈ s.dueSensorLine l ↔
    ((∃ t, (s.sensorLine l).txn = some t ∧ 25 ≤ s.tick.since t.start) ∧ c = .sensorTransactionTimeout l)
      ∨ (RunOut s (s.sensorLine l).interval ∧ c = .pollIntervalExpiry l) := by
  simp only [State.dueSensorLine, List.mem_append, mem_dueIf, State.timerDue_iff, Option.any_eq_true, decide_eq_true_eq]

theorem mem_dueGearLine {s : State} {l : Fin 4} {c : Instr} : c ∈ s.dueGearLine l ↔
    (RunOut s (s.gearLine l).supplyDebounce ∧ c = .linePowerChange l)
      ∨ (((s.gearLine l).state = .starting ∧ RunOut s (s.gearLine l).settle) ∧ c = .startSettleExpiry l)
      ∨ (((s.gearLine l).state = .up ∧ RunOut s (s.gearLine l).audit) ∧ c = .auditTimerExpiry l) := by
  simp only [State.dueGearLine, List.mem_append, mem_dueIf, State.timerDue_iff, Bool.and_eq_true, decide_eq_true_eq,
    GearLine.isUp, or_assoc]

theorem mem_dueSegment {s : State} {g : Fin 16} {c : Instr} : c ∈ s.dueSegment g ↔
    (((s.segment g).state = .moving ∧ RunOut s (s.segment g).travel) ∧ c = .travelTimeout g)
      ∨ (((s.segment g).state = .moving ∧ RunOut s (s.segment g).query) ∧ c = .shadeQueryExpiry g)
      ∨ (RunOut s (s.segment g).settle ∧ c = .shadeSettleExpiry g)
      ∨ (((s.segment g).phase = .glarePending
          ∧ ∃ t, (s.segment g).glareStart = some t ∧ (s.segment g).glareLen * 1000 ≤ s.tick.since t) ∧ c = .glareTimerExpiry g)
      ∨ (((s.segment g).phase = .releasePending
          ∧ ∃ t, (s.segment g).glareStart = some t ∧ (s.segment g).glareLen * 1000 ≤ s.tick.since t) ∧ c = .releaseTimerExpiry g)
      ∨ (((s.segment g).manual = true ∧ (s.segment g).manualExpiry = some s.tick) ∧ c = .manualExpiry g) := by
  simp only [State.dueSegment, List.mem_append, mem_dueIf, State.timerDue_iff, Bool.and_eq_true, State.moving_iff,
    State.glareDue_iff, State.expiryDue_iff, or_assoc]

theorem mem_dueOcc {s : State} {i : Fin 8} {c : Instr} :
    c ∈ s.dueOcc i ↔ RunOut s (s.occInput i).debounce ∧ c = .occDebounceExpiry i := by
  simp only [State.dueOcc, mem_dueIf, State.timerDue_iff]

theorem mem_dueZone {s : State} {z : Fin 48} {c : Instr} : c ∈ s.dueZone z ↔
    ((∃ x, s.zone z = some x ∧ x.overrideActive = true ∧ x.overrideExpiry = some s.tick) ∧ c = .overrideExpiry z)
      ∨ ((∃ x, s.zone z = some x ∧ RunOut s x.vacancy) ∧ c = .vacancyTimerExpiry z) := by
  cases h : s.zone z <;>
    simp [State.dueZone, h, mem_dueIf, State.timerDue_iff, State.expiryDue_iff]

theorem mem_dueCommands {s : State} {c : Instr} : c ∈ s.dueCommands ↔
    c ∈ s.dueOnce ∨ (∃ l, c ∈ s.dueSensorLine l) ∨ (∃ l, c ∈ s.dueGearLine l) ∨ (∃ g, c ∈ s.dueSegment g)
      ∨ (∃ i, c ∈ s.dueOcc i) ∨ (∃ z, c ∈ s.dueZone z) := by
  simp only [State.dueCommands, List.mem_append, List.mem_flatMap, List.mem_finRange, true_and, or_assoc]

theorem mem_dueCommands_iff_whenDue {s : State} {c : Instr} : c ∈ s.dueCommands ↔ WhenDue s c := by
  rw [mem_dueCommands, mem_dueOnce]
  simp only [mem_dueSensorLine, mem_dueGearLine, mem_dueSegment, mem_dueOcc, mem_dueZone]
  cases c <;> simp [WhenDue]

/-- Settles O2. -/
theorem stepWithNothingWaitingPassesTime : Obligations.StepWithNothingWaitingPassesTime := by
  intro s hp
  have idles : step s = .next s.idle := by rw [step, hp]
  refine ⟨fun c more hd => ?_, fun hd => ?_, fun c => mem_dueCommands_iff_whenDue⟩
  · rw [idles, State.idle, hd]
  · rw [idles, State.idle, hd]
    rfl

/-! ### The state after a reset -/

section
variable (pins : ResetPins) (clock : Clock) (pending : List Instr)

theorem entryAt_replicate_none {α : Type} (n i : Nat) : entryAt (List.replicate n (none : Option α)) i = none := by
  unfold entryAt
  rw [List.getElem?_replicate]
  split <;> rfl

theorem getD_replicate_self {α : Type} (n i : Nat) (x : α) : (List.replicate n x).getD i x = x := by
  rw [List.getD_eq_getElem?_getD, List.getElem?_replicate]
  split <;> rfl

theorem getD_map_range {α : Type} {n i : Nat} {f : Nat → α} (h : i < n) (d : α) : ((List.range n).map f).getD i d = f i := by
  simp [List.getD_eq_getElem?_getD, h]

theorem sensor_atReset (i : Nat) : (State.atReset pins clock pending).sensor i = none := entryAt_replicate_none ..
theorem zone_atReset (z : Nat) : (State.atReset pins clock pending).zone z = none := entryAt_replicate_none ..
theorem gearAt_atReset (i : Nat) : (State.atReset pins clock pending).gearAt i = none := entryAt_replicate_none ..
theorem period_atReset (i : Nat) : (State.atReset pins clock pending).period i = none := entryAt_replicate_none ..

theorem sensorLine_atReset (l : Nat) : (State.atReset pins clock pending).sensorLine l = SensorLine.factory :=
  getD_replicate_self ..

theorem segment_atReset (g : Nat) : (State.atReset pins clock pending).segment g = Segment.atReset SegmentDef.factory :=
  getD_replicate_self ..

theorem calResult_atReset (z : Nat) : (State.atReset pins clock pending).calResult z = CalResult.empty :=
  getD_replicate_self ..

theorem gearLine_atReset {l : Nat} (h : l < 4) :
    (State.atReset pins clock pending).gearLine l = GearLine.factory (pins.lpwr.getLsbD l) :=
  getD_map_range (f := fun l => GearLine.factory (pins.lpwr.getLsbD l)) h _

theorem occInput_atReset {i : Nat} (h : i < 8) :
    (State.atReset pins clock pending).occInput i = OccInput.factory (pins.occ.getLsbD i) :=
  getD_map_range (f := fun i => OccInput.factory (pins.occ.getLsbD i)) h _

theorem get_zero (k : Counter) : Counters.zero.get k = 0 := by
  cases k <;>
    simp only [Counters.get, Counters.zone, Counters.line, Counters.shade, Counters.zero, getD_replicate_self]

/-- CLOCK_INVALID alone is latched, where the clock is not valid (R190, R155). -/
theorem hasFlag_atReset (f : Flag) :
    hasFlag (State.atReset pins clock pending).flags.latched f = (decide (f = .clockInvalid) && !clock.valid) := by
  show hasFlag (if clock.valid then 0x0000 else 0x0200) f = _
  cases clock.valid <;> cases f <;> decide

/-- Settles O16. -/
theorem aResetLeavesTheReferenceState : Obligations.AResetLeavesTheReferenceState := by
  intro pins clock pending t
  refine ⟨sensor_atReset _ _ _, zone_atReset _ _ _, gearAt_atReset _ _ _, period_atReset _ _ _, fun l => ?_, fun l hl => ?_,
    fun g => ?_, fun i hi => ?_, calResult_atReset _ _ _, rfl, fun k => ⟨get_zero k, get_zero k⟩, rfl,
    hasFlag_atReset pins clock pending, rfl, rfl, rfl, rfl, rfl, rfl, rfl, rfl, rfl⟩
  · rw [sensorLine_atReset]; exact ⟨rfl, rfl⟩
  · rw [gearLine_atReset pins clock pending hl]; exact ⟨rfl, rfl, rfl⟩
  · rw [segment_atReset]; exact ⟨rfl, rfl, rfl, rfl⟩
  · rw [occInput_atReset pins clock pending hi]; exact ⟨rfl, rfl⟩

end

/-! ### What a reset leaves of the bounds -/

section
variable (pins : ResetPins) (clock : Clock) (s : State)

theorem mem_gearLines_resetWith {x : GearLine} (h : x ∈ (s.resetWith pins clock).gearLines) : ∃ b, x = GearLine.factory b := by
  obtain ⟨l, -, rfl⟩ := List.mem_map.mp h
  exact ⟨_, rfl⟩

theorem linesSound_resetWith : LinesSound (s.resetWith pins clock) := by
  intro x hx
  obtain ⟨b, rfl⟩ := mem_gearLines_resetWith pins clock s hx
  exact ⟨queueSound_nil, fun _ => rfl, by simp [GearLine.factory]⟩

theorem marksSound_resetWith : MarksSound (s.resetWith pins clock) where
  gear i g h := by
    rw [show (s.resetWith pins clock).gearAt i = none from gearAt_atReset pins clock s.pending i] at h
    cases h
  lines x hx _ := by
    obtain ⟨b, rfl⟩ := mem_gearLines_resetWith pins clock s hx
    rfl
  off _ x hx := by
    obtain ⟨b, rfl⟩ := mem_gearLines_resetWith pins clock s hx
    rfl
  loading h := by cases h

theorem portWithinCapacity_resetWith : PortWithinCapacity (s.resetWith pins clock) :=
  ⟨Nat.zero_le _, Nat.zero_le _⟩

theorem tablesWhole_resetWith : TablesWhole (s.resetWith pins clock) := by
  constructor <;> simp [State.resetWith, State.atReset]

end

/-- The state after reset is that of a reset with every pin low and a tripped backup-loss detector (log 6, 8). -/
theorem reset_eq_resetWith :
    State.reset = State.resetWith { straps := 0, occ := 0, lpwr := 0 } (Clock.afterBackupLoss false) State.reset := rfl

/-- Settles O7. -/
theorem resetMeetsWhatStepsKeep : Obligations.ResetMeetsWhatStepsKeep := by
  unfold Obligations.ResetMeetsWhatStepsKeep
  rw [reset_eq_resetWith]
  exact ⟨attnCoherent_resetWith .., linesSound_resetWith _ _ _, marksSound_resetWith .., portWithinCapacity_resetWith ..,
    countersInRange_zero, countersInRange_zero, tablesWhole_resetWith .., levelsLegal_resetWith _ _ _⟩

end Sys2Proof.Machine
end

section
/-! PROOFS. Replies and their encodings, the port's own requests, its receiver and transmitter, and the resets (chapter 10). -/

namespace Sys2Proof.Machine

open Sys2Proof.Safety

/-! ### The bytes of fields (R200, R201) -/

@[simp] theorem bytesOf_nil : bytesOf [] = [] := rfl

theorem bytesOf_append (l m : List (Nat × Nat)) : bytesOf (l ++ m) = bytesOf l ++ bytesOf m := List.flatMap_append ..

@[simp] theorem bytesOf_one (n : Nat) (l : List (Nat × Nat)) : bytesOf ((1, n) :: l) = u8 n ++ bytesOf l := by
  simp [bytesOf, u8]

@[simp] theorem bytesOf_two (n : Nat) (l : List (Nat × Nat)) : bytesOf ((2, n) :: l) = u16 n ++ bytesOf l := by
  simp [bytesOf, u16, List.range_succ]

@[simp] theorem bytesOf_four (n : Nat) (l : List (Nat × Nat)) : bytesOf ((4, n) :: l) = u32 n ++ bytesOf l := by
  simp [bytesOf, u32, u16, List.range_succ, Nat.div_div_eq_div_mul]

theorem flag8_eq (b : Bool) : flag8 b = u8 b.toNat := by cases b <;> rfl

theorem deviceByte_eq (d : DeviceState) : deviceByte d = u8 d.code := by cases d <;> rfl

theorem rateBytes_eq (straps : BitVec 2) : rateBytes straps = u32 (portRate straps) := by
  revert straps
  decide

/-! ### The replies of request commands (R181, R182) -/

theorem reply_accepted (k : Kind) (tag : Byte) (fields : List Byte) (t : State) :
    reply .direct k.code tag (accepted fields t) = answered k tag .ok fields t := rfl

theorem reply_acceptedAs (k : Kind) (tag : Byte) (adjusted : Bool) (fields : List Byte) (t : State) :
    reply .direct k.code tag (acceptedAs adjusted fields t) = answered k tag (okOrAdjusted adjusted) fields t := rfl

theorem reply_refused (k : Kind) (tag : Byte) (r : Result) (s : State) :
    reply .direct k.code tag (refused r s) = answered k tag r [] s := rfl

/-! ### The flags' requests (R185 to R188) -/

theorem attnDue_eq (latched enables : Word16) : attnDue latched enables = decide (latched &&& enables ≠ 0) := by
  rw [attnDue, bne, decide_not]
  rfl

theorem hasFlag_occChange (w : Word16) : hasFlag w .occChange = w.getLsbD 8 := rfl

theorem State.clearFlags_eq (s : State) (w : Word16) : s.clearFlags w = { s with
    flags := { latched := s.flags.latched &&& ~~~w, enables := s.flags.enables
               attn := decide (s.flags.latched &&& ~~~w &&& s.flags.enables ≠ 0) }
    occ := if w.getLsbD 8 then s.occ.map fun o => { o with changed := false } else s.occ } := by
  rw [State.clearFlags, hasFlag_occChange, State.unlatch, State.withFlags, attnDue_eq]
  cases w.getLsbD 8 <;> rfl

theorem State.setEnables_eq (s : State) (w : Word16) : s.setEnables w = { s with
    flags := { latched := s.flags.latched, enables := w, attn := decide (s.flags.latched &&& w ≠ 0) } } := by
  rw [State.setEnables, State.withFlags, attnDue_eq]

theorem encSaveReport_eq (s : State) : encSaveReport s = bytesOf (match s.loader.saveReport with
    | .none => [(1, 255), (1, 255), (4, Config.unstated .saveGeneration s.replyCount), (1, 255)]
    | .ok slot generation => [(1, 0), (1, slot), (4, generation), (1, 255)]
    | .failed cause => [(1, 0x1A), (1, 255), (4, Config.unstated .saveGeneration s.replyCount), (1, cause.code)]) := by
  unfold encSaveReport
  cases s.loader.saveReport <;> simp [opt8, Result.code]

/-- Settles O10. -/
theorem identifyAndTheFlagRequestsAnswer : Obligations.IdentifyAndTheFlagRequestsAnswer := by
  intro tag w s
  refine ⟨?identify, rfl, fun hr => ⟨?clear, ?enables⟩, ?status⟩
  case identify =>
    rw [deviceByte_eq, rateBytes_eq]
    simp only [exec, execIdentify, serveIdentify, reply_accepted, List.append_assoc]
    rfl
  case clear =>
    simp only [exec, execClearFlags, whenRunning_of_running hr, serveClearFlags, State.clearFlags_eq, reply_accepted]
  case enables =>
    simp only [exec, execSetFlagEnables, whenRunning_of_running hr, serveSetFlagEnables, State.setEnables_eq, reply_accepted]
  case status =>
    intro zonesIn free report
    have hreport : encSaveReport s = bytesOf report := encSaveReport_eq s
    simp only [bytesOf_append, ← hreport, deviceByte_eq, encStatus, encSaveState, encFlags, encOccChanges,
      tick32, flag8_eq, opt8, List.append_assoc, List.map_cons, List.map_nil, bytesOf_one, bytesOf_two, bytesOf_four, bytesOf_nil,
      List.append_nil]
    rfl

/-! ### The port's checks (R180, R182, R183) -/

/-- Settles O11. -/
theorem thePortChecksInOrderAndRefusalsChangeNothing : Obligations.ThePortChecksInOrderAndRefusalsChangeNothing := by
  intro kind payload s
  refine ⟨fun unknown => ?_, fun k known badly => ?_, fun k f known laid hi hg stopped => ?_, fun notOk notAdjusted => ?_⟩
  · simp only [serveRequest, unknown, refused]
  · simp only [serveRequest, known, badly, refused]
  · have halways : k.always = false := by simp [Kind.always, hi, hg]
    have hs : s.running = false := by simp [State.running, stopped]
    simp [serveRequest, known, laid, halways, whenRunning_of_not hs, refused]
  · have unchanged := (sound_serveRequest kind payload s).2 notOk notAdjusted
    rw [unchanged]
    exact ⟨rfl, rfl⟩

/-! ### Discarded frames (R178, R179) -/

/-- What a latch leaves is the state with other flags. -/
theorem State.latchIf_eq (s : State) (c : Bool) (f : Flag) : s.latchIf c f = { s with flags := (s.latchIf c f).flags } := by
  cases c <;> rfl

/-- What an increment leaves is the state with the counter's new value and other flags (R169). -/
theorem State.countBy_eq (s : State) (k : Counter) (n : Nat) : s.countBy k n =
    { s with live := s.live.put k (satAdd (s.live.get k) n), flags := (s.countBy k n).flags } := State.latchIf_eq ..

theorem State.count_eq (s : State) (k : Counter) : s.count k =
    { s with live := s.live.put k (satAdd (s.live.get k) 1), flags := (s.count k).flags } := State.countBy_eq ..

/-- An increment latches no flag but COUNTER_SATURATED (R169). -/
theorem flagsGrow_countBy (s : State) (k : Counter) (n : Nat) : FlagsGrow [.counterSaturated] s (s.countBy k n) := by
  refine ⟨by rw [State.countBy_flags]; split <;> rfl, fun f => ?_⟩
  rw [State.countBy, hasFlag_latchIf]
  refine ⟨fun h => by rw [State.modLive_flags, h]; rfl, fun hf => ?_⟩
  have hne : f ≠ .counterSaturated := by simpa using hf
  simp [hne]

theorem discarded_discardFrame (s : State) : Discarded s s.discardFrame where
  rest := calc
    s.discardFrame = { (s.modPort fun p => { p with rx := .hunt }).count .framingErrors with flags := s.discardFrame.flags } := rfl
    _ = { s with port := { s.port with rx := .hunt }
                 live := { s.live with framingErrors := min 4294967295 (s.live.framingErrors + 1) }
                 flags := s.discardFrame.flags } := by rw [State.count_eq]; rfl
  latched := by rw [hasFlag_discardFrame]; simp
  flags := by
    refine ⟨enables_discardFrame s, fun f => ?_⟩
    rw [hasFlag_discardFrame]
    refine ⟨fun h => by rw [h]; rfl, fun hf => ?_⟩
    simp only [List.mem_cons, List.not_mem_nil, or_false, not_or] at hf
    simp [hf.1, hf.2]

/-! ### The request queue (R179 to R181) -/

theorem Port.headDue_iff {p : Port} {q : Request} {more : List Request} (hq : p.queue = q :: more) :
    p.headDue = true ↔ p.restartDue = false ∧ (∀ r ∈ p.replies, r.origin = .busy) ∧ q.executed = false := by
  simp [Port.headDue, hq, Reply.ofRequest, and_assoc]

/-- A head request that has not been executed, while no reset is due and only BUSY replies wait, is executed (R180, R181). -/
theorem State.executeHead_of_due {s : State} {q : Request} {more : List Request} (hq : s.port.queue = q :: more)
    (hd : s.port.restartDue = false) (hb : ∀ r ∈ s.port.replies, r.origin = .busy) (hx : q.executed = false) :
    s.executeHead = reply .queued q.kind q.tag (serveRequest q.kind q.payload
      { s with port := { s.port with queue := { q with executed := true } :: more } }) := by
  have marked : s.port.markExecuted = { s.port with queue := { q with executed := true } :: more } := by
    rw [Port.markExecuted, hq]
    rfl
  rw [State.executeHead, if_pos ((Port.headDue_iff hq).mpr ⟨hd, hb, hx⟩), hq]
  simp only [State.modPort, marked]

theorem State.executeHead_of_not_due {s : State} (h : ¬ s.port.headDue = true) : s.executeHead = s := if_neg h

section
variable {s : State} {kind tag : Byte} {payload : List Byte}

theorem State.takeFrame_of_room (h : s.port.queue.length < 4) : s.takeFrame kind tag payload =
    (s.modPort fun p => { p with queue := p.queue ++ [waitingRequest kind tag payload] }).executeHead := if_pos h

theorem State.takeFrame_of_place (h : ¬ s.port.queue.length < 4) (hb : s.port.busyList.length < 4) :
    s.takeFrame kind tag payload = (reply .busy kind tag (refused .busy s)).count .busyReplies := (if_neg h).trans (if_pos hb)

theorem State.takeFrame_of_full (h : ¬ s.port.queue.length < 4) (hb : ¬ s.port.busyList.length < 4) :
    s.takeFrame kind tag payload = s.discardFrame := (if_neg h).trans (if_neg hb)

end

/-- Settles O12. -/
theorem aFrameIsQueuedAnsweredBusyOrDiscarded : Obligations.AFrameIsQueuedAnsweredBusyOrDiscarded := by
  intro kind tag payload s
  refine ⟨rfl, fun hlen => ⟨_, congrArg Host.Outcome.next (if_pos hlen), ?_⟩⟩
  by_cases hroom : s.port.queue.length < 4
  · rw [State.takeFrame_of_room (s := s.modPort fun p => { p with rx := .hunt }) hroom, if_pos hroom]
    intro u
    split
    next idle =>
      obtain ⟨hempty, hdue, hreplies⟩ := idle
      exact State.executeHead_of_due (q := waitingRequest kind tag payload) (more := []) (s := u) (by simp [u, hempty]) hdue hreplies rfl
    next => rfl
  · rw [if_neg hroom]
    by_cases hplace : s.port.busyList.length < 4
    · rw [State.takeFrame_of_place (s := s.modPort fun p => { p with rx := .hunt }) hroom hplace, if_pos hplace]
      refine ⟨flagsGrow_countBy _ .busyReplies 1, ?_⟩
      rw [State.count_eq]
      rfl
    · rw [State.takeFrame_of_full (s := s.modPort fun p => { p with rx := .hunt }) hroom hplace, if_neg hplace]
      exact discarded_discardFrame _

/-! ### The receiver (R178, R200) -/

theorem State.frameGap_iff {s : State} : s.frameGap = true ↔ 20 < s.tick.since s.port.rxLast := decide_eq_true_iff

theorem frameLength_append {l : List Byte} {b : Byte} (h : l.length = 2) : frameLength (l ++ [b]) = some b.toNat := by
  simp [frameLength, h]

/-- A byte that gives a length above 240 discards the frame (R178). -/
theorem takeByte_of_long {l : List Byte} {b : Byte} (h : l.length = 2) (hb : 240 < b.toNat) (s : State) :
    s.takeByte (l ++ [b]) = s.discardFrame := by
  rw [State.takeByte, if_pos]
  rw [frameLength_append h]
  exact ⟨by simp [h], decide_eq_true hb⟩

/-- The bytes after the start of a frame: kind, tag, length, payload and check (R200). -/
def assembled (kind tag : Byte) (payload : List Byte) (hi lo : Byte) : List Byte :=
  kind :: tag :: BitVec.ofNat 8 payload.length :: payload ++ [hi, lo]

section
variable {kind tag : Byte} {payload : List Byte} {hi lo : Byte}

theorem assembled_eq : assembled kind tag payload hi lo = (kind :: tag :: BitVec.ofNat 8 payload.length :: payload) ++ [hi, lo] := rfl

theorem length_assembled : (assembled kind tag payload hi lo).length = payload.length + 5 := by
  simp [assembled]

theorem frameLength_assembled (h : payload.length ≤ 240) : frameLength (assembled kind tag payload hi lo) = some payload.length := by
  simp [frameLength, assembled]
  omega

theorem frameComplete_assembled (h : payload.length ≤ 240) : frameComplete (assembled kind tag payload hi lo) = true := by
  rw [frameComplete, frameLength_assembled h, length_assembled]
  simp

theorem framePayload_assembled : framePayload (assembled kind tag payload hi lo) = payload := by
  rw [framePayload, length_assembled]
  simp [assembled]

theorem beNat_pair (hi lo : Byte) : BitVec.ofNat 16 (beNat [hi, lo]) = hi ++ lo := by
  apply BitVec.eq_of_toNat_eq
  simp only [beNat, List.foldl_cons, List.foldl_nil, BitVec.toNat_ofNat, BitVec.toNat_append]
  have := hi.isLt
  have := lo.isLt
  rw [← Nat.shiftLeft_add_eq_or_of_lt lo.isLt, Nat.shiftLeft_eq]
  omega

theorem frameAgrees_assembled : frameAgrees (assembled kind tag payload hi lo) = true
    ↔ hi ++ lo = crc16 (kind :: tag :: BitVec.ofNat 8 payload.length :: payload) := by
  have hcut : (assembled kind tag payload hi lo).length - 2 = (kind :: tag :: BitVec.ofNat 8 payload.length :: payload).length := by
    simp [assembled]
  rw [frameAgrees, hcut, assembled_eq, List.take_left, List.drop_left, beNat_pair, decide_eq_true_eq]
  exact eq_comm

/-- The byte that completes a frame hands it on where its check agrees, and discards it otherwise (R178, R200). -/
theorem takeByte_assembled (h : payload.length ≤ 240) (s : State) : s.takeByte (assembled kind tag payload hi lo) =
    if hi ++ lo = crc16 (kind :: tag :: BitVec.ofNat 8 payload.length :: payload) then
      (s.modPort fun p => { p with rx := .hunt }).takeFrame kind tag payload
    else s.discardFrame := by
  have notLong : ¬ ((assembled kind tag payload hi lo).length = 3
      ∧ (frameLength (assembled kind tag payload hi lo)).any (Config.maxPayload < ·) = true) := by
    rw [length_assembled]
    omega
  rw [State.takeByte, if_neg notLong, if_pos (frameComplete_assembled h), framePayload_assembled]
  exact if_congr frameAgrees_assembled rfl rfl

end

/-- A byte that neither completes a frame nor gives a length above 240 is taken (R178). -/
theorem takeByte_of_short {l : List Byte} {b : Byte} (h : l.length < 2 ∨ (l.length = 2 ∧ b.toNat ≤ 240)
      ∨ ∃ n : Byte, l[2]? = some n ∧ n.toNat ≤ 240 ∧ l.length + 1 < n.toNat + 5) (s : State) :
    s.takeByte (l ++ [b]) = s.modPort fun p => { p with rx := .inFrame (l ++ [b]), rxLast := s.tick } := by
  have hlen : (l ++ [b]).length = l.length + 1 := by simp
  rcases h with short | ⟨two, small⟩ | ⟨n, third, small, before⟩
  · have none : frameLength (l ++ [b]) = none := by
      simp [frameLength, hlen]
      omega
    rw [State.takeByte, frameComplete, none, if_neg (by simp), if_neg (by simp)]
  · rw [State.takeByte, frameComplete, frameLength_append two, if_neg, if_neg]
    · simp [two]
    · exact fun h => absurd (of_decide_eq_true (p := 240 < b.toNat) h.2) (Nat.not_lt.mpr small)
  · have hl : 2 < l.length := (List.getElem?_eq_some_iff.mp third).1
    have hn : frameLength (l ++ [b]) = some n.toNat := by
      rw [frameLength, List.getElem?_append_left hl, third]
      rfl
    rw [State.takeByte, frameComplete, hn, if_neg, if_neg]
    · simp
      omega
    · simp
      omega

theorem exec_frameDiscarded_of_inFrame {s : State} {l : List Byte} (h : s.port.rx = .inFrame l) :
    exec .frameDiscarded s = .next s.discardFrame ∧ exec .frameGapTimeout s = .next s.discardFrame := by
  have hin : s.port.inFrame = true := Port.inFrame_iff.mpr ⟨l, h⟩
  simp only [exec, execFrameDiscarded, execFrameGapTimeout, if_pos hin, and_self]

theorem exec_frameDiscarded_of_hunt {s : State} (h : s.port.rx = .hunt) :
    exec .frameDiscarded s = .next s ∧ exec .frameGapTimeout s = .next s := by
  have hin : ¬ s.port.inFrame = true := by simp [Port.inFrame, h]
  simp only [exec, execFrameDiscarded, execFrameGapTimeout, if_neg hin, and_self]

theorem exec_frameByteReceived_of_inFrame {s : State} {l : List Byte} (h : s.port.rx = .inFrame l) (b : Byte) :
    exec (.frameByteReceived b) s =
      .next (if 20 < s.tick.since s.port.rxLast then s.discardFrame.huntByte b else s.takeByte (l ++ [b])) := by
  simp only [exec, execFrameByteReceived, h, State.frameGap_iff]

theorem exec_frameByteReceived_of_hunt {s : State} (h : s.port.rx = .hunt) (b : Byte) :
    exec (.frameByteReceived b) s = .next (s.huntByte b) := by
  simp only [exec, execFrameByteReceived, h]

theorem huntByte_discardFrame (s : State) (b : Byte) : s.discardFrame.huntByte b = if b = 0xA5 then
    { s.discardFrame with port := { s.discardFrame.port with rx := .inFrame [], rxLast := s.tick } } else s.discardFrame := by
  rw [State.huntByte, (discarded_discardFrame s).rest]
  rfl

/-- Settles O13. -/
theorem bytesAssembleOrDiscardFrames : Obligations.BytesAssembleOrDiscardFrames := by
  refine ⟨fun s => ⟨fun l hin => ?_, exec_frameDiscarded_of_hunt⟩, fun b l s => ?_, fun b c hc => ?_, fun c h0 h9 => ?_, fun c h0 => ?_⟩
  · obtain ⟨hd, hg⟩ := exec_frameDiscarded_of_inFrame hin
    exact ⟨_, hd, hg, discarded_discardFrame s⟩
  · cases hrx : s.port.rx with
    | hunt => exact ⟨_, exec_frameByteReceived_of_hunt hrx b, fun _ => rfl, nofun⟩
    | inFrame m =>
      refine ⟨_, exec_frameByteReceived_of_inFrame hrx b, nofun, fun hm => ?_⟩
      obtain rfl : m = l := by simpa using hm
      split
      next => exact ⟨_, discarded_discardFrame s, huntByte_discardFrame s b⟩
      next =>
        refine ⟨fun two long => ?_, fun kind tag payload hi lo hp he => ?_, fun short => takeByte_of_short short s⟩
        · rw [takeByte_of_long two long]
          exact discarded_discardFrame s
        · rw [he, ← assembled_eq, takeByte_assembled hp]
          split
          · exact congrArg Host.Outcome.next (if_pos hp)
          · exact discarded_discardFrame s
  · rw [(carries_iff c b).mp hc, byteCommand_characterOf]
  · simp only [byteCommand, startsLow, stopsLow, h0, h9]
    rfl
  · simp only [byteCommand, startsLow, h0]
    rfl

/-! ### The reply transmitter (R177, R181) -/

/-- Settles O14. -/
theorem aReplySentFreesThePort : Obligations.AReplySentFreesThePort := by
  refine ⟨fun s => ⟨fun quiet => ?_, fun r rest hr hd => ?_⟩, fun r rest s hd hr notRestart => ?_⟩
  · rw [portOutput_eq]
    rcases quiet with none | due
    · rw [none]; rfl
    · rw [due]; cases s.port.replies.head? <;> rfl
  · obtain ⟨hi, lo, hcheck, hframe⟩ := frameBytes_eq r.kind r.tag r.payload
    refine ⟨hi, lo, hcheck, ?_⟩
    rw [portOutput_eq, hr, hd]
    exact congrArg (fun f => TxOutput.frame (f.flatMap lineLevels) (strapRate s.straps)) hframe
  · intro left u
    have hsent : s.modPort Port.sent = u := by
      have hno : r.isRestart = false := by simpa [Reply.isRestart] using notRestart
      simp only [State.modPort, Port.sent, hr, hno]
      rw [← hd]
      rfl
    have hexec : exec .replySent s = .next u.executeHead := by
      simp only [exec, execReplySent, hd, hsent]
      rfl
    rw [hexec]
    cases hl : left with
    | nil => exact congrArg Host.Outcome.next (State.executeHead_of_not_due (by simp [Port.headDue, u, hl]))
    | cons q more =>
      dsimp only
      split
      next h =>
        exact congrArg Host.Outcome.next (State.executeHead_of_due (s := u) hl hd h.2 h.1)
      next h =>
        refine congrArg Host.Outcome.next (State.executeHead_of_not_due ?_)
        rw [Port.headDue_iff (p := u.port) hl]
        exact fun ⟨_, busy, waits⟩ => h ⟨waits, busy⟩

/-! ### Resets (R155, R189, R192) -/

/-- Settles O15. -/
theorem resetsBringEveryBlockUp : Obligations.ResetsBringEveryBlockUp := by
  refine ⟨fun tag pins s => ⟨fun hr => ?_, fun r rest hd hr hk ho => ?_, fun hd => ⟨?_, ?_⟩⟩, fun pins failed s => ⟨rfl, ?_⟩⟩
  · simp only [exec, execRestart, whenRunning_of_running hr, serveRestart, reply_accepted]
  · have hyes : r.isRestart = true := by simp [Reply.isRestart, hk, ho]
    have hnot : ¬ (s.modPort Port.sent).port.headDue = true := by
      simp [Port.headDue, Port.sent, hr, hyes]
    simp only [exec, execReplySent, hd, Bool.false_eq_true, if_false, State.executeHead_of_not_due hnot]
    simp only [State.modPort, Port.sent, hr, hyes]
  · simp only [exec, execReplySent, hd, if_true]
  · simp only [exec, execRestartTakesEffect, Port.restarts, hd, Bool.true_or, if_true]
    rfl
  · simp only [exec, execPowerOn, State.resetWith, Clock.atPowerOn, Clock.afterBackupLoss]

end Sys2Proof.Machine
end

section
/-! PROOFS. The checks of requests, in the statements' terms and in the model's. -/

namespace Sys2Proof.Machine

open Sys2Proof.Safety

/-! ### Lists of checks (R4, R180) -/

/-- A list of checks of the model agrees with one of a statement: the first that fails there gives the result here. -/
def Mirrors (ps : List (Prop × Result)) (bs : List (Bool × Result)) : Prop := ∀ r, FirstFails ps r → firstFailing bs = some r

theorem Mirrors.nil (bs : List (Bool × Result)) : Mirrors [] bs := fun _ h => h.elim

theorem Mirrors.consOf {p : Prop} {b : Bool} {q : Result} {ps : List (Prop × Result)} {bs : List (Bool × Result)}
    (h : p ↔ b = true) (t : p → Mirrors ps bs) : Mirrors ((p, q) :: ps) ((b, q) :: bs) := by
  rintro r (⟨hp, rfl⟩ | ⟨hp, hr⟩)
  · rw [firstFailing_cons, if_neg (mt h.mpr hp)]
  · rw [firstFailing_cons, if_pos (h.mp hp)]
    exact t hp r hr

theorem Mirrors.cons {p : Prop} {b : Bool} {q : Result} {ps : List (Prop × Result)} {bs : List (Bool × Result)}
    (h : p ↔ b = true) (t : Mirrors ps bs) : Mirrors ((p, q) :: ps) ((b, q) :: bs) := .consOf h fun _ => t

/-- One check of a statement stands for two checks of the model with the same result. -/
theorem Mirrors.join {p : Prop} {a b : Bool} {q : Result} {ps : List (Prop × Result)} {bs : List (Bool × Result)}
    (h : Mirrors ((p, q) :: ps) ((a && b, q) :: bs)) : Mirrors ((p, q) :: ps) ((a, q) :: (b, q) :: bs) := by
  intro r hr
  rw [← h r hr]
  cases a <;> rfl

/-- Two checks of a statement with the same result stand for one check of the model. -/
theorem Mirrors.split {p p' : Prop} {q : Result} {ps : List (Prop × Result)} {bs : List (Bool × Result)}
    (h : Mirrors ((p ∧ p', q) :: ps) bs) : Mirrors ((p, q) :: (p', q) :: ps) bs := by
  rintro r (⟨hp, rfl⟩ | ⟨hp, ⟨hp', rfl⟩ | ⟨hp', hr⟩⟩)
  · exact h _ (.inl ⟨fun h => hp h.1, rfl⟩)
  · exact h _ (.inl ⟨fun h => hp' h.2, rfl⟩)
  · exact h _ (.inr ⟨⟨hp, hp'⟩, hr⟩)

/-- A request that is refused after its checks has one check more, which fails. -/
theorem checked_refused (bs : List (Bool × Result)) (q : Result) (s : State) (carry : Served) :
    checked bs s (refused q s) = checked (bs ++ [(false, q)]) s carry := by
  induction bs with
  | nil => rfl
  | cons b bs ih =>
    obtain ⟨b, r⟩ := b
    cases b with
    | false => rfl
    | true => exact ih

/-- A request whose service is a list of checks refuses with the first that fails, after the device state (R4, R180, R182). -/
theorem checksInOrder_of_served {k : Kind} {c : Byte → Instr} {s : State} {f : State → Served} {bs : List (Bool × Result)}
    {carry : Served} {ps : List (Prop × Result)}
    (hexec : ∀ tag, exec (c tag) s = .next (reply .direct k.code tag (whenRunning f s)))
    (hf : f s = checked bs s carry) (h : Mirrors ps bs) : ChecksInOrder k c s ps := by
  rintro tag r (⟨stopped, rfl⟩ | ⟨hr, hfails⟩)
  · rw [hexec, whenRunning_of_not (by simpa using stopped), reply_refused]
  · rw [hexec, whenRunning_of_running hr, hf, checked, h r hfails, reply_refused]

/-! ### Single checks -/

theorem quiet_iff {s : State} : Quiet s ↔ s.quiet = true := by simp [Quiet, State.quiet]

theorem between_iff {lo hi v : Nat} : between lo hi v = true ↔ lo ≤ v ∧ v ≤ hi := by simp [between]

theorem option_all_iff {α : Type} {o : Option α} {p : α → Bool} : o.all p = true ↔ ∀ v ∈ o, p v = true := by
  cases o <;> simp

theorem optBetween_iff {lo hi : Nat} {o : Option Nat} : optBetween lo hi o = true ↔ GivenIn lo hi o := by
  simp only [optBetween, option_all_iff, between_iff, GivenIn]

theorem isSome_flagOf_iff (v : Nat) : (flagOf v).isSome = true ↔ v ≤ 1 := by
  match v with
  | 0 => simp [flagOf]
  | 1 => simp [flagOf]
  | v + 2 => simp [flagOf]

theorem optFlag_iff {o : Option Nat} : optFlag o = true ↔ GivenIn 0 1 o := by
  simp only [optFlag, option_all_iff, isSome_flagOf_iff, GivenIn, Nat.zero_le, true_and]

theorem optRef_iff {n : Nat} {o : Option Nat} : optRef n o = true ↔ ∀ v ∈ o, v < n ∨ v = 0xFF := by
  simp only [optRef, option_all_iff, Bool.or_eq_true, beq_iff_eq, decide_eq_true_eq, or_comm]

theorem sensorFieldsOk_iff {enabled scale : Option Nat} :
    sensorFieldsOk enabled scale = true ↔ GivenIn 0 1 enabled ∧ GivenIn 64 1023 scale := by
  rw [sensorFieldsOk, Bool.and_eq_true, optFlag_iff, optBetween_iff]

theorem sensorAddressOk_iff {line address : Nat} : sensorAddressOk line address = true ↔
    0x08 ≤ address ∧ address ≤ 0x77 ∧ ¬ (line = 0 ∧ address = 0x5A) := by
  simp only [sensorAddressOk, Bool.and_eq_true, between_iff, Bool.not_eq_true', Bool.and_eq_false_iff, beq_eq_false_iff_ne,
    Config.memoryAddress, and_assoc, not_and_or, ne_eq]

/-! ### The checks on sensors (R5 to R8) -/

theorem names_free_iff {s : State} {i : Nat} : (!s.isControl i) = true ↔ ∀ z, ¬ Names s i z := by
  rw [Bool.not_eq_true', ← Bool.not_eq_true, State.isControl_iff, not_exists]

theorem windows_free_iff {s : State} {i : Nat} :
    (!s.isWindow i) = true ↔ ∀ g ∈ s.segments, g.cfg.windowSensor ≠ some i := by
  rw [Bool.not_eq_true', ← Bool.not_eq_true, State.isWindow_iff]
  simp only [not_exists, not_and, ne_eq]

theorem othersOnLine_eq (s : State) (i l : Nat) : s.othersOnLine i l = sensorsBeside s i l := by
  rw [State.othersOnLine, State.sensorsWhere, indicesWhere, List.filter_filter, sensorsBeside]
  simp only [bne, beq_eq_decide, decide_not]

theorem mem_othersOnLine {s : State} {i l j : Nat} :
    j ∈ s.othersOnLine i l ↔ (∃ x, s.sensor j = some x ∧ x.line = l) ∧ j ≠ i := by
  simp [State.othersOnLine, State.mem_sensorsWhere]

theorem address_free_iff {s : State} {i l a : Nat} :
    (!((s.othersOnLine i l).any fun j => (s.sensor j).any fun y => decide (y.address = a))) = true
      ↔ ∀ j x, j ≠ i → s.sensor j = some x → ¬ (x.line = l ∧ x.address = a) := by
  simp only [Bool.not_eq_true', List.any_eq_false, mem_othersOnLine, Option.any_eq_true, decide_eq_true_eq]
  constructor
  · intro h j x hj hx ⟨hl, ha⟩
    exact h j ⟨⟨x, hx, hl⟩, hj⟩ ⟨x, hx, ha⟩
  · rintro h j ⟨⟨x, hx, hl⟩, hj⟩ ⟨y, hy, ha⟩
    obtain rfl : x = y := Option.some.inj (hx.symm.trans hy)
    exact h j x hj hx ⟨hl, ha⟩

theorem kindFree_iff {s : State} {i k : Nat} {kind : SensorKind} (hk : SensorKind.ofCode k = some kind) :
    s.kindFree i kind = true ↔ (k = 1 → ∀ z, ¬ Names s i z) ∧ (k = 0 → ∀ g ∈ s.segments, g.cfg.windowSensor ≠ some i) := by
  match k, hk with
  | 0, rfl => simp only [State.kindFree, windows_free_iff]; simp
  | 1, rfl => simp only [State.kindFree, names_free_iff]; simp

theorem sensorKind_ofCode_none {k : Nat} : SensorKind.ofCode k = none ↔ ¬ k ≤ 1 := by
  match k with
  | 0 => simp [SensorKind.ofCode]
  | 1 => simp [SensorKind.ofCode]
  | k + 2 => simp [SensorKind.ofCode]

/-! ### The checks on zones (R9 to R13) -/

theorem zoneFieldsOk_iff {f : ZoneFields} : zoneFieldsOk f = true ↔ ZoneFieldsInRange f := by
  simp only [zoneFieldsOk, Bool.and_eq_true, optRef_iff, optBetween_iff, optFlag_iff, GivenIn, Nat.zero_le, true_and]
  constructor
  · rintro ⟨⟨⟨⟨⟨⟨⟨⟨⟨⟨⟨⟨hs, h0⟩, h1⟩, h2⟩, h3⟩, hc⟩, hl⟩, hf⟩, hp⟩, ho⟩, hd⟩, hm⟩, he⟩
    refine ⟨hs, ?_, fun v hv => Nat.lt_succ_of_le (hc v hv), hl, hf, fun v hv => Nat.lt_succ_of_le (hp v hv), ho, hd, hm, he⟩
    simp only [List.mem_append, Option.mem_toList]
    rintro v (((hv | hv) | hv) | hv)
    · exact h0 v hv
    · exact h1 v hv
    · exact h2 v hv
    · exact h3 v hv
  · rintro ⟨hs, hg, hc, hl, hf, hp, ho, hd, hm, he⟩
    simp only [List.mem_append, Option.mem_toList] at hg
    exact ⟨⟨⟨⟨⟨⟨⟨⟨⟨⟨⟨⟨hs, fun v hv => hg v (.inl (.inl (.inl hv)))⟩, fun v hv => hg v (.inl (.inl (.inr hv)))⟩,
      fun v hv => hg v (.inl (.inr hv))⟩, fun v hv => hg v (.inr hv)⟩, fun v hv => Nat.le_of_lt_succ (hc v hv)⟩, hl⟩, hf⟩,
      fun v hv => Nat.le_of_lt_succ (hp v hv)⟩, ho⟩, hd⟩, hm⟩, he⟩

theorem refOf_eq_some {v i : Nat} : refOf v = some i ↔ v = i ∧ i ≠ 0xFF := by
  by_cases h : v = 0xFF
  · subst h; simp only [refOf, if_pos, reduceCtorEq, false_iff]; rintro ⟨rfl, h⟩; exact h rfl
  · simp only [refOf, if_neg h, Option.some.injEq]; exact ⟨fun e => ⟨e, e ▸ h⟩, fun e => e.1⟩

theorem mem_bind_refOf {o : Option Nat} {i : Nat} : i ∈ o.bind refOf ↔ i ∈ o ∧ i ≠ 0xFF := by
  simp only [Option.mem_def, Option.bind_eq_some_iff, refOf_eq_some]
  constructor
  · rintro ⟨v, hv, rfl, hi⟩; exact ⟨hv, hi⟩
  · rintro ⟨hv, hi⟩; exact ⟨i, hv, rfl, hi⟩

theorem mirrors_controlChecks {s : State} {f : ZoneFields} {ps : List (Prop × Result)} {bs : List (Bool × Result)}
    (h : Mirrors ps bs) : Mirrors (controlNamed s f.controlSensor ++ ps) (s.controlChecks f ++ bs) := by
  refine .cons ?_ (.cons ?_ h)
  · simp only [namedSensor, option_all_iff, mem_bind_refOf, and_imp]
  · simp only [namedSensor, option_all_iff, mem_bind_refOf, and_imp, decide_eq_true_eq]
    rfl

/-- A line group that a request names for one line is free there (R10). -/
theorem groupFree_iff {s : State} {z : Nat} {o : Option Nat} {on : ZoneDef → Option Nat} :
    ((o.bind refOf).all fun g =>
        ((s.zonesWhere fun x => decide (on x.cfg = some g)).filter fun y => y != z).isEmpty) = true
      ↔ ∀ y x, s.zone y = some x → y ≠ z → ∀ g ∈ o, g ≠ 0xFF → on x.cfg ≠ some g := by
  simp only [option_all_iff, mem_bind_refOf, List.isEmpty_iff, List.filter_eq_nil_iff, State.mem_zonesWhere, decide_eq_true_eq,
    bne_iff_ne, ne_eq, not_not]
  constructor
  · intro h y x hx hy g hg hne hon
    exact hy (h g ⟨hg, hne⟩ y ⟨x, hx, hon⟩)
  · rintro h g ⟨hg, hne⟩ y ⟨x, hx, hon⟩
    by_contra hy
    exact h y x hx hy g hg hne hon

theorem groupsFree_iff {s : State} {z : Nat} {f : ZoneFields} : GroupsFree s z f ↔ s.groupsFree z f = true := by
  rw [State.groupsFree]
  simp only [List.zipIdx_cons, List.zipIdx_nil, List.all_cons, List.all_nil, Bool.and_true, Bool.and_eq_true]
  rw [groupFree_iff (on := fun d => d.groups.on 0), groupFree_iff (on := fun d => d.groups.on 1),
    groupFree_iff (on := fun d => d.groups.on 2), groupFree_iff (on := fun d => d.groups.on 3)]
  constructor
  · intro h
    exact ⟨fun y x hx hy => (h y x hx hy).1, fun y x hx hy => (h y x hx hy).2.1, fun y x hx hy => (h y x hx hy).2.2.1,
      fun y x hx hy => (h y x hx hy).2.2.2⟩
  · rintro ⟨h0, h1, h2, h3⟩ y x hx hy
    exact ⟨h0 y x hx hy, h1 y x hx hy, h2 y x hx hy, h3 y x hx hy⟩

theorem band_ofCode_eq_some {c : Nat} {band : Band} : Band.ofCode c = some band ↔ band.code = c := by
  match c with
  | 0 => cases band <;> simp [Band.ofCode, Band.code]
  | 1 => cases band <;> simp [Band.ofCode, Band.code]
  | 2 => cases band <;> simp [Band.ofCode, Band.code]
  | c + 3 => cases band <;> simp [Band.ofCode, Band.code]

theorem band_code_inj {x y : Band} (h : x.code = y.code) : x = y :=
  Option.some.inj ((band_ofCode_eq_some.mpr h).symm.trans (band_ofCode_eq_some.mpr rfl))

theorem band_ofCode_none {c : Nat} : Band.ofCode c = none ↔ ¬ c ≤ 2 := by
  match c with
  | 0 => simp [Band.ofCode]
  | 1 => simp [Band.ofCode]
  | 2 => simp [Band.ofCode]
  | c + 3 => simp [Band.ofCode]

theorem band_free_iff {s : State} {z seg c : Nat} {band : Band} (hb : Band.ofCode c = some band) :
    (!s.bandTaken z seg band) = true
      ↔ ∀ y x, s.zone y = some x → y ≠ z → ¬ (x.cfg.segment = seg ∧ x.cfg.band.code = c) := by
  have hcode := band_ofCode_eq_some.mp hb
  simp only [State.bandTaken, Bool.not_eq_true', List.any_eq_false, State.mem_zonesWhere, Bool.and_eq_true, decide_eq_true_eq,
    bne_iff_ne, ne_eq, not_not]
  constructor
  · rintro h y x hx hy ⟨hseg, hband⟩
    exact hy (h y ⟨x, hx, hseg, band_code_inj (hband.trans hcode.symm)⟩)
  · rintro h y ⟨x, hx, hseg, hband⟩
    by_contra hy
    exact h y x hx hy ⟨hseg, hband ▸ hcode⟩

theorem drives_iff {g : Gear} {z : Nat} : g.drives z = true ↔ g.cfg.role = .driver z := by
  unfold Gear.drives
  cases g.cfg.role <;> simp [eq_comm]

theorem drivers_free_iff {s : State} {z : Nat} :
    (s.gearWhere (Gear.drives z)).isEmpty = true ↔ ∀ i g, s.gearAt i = some g → g.cfg.role ≠ .driver z := by
  simp only [List.isEmpty_iff, List.eq_nil_iff_forall_not_mem, State.mem_gearWhere, drives_iff, not_exists, not_and, ne_eq]

/-! ### The checks on segments, gear and curves (R14, R16, R19) -/

theorem requestedSegment_eq (r : DefineSegment) : requestedSegment r = segmentGiven r := by
  have hw : namedSensor r.windowSensor = refGiven none r.windowSensor := by cases h : r.windowSensor <;> simp [namedSensor, refGiven, refOf]
  simp only [requestedSegment, segmentGiven, hw, SegmentDef.factory]

theorem segment_inRange_iff {d : SegmentDef} : SegmentInRange d ↔ d.inRange = true := by
  simp only [SegmentDef.inRange, Bool.and_eq_true, option_all_iff, between_iff, decide_eq_true_eq]
  constructor
  · rintro ⟨hw, ht, hd, hp, hv⟩
    refine ⟨⟨⟨⟨⟨⟨⟨⟨⟨hw, ?_⟩, ?_⟩, ?_⟩, ?_⟩, ?_⟩, ?_⟩, ?_⟩, ?_⟩, ?_⟩ <;> omega
  · rintro ⟨⟨⟨⟨⟨⟨⟨⟨⟨hw, hg⟩, hr⟩, hgd⟩, hrd⟩, hgp⟩, hop⟩, hs⟩, ht⟩, hl⟩
    exact ⟨hw, by omega, by omega, by omega, by omega⟩

theorem role_ofCode_eq {kind owner : Nat} (h : kind ≤ 1) : GearRole.ofCode kind owner = some (roleGiven kind owner) := by
  match kind with
  | 0 => rfl
  | 1 => rfl
  | k + 2 => omega

theorem role_ofCode_none {kind owner : Nat} (h : ¬ kind ≤ 1) : GearRole.ofCode kind owner = none := by
  match kind with
  | 0 => omega
  | 1 => omega
  | k + 2 => rfl

theorem requestedGear_eq {r : DefineGear} (h : r.kind ≤ 1) : requestedGear r = some (gearGiven r (roleGiven r.kind r.owner)) := by
  rw [requestedGear, role_ofCode_eq h]; rfl

theorem requestedGear_none {r : DefineGear} (h : ¬ r.kind ≤ 1) : requestedGear r = none := by
  rw [requestedGear, role_ofCode_none h]; rfl

theorem forall_mem_le_iff_getD {o : Option Nat} {d : Nat} {p : Nat → Prop} (hd : p d) : (∀ v ∈ o, p v) ↔ p (o.getD d) := by
  cases o <;> simp [hd]

theorem roleGiven_inRange {kind owner : Nat} :
    (roleGiven kind owner).inRange = true ↔ owner < if kind = 0 then 48 else 16 := by
  by_cases h : kind = 0
  · simp only [roleGiven, h, if_true, GearRole.inRange, decide_eq_true_eq]; rfl
  · simp only [roleGiven, h, if_false, GearRole.inRange, decide_eq_true_eq]; rfl

theorem gear_inRange_iff {r : DefineGear} (h : r.kind ≤ 1) : GearFieldsInRange r ↔
    r.index < 192 ∧ (gearGiven r (roleGiven r.kind r.owner)).inRange = true := by
  simp only [GearDef.inRange, Bool.and_eq_true, decide_eq_true_eq, between_iff]
  simp only [gearGiven, roleGiven_inRange]
  have curve := forall_mem_le_iff_getD (o := r.curve) (d := 0) (p := (· < 4)) (by decide)
  have trim := forall_mem_le_iff_getD (o := r.trim) (d := 256) (p := fun v => 128 ≤ v ∧ v ≤ 256) (by decide)
  have low := forall_mem_le_iff_getD (o := r.minValue) (d := 1) (p := fun v => 1 ≤ v ∧ v ≤ 254) (by decide)
  have loss := forall_mem_le_iff_getD (o := r.lossLevel) (d := 254) (p := (· ≤ 254)) (by decide)
  constructor
  · rintro ⟨hi, hl, ha, -, ho, hc, ht, hm, hv⟩
    refine ⟨hi, ⟨⟨⟨⟨⟨⟨hl, Nat.zero_le _, ha⟩, ho⟩, Nat.zero_le _, ?_⟩, trim.mp ht⟩, low.mp hm⟩, Nat.zero_le _, loss.mp hv⟩⟩
    exact Nat.le_of_lt_succ (curve.mp hc)
  · rintro ⟨hi, ⟨⟨⟨⟨⟨⟨hl, -, ha⟩, ho⟩, -, hc⟩, ht⟩, hm⟩, -, hv⟩⟩
    exact ⟨hi, hl, ha, h, ho, curve.mpr (Nat.lt_succ_of_le hc), trim.mpr ht, low.mpr hm, loss.mpr hv⟩

theorem gearZoneDefined_iff {s : State} {r : DefineGear} : s.gearZoneDefined (gearGiven r (roleGiven r.kind r.owner)) = true ↔
    (r.kind = 0 → (s.zone r.owner).isSome = true) := by
  by_cases h : r.kind = 0 <;> simp [State.gearZoneDefined, gearGiven, roleGiven, h]

theorem gear_address_free_iff {s : State} {i : Nat} {d : GearDef} : (!s.gearAddressTaken i d) = true ↔
    ∀ j g, s.gearAt j = some g → j ≠ i → ¬ (g.cfg.line = d.line ∧ g.cfg.address = d.address) := by
  simp only [State.gearAddressTaken, Bool.not_eq_true', List.any_eq_false, State.mem_gearWhere, Bool.and_eq_true,
    decide_eq_true_eq, bne_iff_ne, ne_eq, not_not]
  constructor
  · rintro h j g hg hj hd
    exact hj (h j ⟨g, hg, hd⟩)
  · rintro h j ⟨g, hg, hd⟩
    by_contra hj
    exact h j g hg hj hd

theorem inGroup_iff {g : Gear} {seg : Nat} : g.inGroup seg = true ↔ g.cfg.role = .shade seg := by
  rw [Gear.inGroup, decide_eq_true_eq]

theorem groupGear_beside_eq (s : State) (i seg : Nat) :
    ((s.groupGear seg).filter fun j => j != i) = shadesBeside s i seg := by
  rw [State.groupGear, State.gearWhere, indicesWhere, List.filter_filter, shadesBeside]
  simp only [bne, beq_eq_decide, decide_not]
  rfl

theorem shadeRoom_iff {s : State} {i : Nat} {r : DefineGear} (h : r.kind ≤ 1) :
    s.shadeRoom i (gearGiven r (roleGiven r.kind r.owner)) = true ↔ (r.kind = 1 → (shadesBeside s i r.owner).length < 4) := by
  obtain h0 | h1 : r.kind = 0 ∨ r.kind = 1 := by omega
  · simp [State.shadeRoom, gearGiven, roleGiven, h0]
  · simp only [State.shadeRoom, gearGiven, roleGiven, h1, groupGear_beside_eq]
    simp only [Nat.one_ne_zero, if_false, decide_eq_true_eq, true_imp_iff]
    rfl

theorem curveOk_iff {points : List Nat} : curveOk points = true ↔ (∀ p ∈ points, p ≤ 254) ∧ points.Pairwise (· ≤ ·) := by
  simp [curveOk, between]

theorem contrib_iff {r : WriteContrib} :
    (decide (r.entries.length ≤ Config.maxContrib)
        && r.entries.all (fun e => decide (e.1 < Config.nZones) && between 1 4095 e.2)
        && distinct (r.entries.map Prod.fst) && optBetween 0 255 r.darkOffset) = true
      ↔ r.entries.length ≤ 8 ∧ (∀ e ∈ r.entries, e.1 < 48 ∧ 1 ≤ e.2 ∧ e.2 ≤ 4095) ∧ (r.entries.map Prod.fst).Nodup
        ∧ GivenIn 0 255 r.darkOffset := by
  simp only [Bool.and_eq_true, decide_eq_true_eq, List.all_eq_true, between_iff, distinct, optBetween_iff, and_assoc]
  rfl

/-! ### The floor model's requests -/

theorem checks_defineSensor (s : State) (r : DefineSensor) : ChecksInOrder .defineSensor (.defineSensor · r) s
    [(Quiet s, .conflict), (r.index < 64, .outOfRange), (r.kind ≤ 1, .outOfRange),
      (r.line < 2 ∧ 0x08 ≤ r.address ∧ r.address ≤ 0x77 ∧ ¬ (r.line = 0 ∧ r.address = 0x5A), .outOfRange),
      (GivenIn 0 1 r.enabled ∧ GivenIn 64 1023 r.scale, .outOfRange),
      ((∀ j x, j ≠ r.index → s.sensor j = some x → ¬ (x.line = r.line ∧ x.address = r.address))
        ∧ (r.kind = 1 → ∀ z, ¬ Names s r.index z)
        ∧ (r.kind = 0 → ∀ g ∈ s.segments, g.cfg.windowSensor ≠ some r.index), .inUse),
      ((sensorsBeside s r.index r.line).length < 32, .tableFull)] := by
  cases hk : SensorKind.ofCode r.kind with
  | none =>
    have hf : serveDefineSensor r s = checked [(s.quiet, .conflict), (false, .outOfRange)] s (refused .outOfRange s) := by
      simp only [serveDefineSensor, requestedSensor, hk, Option.map_none]
      exact checked_refused ..
    refine checksInOrder_of_served (fun _ => rfl) hf (.cons quiet_iff (.split (.consOf ?_ ?_)))
    · simp [sensorKind_ofCode_none.mp hk]
    · exact fun h => absurd h.2 (sensorKind_ofCode_none.mp hk)
  | some kind =>
    have known : r.kind ≤ 1 := by
      by_contra h
      rw [sensorKind_ofCode_none.mpr h] at hk
      exact absurd hk (by simp)
    refine checksInOrder_of_served (fun _ => rfl) (by simp only [serveDefineSensor, requestedSensor, hk, Option.map_some]; rfl)
      (.cons quiet_iff (.split (.cons ?_ (.split (.cons ?_ (.cons ?_ (.cons ?_ (.nil _))))))))
    · simp only [known, and_true]; exact decide_eq_true_iff.symm
    · simp only [Bool.and_eq_true, decide_eq_true_eq, sensorAddressOk_iff, sensorFieldsOk_iff]
    · rw [Bool.and_eq_true, address_free_iff]
      exact and_congr Iff.rfl (kindFree_iff hk).symm
    · rw [othersOnLine_eq]; exact decide_eq_true_iff.symm

theorem checks_setSensor (s : State) (r : SetSensor) : ChecksInOrder .setSensor (.setSensor · r) s
    [(Quiet s, .conflict), (r.index < 64, .outOfRange), ((s.sensor r.index).isSome = true, .noSuch),
      (GivenIn 0 1 r.enabled ∧ GivenIn 64 1023 r.scale, .outOfRange)] :=
  checksInOrder_of_served (fun _ => rfl) rfl
    (.cons quiet_iff (.cons decide_eq_true_iff.symm (.cons Iff.rfl (.cons sensorFieldsOk_iff.symm (.nil _)))))

theorem checks_deleteSensor (s : State) (i : Nat) : ChecksInOrder .deleteSensor (.deleteSensor · i) s
    [(Quiet s, .conflict), (i < 64, .outOfRange), ((s.sensor i).isSome = true, .noSuch),
      ((∀ z, ¬ Names s i z) ∧ ∀ g ∈ s.segments, g.cfg.windowSensor ≠ some i, .inUse)] :=
  checksInOrder_of_served (fun _ => rfl) rfl
    (.cons quiet_iff (.cons decide_eq_true_iff.symm (.cons Iff.rfl (.cons (by
      rw [Bool.and_eq_true, names_free_iff, windows_free_iff]) (.nil _)))))

theorem checks_defineZone (s : State) (r : DefineZone) : ChecksInOrder .defineZone (.defineZone · r) s
    ([(Quiet s, .conflict), (r.index < 48, .outOfRange),
        (r.segment < 16 ∧ r.band ≤ 2 ∧ ZoneFieldsInRange r.fields, .outOfRange)] ++ controlNamed s r.fields.controlSensor
      ++ [(∀ y x, s.zone y = some x → y ≠ r.index → ¬ (x.cfg.segment = r.segment ∧ x.cfg.band.code = r.band), .inUse),
        (GroupsFree s r.index r.fields, .conflict)]) := by
  rw [List.append_assoc]
  cases hb : Band.ofCode r.band with
  | none =>
    have hf : serveDefineZone r s = checked [(s.quiet, .conflict), (false, .outOfRange)] s (refused .outOfRange s) := by
      simp only [serveDefineZone, hb]
      exact checked_refused ..
    refine checksInOrder_of_served (fun _ => rfl) hf (.cons quiet_iff (.split (.consOf ?_ ?_)))
    · simp [band_ofCode_none.mp hb]
    · exact fun h => absurd h.2.2.1 (band_ofCode_none.mp hb)
  | some band =>
    have known : r.band ≤ 2 := by
      by_contra h
      rw [band_ofCode_none.mpr h] at hb
      exact absurd hb (by simp)
    refine checksInOrder_of_served (fun _ => rfl)
      (by simp only [serveDefineZone, hb, List.cons_append, List.nil_append]; rfl)
      (.cons quiet_iff (.cons decide_eq_true_iff.symm (.cons ?_ (mirrors_controlChecks
        (.cons (band_free_iff hb).symm (.cons groupsFree_iff (.nil _)))))))
    simp only [known, true_and, Bool.and_eq_true, zoneFieldsOk_iff, decide_eq_true_eq]; rfl

theorem checks_setZone (s : State) (r : SetZone) : ChecksInOrder .setZone (.setZone · r) s
    ([(Quiet s, .conflict), (r.index < 48, .outOfRange), ((s.zone r.index).isSome = true, .noSuch),
        (ZoneFieldsInRange r.fields, .outOfRange)] ++ controlNamed s r.fields.controlSensor
      ++ [(GroupsFree s r.index r.fields, .conflict)]) := by
  rw [List.append_assoc]
  exact checksInOrder_of_served (fun _ => rfl) (by simp only [serveSetZone, List.cons_append, List.nil_append]; rfl)
    (.cons quiet_iff (.cons decide_eq_true_iff.symm (.cons Iff.rfl (.cons zoneFieldsOk_iff.symm (mirrors_controlChecks
      (.cons groupsFree_iff (.nil _)))))))

theorem checks_deleteZone (s : State) (z : Nat) : ChecksInOrder .deleteZone (.deleteZone · z) s
    [(Quiet s, .conflict), (z < 48, .outOfRange), ((s.zone z).isSome = true, .noSuch),
      (∀ i g, s.gearAt i = some g → g.cfg.role ≠ .driver z, .inUse)] :=
  checksInOrder_of_served (fun _ => rfl) rfl
    (.cons quiet_iff (.cons decide_eq_true_iff.symm (.cons Iff.rfl (.cons drivers_free_iff.symm (.nil _)))))

theorem checks_defineSegment (s : State) (r : DefineSegment) : ChecksInOrder .defineSegment (.defineSegment · r) s
    [(Quiet s, .conflict), (r.index < 16, .outOfRange), (SegmentInRange (segmentGiven r), .outOfRange),
      (∀ i ∈ (segmentGiven r).windowSensor, (s.sensor i).isSome = true, .noSuch),
      (∀ i ∈ (segmentGiven r).windowSensor, ∀ c, s.sensor i = some c → c.kind = .window, .outOfRange)] := by
  rw [← requestedSegment_eq]
  refine checksInOrder_of_served (fun _ => rfl) rfl
    (.cons quiet_iff (.cons decide_eq_true_iff.symm (.cons segment_inRange_iff (.cons option_all_iff.symm (.cons ?_ (.nil _))))))
  simp only [option_all_iff, decide_eq_true_eq]
  rfl

theorem checks_defineGear (s : State) (r : DefineGear) : ChecksInOrder .defineGear (.defineGear · r) s
    [(Quiet s, .conflict), (GearFieldsInRange r, .outOfRange), (r.kind = 0 → (s.zone r.owner).isSome = true, .noSuch),
      (∀ j g, s.gearAt j = some g → j ≠ r.index → ¬ (g.cfg.line = r.line ∧ g.cfg.address = r.address), .inUse),
      (r.kind = 1 → (shadesBeside s r.index r.owner).length < 4, .tableFull)] := by
  by_cases known : r.kind ≤ 1
  · refine checksInOrder_of_served (fun _ => rfl) (by simp only [serveDefineGear, requestedGear_eq known]; rfl)
      (.cons quiet_iff (.join (.cons ?_ (.cons gearZoneDefined_iff.symm (.cons (gear_address_free_iff (d := gearGiven r _)).symm
        (.cons (shadeRoom_iff known).symm (.nil _)))))))
    rw [gear_inRange_iff known, Bool.and_eq_true, decide_eq_true_iff]
    rfl
  · have hf : serveDefineGear r s = checked [(s.quiet, .conflict), (false, .outOfRange)] s (refused .outOfRange s) := by
      simp only [serveDefineGear, requestedGear_none known]
      exact checked_refused ..
    have hrange : ¬ GearFieldsInRange r := fun h => known h.kind
    exact checksInOrder_of_served (fun _ => rfl) hf (.cons quiet_iff (.consOf (by simp [hrange]) fun h => absurd h hrange))

theorem checks_deleteGear (s : State) (i : Nat) : ChecksInOrder .deleteGear (.deleteGear · i) s
    [(Quiet s, .conflict), (i < 192, .outOfRange), ((s.gearAt i).isSome = true, .noSuch)] :=
  checksInOrder_of_served (fun _ => rfl) rfl (.cons quiet_iff (.cons decide_eq_true_iff.symm (.cons Iff.rfl (.nil _))))

theorem checks_defineCurve (s : State) (c : Nat) (points : List Nat) (h : points.length = 9) :
    ChecksInOrder .defineCurve (.defineCurve · c points) s
      [(Quiet s, .conflict), (c < 4, .outOfRange), ((∀ p ∈ points, p ≤ 254) ∧ points.Pairwise (· ≤ ·), .outOfRange)] :=
  checksInOrder_of_served (fun _ => by simp only [exec, execDefineCurve, if_pos h]) (f := serveDefineCurve c points) rfl
    (.cons quiet_iff (.cons decide_eq_true_iff.symm (.cons curveOk_iff.symm (.nil _))))

theorem checks_writeContrib (s : State) (r : WriteContrib) : ChecksInOrder .writeContrib (.writeContrib · r) s
    [(Quiet s, .conflict), (r.index < 64, .outOfRange), ((s.sensor r.index).isSome = true, .noSuch),
      (r.entries.length ≤ 8 ∧ (∀ e ∈ r.entries, e.1 < 48 ∧ 1 ≤ e.2 ∧ e.2 ≤ 4095) ∧ (r.entries.map Prod.fst).Nodup
        ∧ GivenIn 0 255 r.darkOffset, .outOfRange),
      (∀ e ∈ r.entries, (s.zone e.1).isSome = true, .noSuch)] :=
  checksInOrder_of_served (fun _ => rfl) rfl (.cons quiet_iff (.cons decide_eq_true_iff.symm (.cons Iff.rfl (.cons contrib_iff.symm
    (.cons List.all_eq_true.symm (.nil _))))))

/-- Settles O27. -/
theorem theFloorModelsRequestsAreCheckedInOrder : Obligations.TheFloorModelsRequestsAreCheckedInOrder := by
  intro s
  refine ⟨checks_defineSensor s, checks_setSensor s, checks_deleteSensor s, checks_defineZone s, checks_setZone s,
    checks_deleteZone s, checks_defineSegment s, checks_defineGear s, checks_deleteGear s, checks_defineCurve s,
    fun tag c points h => ?badLength, fun i => ?reads, checks_writeContrib s⟩
  case badLength =>
    simp only [exec, execDefineCurve, if_neg h, reply_refused]
  case reads =>
    have entry {n : Nat} {p : Prop} {b : Bool} (h : p ↔ b = true) :
        Mirrors [(i < n, .outOfRange), (p, .noSuch)] [(decide (i < n), .outOfRange), (b, .noSuch)] :=
      .cons decide_eq_true_iff.symm (.cons h (.nil _))
    have index (n : Nat) : Mirrors [(i < n, .outOfRange)] [(decide (i < n), .outOfRange)] :=
      .cons decide_eq_true_iff.symm (.nil _)
    exact ⟨checksInOrder_of_served (fun _ => rfl) rfl (entry Iff.rfl), checksInOrder_of_served (fun _ => rfl) rfl (entry Iff.rfl),
      checksInOrder_of_served (fun _ => rfl) rfl (index 16), checksInOrder_of_served (fun _ => rfl) rfl (entry Iff.rfl),
      checksInOrder_of_served (fun _ => rfl) rfl (index 4)⟩

end Sys2Proof.Machine
end

section
/-! PROOFS. The checks of the other blocks' requests (chapters 2 to 11). -/

namespace Sys2Proof.Machine

open Sys2Proof.Safety

/-! ### Single checks -/

theorem not_flag_iff {b : Bool} : b = false ↔ (!b) = true := by simp

theorem speed_ofCode_iff {o : Option Nat} : (o.all fun v => (Speed.ofCode v).isSome) = true ↔ GivenIn 0 1 o := by
  rw [← optFlag_iff, optFlag, option_all_iff, option_all_iff]
  have same (v : Nat) : (Speed.ofCode v).isSome = (flagOf v).isSome := by
    match v with
    | 0 => rfl
    | 1 => rfl
    | v + 2 => rfl
  simp only [same]

/-- A defined entry of a table that a property holds of has an index, and the other way round. -/
theorem any_entry_iff {α : Type} {l : List (Option α)} {p : α → Bool} :
    (l.any fun o => o.any p) = true ↔ ∃ i x, entryAt l i = some x ∧ p x = true := by
  rw [List.any_eq_true]
  constructor
  · rintro ⟨o, ho, hp⟩
    obtain ⟨x, rfl, hp⟩ := Option.any_eq_true _ _ |>.mp hp
    obtain ⟨i, hi⟩ := List.mem_iff_getElem?.mp ho
    exact ⟨i, x, by simp [entryAt, hi], hp⟩
  · rintro ⟨i, x, hx, hp⟩
    exact ⟨some x, mem_of_entryAt hx, by simpa using hp⟩

theorem lineServes_iff {s : State} {zones : List Nat} {l : Nat} : s.lineServes zones l = true ↔
    ∃ i g z, s.gearAt i = some g ∧ g.cfg.line = l ∧ g.cfg.role = .driver z ∧ z ∈ zones := by
  rw [State.lineServes, any_entry_iff]
  constructor
  · rintro ⟨i, g, hg, hp⟩
    rw [Bool.and_eq_true, decide_eq_true_eq, Option.any_eq_true] at hp
    obtain ⟨hl, z, hz, hin⟩ := hp
    refine ⟨i, g, z, hg, hl, ?_, by simpa using hin⟩
    unfold Gear.zone? at hz
    split at hz
    · next hrole => rw [hrole, Option.some.inj hz]
    · cases hz
  · rintro ⟨i, g, z, hg, hl, hrole, hin⟩
    exact ⟨i, g, hg, by simp [Gear.zone?, hrole, hl, hin]⟩

/-! ### START_CALIBRATION (R92) -/

theorem length_le_of_nodup_below {l : List Nat} {n : Nat} (hn : l.Nodup) (h : ∀ z ∈ l, z < n) : l.length ≤ n := by
  have hsub : l ⊆ List.range n := fun z hz => List.mem_range.mpr (h z hz)
  simpa using (hn.subperm hsub).length_le

theorem startInRange_iff {r : StartCalibration} :
    startInRange r = true ↔ 1 ≤ r.parts ∧ r.parts ≤ 3 ∧ r.zones ≠ [] ∧ r.zones.Nodup ∧ (∀ z ∈ r.zones, z < 48)
      ∧ GivenIn 5 120 r.settle ∧ GivenIn 1 100 r.gainFloor ∧ GivenIn 1 100 r.driftLimit := by
  simp only [startInRange, Bool.and_eq_true, between_iff, List.all_eq_true, decide_eq_true_eq, distinct, optBetween_iff]
  constructor
  · rintro ⟨⟨⟨⟨⟨⟨⟨hp, hp'⟩, hlen, -⟩, hz⟩, hd⟩, hs⟩, hg⟩, hl⟩
    exact ⟨hp, hp', List.length_pos_iff.mp hlen, hd, hz, hs, hg, hl⟩
  · rintro ⟨hp, hp', hlen, hd, hz, hs, hg, hl⟩
    exact ⟨⟨⟨⟨⟨⟨⟨hp, hp'⟩, List.length_pos_iff.mpr hlen, length_le_of_nodup_below hd hz⟩, hz⟩, hd⟩, hs⟩, hg⟩, hl⟩

theorem zones_enabled_iff {s : State} {zones : List Nat} (hd : ∀ z ∈ zones, (s.zone z).isSome = true) :
    (zones.all fun z => (s.zone z).any fun x => x.cfg.enabled) = true
      ↔ ∀ z ∈ zones, ∀ x, s.zone z = some x → x.cfg.enabled = true := by
  simp only [List.all_eq_true, Option.any_eq_true]
  constructor
  · intro h z hz x hx
    obtain ⟨y, hy, hen⟩ := h z hz
    exact Option.some.inj (hx.symm.trans hy) ▸ hen
  · intro h z hz
    obtain ⟨x, hx⟩ := Option.isSome_iff_exists.mp (hd z hz)
    exact ⟨x, hx, h z hz x hx⟩

theorem dark_covers_iff {s : State} {r : StartCalibration} (h1 : 1 ≤ r.parts) (h3 : r.parts ≤ 3) :
    (!Nat.testBit r.parts 0 || (s.zonesWhere fun x => x.cfg.enabled).all r.zones.contains) = true
      ↔ (r.parts ≠ 2 → ∀ z x, s.zone z = some x → x.cfg.enabled = true → z ∈ r.zones) := by
  have dark : Nat.testBit r.parts 0 = true ↔ r.parts ≠ 2 := by
    obtain h | h | h : r.parts = 1 ∨ r.parts = 2 ∨ r.parts = 3 := by omega
    all_goals rw [h]; decide
  rw [Bool.or_eq_true, Bool.not_eq_true', ← Bool.not_eq_true, dark, ← imp_iff_not_or]
  refine imp_congr Iff.rfl ?_
  simp only [List.all_eq_true, State.mem_zonesWhere, List.contains_iff_mem]
  exact ⟨fun h z x hx hen => h z ⟨x, hx, hen⟩, fun h z ⟨x, hx, hen⟩ => h z x hx hen⟩

theorem no_override_iff {s : State} :
    ((s.zonesWhere fun x => x.cfg.enabled && decide (x.state = .override)).isEmpty) = true
      ↔ ∀ z x, s.zone z = some x → x.cfg.enabled = true → x.state ≠ .override := by
  simp only [List.isEmpty_iff, List.eq_nil_iff_forall_not_mem, State.mem_zonesWhere, Bool.and_eq_true, decide_eq_true_eq,
    not_exists, not_and, ne_eq]

theorem lines_up_iff {s : State} {zones : List Nat} :
    ((List.range Config.nGearLines).all fun l => (s.gearLine l).isUp || !s.lineServes zones l) = true
      ↔ ∀ i g z, s.gearAt i = some g → g.cfg.role = .driver z → z ∈ zones → g.cfg.line < 4 →
        (s.gearLine g.cfg.line).state = .up := by
  have up (l : Nat) : (s.gearLine l).isUp = true ↔ (s.gearLine l).state = .up := by rw [GearLine.isUp, decide_eq_true_eq]
  simp only [List.all_eq_true, List.mem_range, Bool.or_eq_true, up]
  constructor
  · intro h i g z hg hrole hz hl
    refine (h g.cfg.line hl).resolve_right ?_
    rw [Bool.not_eq_true', Bool.not_eq_false]
    exact lineServes_iff.mpr ⟨i, g, z, hg, rfl, hrole, hz⟩
  · intro h l hl
    by_cases serves : s.lineServes zones l = true
    · obtain ⟨i, g, z, hg, rfl, hrole, hz⟩ := lineServes_iff.mp serves
      exact .inl (h i g z hg hrole hz hl)
    · exact .inr (by simpa using serves)

theorem checks_startCalibration (s : State) (r : StartCalibration) : ChecksInOrder .startCalibration (.startCalibration · r) s
    [(Quiet s, .conflict),
      (1 ≤ r.parts ∧ r.parts ≤ 3 ∧ r.zones ≠ [] ∧ r.zones.Nodup ∧ (∀ z ∈ r.zones, z < 48) ∧ GivenIn 5 120 r.settle
        ∧ GivenIn 1 100 r.gainFloor ∧ GivenIn 1 100 r.driftLimit, .outOfRange),
      (∀ z ∈ r.zones, (s.zone z).isSome = true, .noSuch),
      (∀ z ∈ r.zones, ∀ x, s.zone z = some x → x.cfg.enabled = true, .conflict),
      (r.parts ≠ 2 → ∀ z x, s.zone z = some x → x.cfg.enabled = true → z ∈ r.zones, .conflict),
      (∀ z x, s.zone z = some x → x.cfg.enabled = true → x.state ≠ .override, .conflict),
      (∀ g ∈ s.segments, g.state ≠ .moving ∧ g.state ≠ .settling, .conflict),
      (∀ i g z, s.gearAt i = some g → g.cfg.role = .driver z → z ∈ r.zones → g.cfg.line < 4 →
        (s.gearLine g.cfg.line).state = .up, .conflict)] := by
  refine checksInOrder_of_served (fun _ => rfl) (f := serveStartCalibration r) rfl
    (.cons quiet_iff (.consOf startInRange_iff.symm fun hrange => .consOf List.all_eq_true.symm fun hd =>
      .cons (zones_enabled_iff hd).symm (.cons (dark_covers_iff hrange.1 hrange.2.1).symm (.cons no_override_iff.symm
        (.cons ?_ (.cons lines_up_iff.symm (.nil _)))))))
  simp only [List.all_eq_true, Bool.and_eq_true, decide_eq_true_eq]

/-! ### Periods and the clock (R157, R161) -/

theorem setClockInRange_iff {r : SetClock} : setClockInRange r = true ↔
    2000 ≤ r.year ∧ r.year ≤ 2099 ∧ 1 ≤ r.month ∧ r.month ≤ 12 ∧ 1 ≤ r.day ∧ r.day ≤ daysInMonth r.year r.month
      ∧ r.hour ≤ 23 ∧ r.minute ≤ 59 ∧ r.second ≤ 59 := by
  simp only [setClockInRange, Bool.and_eq_true, between_iff, Nat.zero_le, true_and, and_assoc]

theorem periodInRange_iff {r : DefinePeriod} : (decide (r.index < Config.nPeriods) && periodInRange r) = true ↔
    r.index < 32 ∧ r.profile < 4 ∧ 1 ≤ r.days ∧ r.days ≤ 127 ∧ r.startMin % 5 = 0 ∧ r.endMin % 5 = 0
      ∧ r.startMin < r.endMin ∧ r.endMin ≤ 1440 := by
  simp only [periodInRange, Bool.and_eq_true, decide_eq_true_eq, between_iff]
  have hi : r.index < Config.nPeriods ↔ r.index < 32 := Iff.rfl
  have hp : r.profile < Config.nProfiles ↔ r.profile < 4 := Iff.rfl
  omega

theorem overlaps_iff {p q : Period} : p.overlaps q = true ↔
    p.profile = q.profile ∧ p.days &&& q.days ≠ 0 ∧ p.startMin < q.endMin ∧ q.startMin < p.endMin := by
  simp only [Period.overlaps, Bool.and_eq_true, decide_eq_true_eq, and_assoc]

theorem period_lt {s : State} {j : Nat} {q : Period} (h : s.period j = some q) : j < s.periods.length := entryAt_lt h

theorem periodFits_iff {s : State} {r : DefinePeriod} : s.periodFits r.index (requestedPeriod r) = true ↔
    ∀ j q, s.period j = some q → j ≠ r.index → q.profile = r.profile → BitVec.ofNat 7 r.days &&& q.days ≠ 0 →
      q.endMin ≤ r.startMin ∨ r.endMin ≤ q.startMin := by
  have fits (q : Period) : (!q.overlaps (requestedPeriod r)) = true ↔ (q.profile = r.profile →
      BitVec.ofNat 7 r.days &&& q.days ≠ 0 → q.endMin ≤ r.startMin ∨ r.endMin ≤ q.startMin) := by
    rw [Bool.not_eq_true', ← Bool.not_eq_true, overlaps_iff, BitVec.and_comm]
    simp only [requestedPeriod, not_and]
    refine imp_congr Iff.rfl (imp_congr Iff.rfl ?_)
    omega
  simp only [State.periodFits, List.all_eq_true, List.mem_range, Bool.or_eq_true, beq_iff_eq, option_all_iff, fits]
  constructor
  · intro h j q hq hj
    exact (h j (period_lt hq)).resolve_left hj q hq
  · intro h j _
    by_cases hj : j = r.index
    · exact .inl hj
    · exact .inr fun q hq => h j q hq hj

/-! ### Requests of the port by their bytes (R114, R149) -/

theorem serveRequest_of_service {k : Kind} {payload : List Byte} {f : State → Served} {s : State}
    (hk : Kind.ofCode k.code = some k) (hf : serviceOf k payload = some f) (ha : k.always = false) (hr : s.running = true) :
    serveRequest k.code payload s = f s := by
  simp only [serveRequest, hk, hf, ha, whenRunning_of_running hr]
  rfl

theorem lineAction_unknown {c : Nat} (h : 4 ≤ c) : LineAction.ofCode c = none := by
  obtain ⟨n, rfl⟩ := Nat.exists_eq_add_of_le' h
  rfl

theorem shadeAction_unknown {c : Nat} (h : 3 ≤ c) : ShadeAction.ofCode c = none := by
  obtain ⟨n, rfl⟩ := Nat.exists_eq_add_of_le' h
  rfl

theorem lineControl_unknown_action {s : State} (line action : Byte) (hr : s.running = true) (ha : 4 ≤ action.toNat) :
    (serveRequest Kind.lineControl.code [line, action] s).result = .outOfRange := by
  rw [serveRequest_of_service (k := .lineControl) rfl rfl rfl hr]
  simp only [lineAction_unknown ha]
  rfl

theorem shadeCommand_unknown_action {s : State} (seg action position high low : Byte) (hr : s.running = true)
    (ha : 3 ≤ action.toNat) : (serveRequest Kind.shadeCommand.code [seg, action, position, high, low] s).result
      = if s.sweeping then .conflict else .outOfRange := by
  rw [serveRequest_of_service (k := .shadeCommand) rfl rfl rfl hr]
  simp only [shadeAction_unknown ha, serveShadeCommand]
  cases hs : s.sweeping
  · simp [checked, firstFailing_cons, refused]
  · rfl

/-! ### The counters' groups (R175) -/

theorem counterGroup_iff {group n most : Nat} : counterGroup group = some (n, most) ↔
    (group = 0 ∧ n = 48 ∧ most = 12 ∨ group = 1 ∧ n = 4 ∧ most = 4 ∨ group = 2 ∧ n = 64 ∧ most = 32
      ∨ group = 3 ∧ n = 16 ∧ most = 16 ∨ group = 4 ∧ n = 1 ∧ most = 1) := by
  match group with
  | 0 => simp [counterGroup, eq_comm]
  | 1 => simp [counterGroup, eq_comm]
  | 2 => simp [counterGroup, eq_comm]
  | 3 => simp [counterGroup, eq_comm]
  | 4 => simp [counterGroup, eq_comm]
  | g + 5 => simp [counterGroup]

theorem checks_readCounters (s : State) (set group first count : Nat) :
    ChecksInOrder .readCounters (.readCounters · set group first count) s
      [(set ≤ 1 ∧ 1 ≤ count ∧ ∃ n most, (group = 0 ∧ n = 48 ∧ most = 12 ∨ group = 1 ∧ n = 4 ∧ most = 4
          ∨ group = 2 ∧ n = 64 ∧ most = 32 ∨ group = 3 ∧ n = 16 ∧ most = 16 ∨ group = 4 ∧ n = 1 ∧ most = 1)
        ∧ count ≤ most ∧ first + count ≤ n, .outOfRange)] := by
  simp only [← counterGroup_iff]
  cases hg : counterGroup group with
  | none =>
    have hf : serveReadCounters set group first count s = checked [(false, .outOfRange)] s (refused .outOfRange s) := by
      simp only [serveReadCounters, hg]
      rfl
    exact checksInOrder_of_served (fun _ => rfl) hf (.cons (by simp) (.nil _))
  | some bounds =>
    obtain ⟨n, most⟩ := bounds
    refine checksInOrder_of_served (fun _ => rfl) (by simp only [serveReadCounters, hg]; rfl)
      (.join (.join (.join (.cons ?_ (.nil _)))))
    simp only [Bool.and_eq_true, between_iff, decide_eq_true_eq, Option.some.injEq, Prod.mk.injEq]
    constructor
    · rintro ⟨hset, hone, _, _, ⟨rfl, rfl⟩, hmost, hn⟩
      exact ⟨⟨⟨⟨Nat.zero_le _, hset⟩, by omega⟩, hone, hmost⟩, hn⟩
    · rintro ⟨⟨⟨⟨-, hset⟩, -⟩, hone, hmost⟩, hn⟩
      exact ⟨hset, hone, n, most, ⟨rfl, rfl⟩, hmost, hn⟩

theorem checks_snapshot (s : State) (n : Nat) : ChecksInOrder .snapshot (.snapshot · n) s [(n ≤ 1, .outOfRange)] := by
  cases hn : flagOf n with
  | none =>
    have hf : serveSnapshot n s = checked [(false, .outOfRange)] s (refused .outOfRange s) := by
      simp only [serveSnapshot, hn]; rfl
    exact checksInOrder_of_served (fun _ => rfl) hf (.cons (by simp [← isSome_flagOf_iff, hn]) (.nil _))
  | some c =>
    have hf : serveSnapshot n s = checked [(true, .outOfRange)] s (accepted (tick32 s.tick ++ flag8 c) (s.takeSnapshot c)) := by
      simp only [serveSnapshot, hn]; rfl
    exact checksInOrder_of_served (fun _ => rfl) hf (.cons (by simp [← isSome_flagOf_iff, hn]) (.nil _))

/-! ### Lines and shades (R114, R149) -/

theorem checks_lineControl {s : State} {l : Nat} {a : LineAction} {c : Byte → Instr}
    (hc : ∀ tag, exec (c tag) s = .next (reply .direct Kind.lineControl.code tag (whenRunning (serveLineControl l a) s))) :
    (a ≠ .hold → ChecksInOrder .lineControl c s [(l < 4, .outOfRange)])
      ∧ (a = .hold → ChecksInOrder .lineControl c s [(l < 4, .outOfRange), ((s.gearLine l).state ≠ .off, .conflict)]) := by
  refine ⟨fun _ => ?_, ?_⟩
  · exact checksInOrder_of_served hc rfl (.cons decide_eq_true_iff.symm (.nil _))
  · rintro rfl
    refine checksInOrder_of_served hc rfl (.cons decide_eq_true_iff.symm (.cons ?_ (.nil _)))
    simp

theorem checks_shadeCommand {s : State} {seg position duration : Nat} {a : ShadeAction} {c : Byte → Instr}
    (hc : ∀ tag, exec (c tag) s
      = .next (reply .direct Kind.shadeCommand.code tag (whenRunning (serveShadeCommand seg (some a) position duration) s))) :
    ChecksInOrder .shadeCommand c s
      [(s.sweeping = false, .conflict), (seg < 16 ∧ position ≤ 100 ∧ duration ≤ 1440, .outOfRange)] := by
  refine checksInOrder_of_served hc rfl (.cons not_flag_iff (.cons ?_ (.nil _)))
  simp only [Bool.and_eq_true, decide_eq_true_eq, Option.isSome_some, and_true, and_assoc]
  rfl

/-- Settles O28. -/
theorem theBlocksRequestsAreCheckedInOrder : Obligations.TheBlocksRequestsAreCheckedInOrder := by
  intro s
  have index {n i : Nat} {ps : List (Prop × Result)} {bs : List (Bool × Result)} (t : Mirrors ps bs) :
      Mirrors ((i < n, .outOfRange) :: ps) ((decide (i < n), .outOfRange) :: bs) := .cons decide_eq_true_iff.symm t
  have unsaved {ps : List (Prop × Result)} {bs : List (Bool × Result)} (t : Mirrors ps bs) :
      Mirrors ((s.saving = false, .conflict) :: ps) ((!s.saving, .conflict) :: bs) := .cons not_flag_iff t
  refine ⟨fun r => ?sensorLine, fun z level duration => ?override, checks_startCalibration s, fun r => ?gearLine,
    fun l => ⟨?enable, ?disable, ?hold, ?release⟩, fun seg position duration => ⟨?goto, ?stop, ?auto⟩,
    fun line action => lineControl_unknown_action line action,
    fun seg action position high low => shadeCommand_unknown_action seg action position high low, fun i => ?indexed,
    fun l first count => ⟨?readLine, ?readSweep, ?readResult, ?readOcc⟩, checks_readCounters s,
    fun n => ⟨?query, checks_snapshot s n⟩, fun r => ?clock, fun p occupied unoccupied => ?profile, fun r => ?period,
    fun i => ?noPeriod, fun i delay => ?occ, ?save, ?defaults, fun w => ?unchecked⟩
  case sensorLine =>
    refine checksInOrder_of_served (fun _ => rfl) rfl (.cons quiet_iff (index (.cons ?_ (.nil _))))
    simp only [Bool.and_eq_true, speed_ofCode_iff, optBetween_iff, and_assoc]
  case override =>
    refine checksInOrder_of_served (fun _ => rfl) rfl (.cons not_flag_iff (index (.cons Iff.rfl (.cons ?_ (.nil _)))))
    simp only [Bool.and_eq_true, decide_eq_true_eq]
  case gearLine =>
    refine checksInOrder_of_served (fun _ => rfl) rfl (.cons quiet_iff (index (.cons ?_ (.nil _))))
    simp only [Bool.and_eq_true, optBetween_iff, and_assoc]
  case enable => exact (checks_lineControl (a := .enable) fun _ => rfl).1 (by decide)
  case disable => exact (checks_lineControl (a := .disable) fun _ => rfl).1 (by decide)
  case hold => exact (checks_lineControl (a := .hold) fun _ => rfl).2 rfl
  case release => exact (checks_lineControl (a := .release) fun _ => rfl).1 (by decide)
  case goto => exact checks_shadeCommand (a := .goto) fun _ => rfl
  case stop => exact checks_shadeCommand (a := .stop) fun _ => rfl
  case auto => exact checks_shadeCommand (a := .auto) fun _ => rfl
  case indexed =>
    exact ⟨checksInOrder_of_served (fun _ => rfl) rfl (index (.nil _)), checksInOrder_of_served (fun _ => rfl) rfl (index (.nil _)),
      checksInOrder_of_served (fun _ => rfl) rfl (index (.nil _)),
      checksInOrder_of_served (fun _ => rfl) rfl (index (.cons Iff.rfl (.nil _))),
      checksInOrder_of_served (fun _ => rfl) rfl (index (.cons Iff.rfl (.nil _))),
      checksInOrder_of_served (fun _ => rfl) rfl (index (.cons Iff.rfl (.nil _))),
      checksInOrder_of_served (fun _ => rfl) rfl (index (.cons Iff.rfl (.nil _))),
      checksInOrder_of_served (fun _ => rfl) rfl (index (.cons Iff.rfl (.nil _))),
      checksInOrder_of_served (fun _ => rfl) rfl (index (.cons Iff.rfl (.nil _))),
      checksInOrder_of_served (fun _ => rfl) rfl (index (.nil _))⟩
  case readLine =>
    refine checksInOrder_of_served (fun _ => rfl) rfl (index (.join (.cons ?_ (.nil _))))
    simp only [Bool.and_eq_true, decide_eq_true_eq, between_iff]
  case readSweep =>
    refine checksInOrder_of_served (fun _ => rfl) rfl (.join (.cons ?_ (.nil _)))
    simp only [Bool.and_eq_true, decide_eq_true_eq, between_iff]
    exact and_comm
  case readResult =>
    exact fun z => checksInOrder_of_served (fun _ => rfl) rfl (index (.nil _))
  case readOcc =>
    refine checksInOrder_of_served (fun _ => rfl) rfl (.join (.cons ?_ (.nil _)))
    simp only [Bool.and_eq_true, decide_eq_true_eq, between_iff, and_assoc]
    rfl
  case query =>
    exact checksInOrder_of_served (fun _ => rfl) rfl (unsaved (.cons between_iff.symm (.nil _)))
  case clock =>
    exact checksInOrder_of_served (fun _ => rfl) rfl (.cons setClockInRange_iff.symm (.nil _))
  case profile =>
    exact checksInOrder_of_served (fun _ => rfl) rfl (unsaved (index (.nil _)))
  case period =>
    exact checksInOrder_of_served (fun _ => rfl) rfl (unsaved (.cons periodInRange_iff.symm (.cons periodFits_iff.symm (.nil _))))
  case noPeriod =>
    exact checksInOrder_of_served (fun _ => rfl) rfl (unsaved (index (.cons Iff.rfl (.nil _))))
  case occ =>
    exact checksInOrder_of_served (fun _ => rfl) rfl (unsaved (index (.cons between_iff.symm (.nil _))))
  case save => exact checksInOrder_of_served (fun _ => rfl) rfl (.cons quiet_iff (.nil _))
  case defaults => exact checksInOrder_of_served (fun _ => rfl) rfl (.cons quiet_iff (.nil _))
  case unchecked =>
    have none {k : Kind} {c : Byte → Instr} {f : State → Served}
        (hc : ∀ tag, exec (c tag) s = .next (reply .direct k.code tag (whenRunning f s))) : ChecksInOrder k c s [] :=
      checksInOrder_of_served (bs := []) hc rfl (.nil _)
    exact ⟨none fun _ => rfl, none fun _ => rfl, none fun _ => rfl, none fun _ => rfl, none fun _ => rfl⟩

end Sys2Proof.Machine
end

section
/-! PROOFS. The reads, and the requests that store parameters or a contribution list. -/

namespace Sys2Proof.Machine

open Sys2Proof.Safety

/-! ### Accepted requests -/

theorem passes_nil : firstFailing [] = none := rfl

theorem passes_cons {b : Bool} {q : Result} {bs : List (Bool × Result)} (h : b = true) (t : firstFailing bs = none) :
    firstFailing ((b, q) :: bs) = none := by
  rw [firstFailing_cons, if_pos h, t]

theorem checked_of_passes {bs : List (Bool × Result)} (h : firstFailing bs = none) (s : State) (carry : Served) :
    checked bs s carry = carry := by
  rw [checked, h]

/-- A request whose checks pass is answered with its fields and its state (R180 to R182). -/
theorem exec_of_passes {k : Kind} {tag : Byte} {c : Instr} {s t : State} {f : State → Served} {bs : List (Bool × Result)}
    {adjusted : Bool} {fields : List Byte} (hr : s.running = true)
    (hexec : exec c s = .next (reply .direct k.code tag (whenRunning f s)))
    (hf : f s = checked bs s (acceptedAs adjusted fields t)) (hb : firstFailing bs = none) :
    exec c s = .next (answered k tag (okOrAdjusted adjusted) fields t) := by
  rw [hexec, whenRunning_of_running hr, hf, checked_of_passes hb, reply_acceptedAs]

/-- A read whose checks pass, and any other request that stores just what it is given. -/
theorem exec_of_passes_ok {k : Kind} {tag : Byte} {c : Instr} {s t : State} {f : State → Served} {bs : List (Bool × Result)}
    {fields : List Byte} (hr : s.running = true) (hexec : exec c s = .next (reply .direct k.code tag (whenRunning f s)))
    (hf : f s = checked bs s (accepted fields t)) (hb : firstFailing bs = none) :
    exec c s = .next (answered k tag .ok fields t) := exec_of_passes (adjusted := false) hr hexec hf hb

theorem sensorReply_of_some {s : State} {i : Nat} {x : Sensor} (h : s.sensor i = some x) (enc : Sensor → List Byte) :
    s.sensorReply i enc = enc x := by rw [State.sensorReply, h]; rfl

theorem zoneReply_of_some {s : State} {z : Nat} {x : Zone} (h : s.zone z = some x) : s.zoneReply z = encZoneDef x.cfg := by
  rw [State.zoneReply, h]; rfl

/-! ### Reads of an entry (R20) -/

/-- A read of an entry of a table: out of range, not defined, or answered. -/
theorem exec_read_entry {α : Type} {k : Kind} {tag : Byte} {c : Instr} {s : State} {f : State → Served} {i n : Nat}
    {o : Option α} {fields : List Byte} {found : State} (hr : s.running = true)
    (hexec : exec c s = .next (reply .direct k.code tag (whenRunning f s)))
    (hf : f s = checked [(decide (i < n), .outOfRange), (o.isSome, .noSuch)] s (accepted fields s))
    (hsome : ∀ x, o = some x → found = answered k tag .ok fields s) (hnone : o = none → found = answered k tag .noSuch [] s) :
    exec c s = .next (if n ≤ i then answered k tag .outOfRange [] s else found) := by
  rw [hexec, whenRunning_of_running hr, hf]
  by_cases hi : n ≤ i
  · rw [if_pos hi, checked, firstFailing_cons, if_neg (by simpa using hi)]
    rfl
  · rw [if_neg hi, checked, firstFailing_cons, if_pos (by simpa using hi), firstFailing_cons]
    cases ho : o with
    | none => rw [hnone ho]; rfl
    | some x => rw [hsome x ho]; rfl

/-- A read of a table without undefined entries. -/
theorem exec_read_index {k : Kind} {tag : Byte} {c : Instr} {s : State} {f : State → Served} {i n : Nat}
    {fields : List Byte} (hr : s.running = true) (hexec : exec c s = .next (reply .direct k.code tag (whenRunning f s)))
    (hf : f s = checked [(decide (i < n), .outOfRange)] s (accepted fields s)) :
    exec c s = .next (if n ≤ i then answered k tag .outOfRange [] s else answered k tag .ok fields s) := by
  rw [hexec, whenRunning_of_running hr, hf]
  by_cases hi : n ≤ i
  · rw [if_pos hi, checked, firstFailing_cons, if_neg (by simpa using hi)]
    rfl
  · rw [if_neg hi, checked, firstFailing_cons, if_pos (by simpa using hi)]
    rfl

/-- Settles O26. -/
theorem definitionReadsAnswerTheStoredFields : Obligations.DefinitionReadsAnswerTheStoredFields := by
  refine ⟨fun tag i s hr => ⟨?sensor, ?zone, ?segment, ?gear, ?curve⟩, fun x => ?sensorDef, fun d => ?zoneDef, fun d => ?segmentDef,
    fun d => ?gearDef, fun points => ?points, rfl, rfl⟩
  case sensor =>
    exact exec_read_entry (f := serveReadSensorDef i) (n := 64) hr rfl rfl
      (fun x hx => by simp only [hx, sensorReply_of_some hx]) (fun hx => by simp only [hx])
  case zone =>
    exact exec_read_entry (f := serveReadZoneDef i) (n := 48) hr rfl rfl
      (fun x hx => by simp only [hx, zoneReply_of_some hx]) (fun hx => by simp only [hx])
  case segment => exact exec_read_index (i := i) (n := 16) hr rfl rfl
  case gear =>
    exact exec_read_entry (f := serveReadGearDef i) (n := 192) hr rfl rfl
      (fun x hx => by simp only [hx, Option.elim_some]) (fun hx => by simp only [hx])
  case curve => exact exec_read_index (i := i) (n := 4) hr rfl rfl
  case sensorDef =>
    simp only [encSensorDef, bytesOf_one, bytesOf_two, bytesOf_nil, flag8_eq, List.append_assoc, List.append_nil]
  case zoneDef =>
    simp only [encZoneDef, opt8, bytesOf_one, bytesOf_two, bytesOf_nil, flag8_eq, List.append_assoc, List.append_nil]
  case segmentDef =>
    simp only [encSegmentDef, opt8, bytesOf_one, bytesOf_two, bytesOf_nil, List.append_assoc, List.append_nil]
  case gearDef =>
    cases hrole : d.role <;>
      simp only [encGearDef, hrole, GearRole.kindCode, GearRole.owner, List.cons_append, List.nil_append, bytesOf_one, bytesOf_two,
        bytesOf_nil, List.append_assoc, List.append_nil]
  case points =>
    rw [encCurve, ← List.flatMap_singleton' (points.map (BitVec.ofNat 8)), List.flatMap_map]
    rfl

/-! ### Bytes of lists and of values that may be absent -/

theorem bytesOf_flatMap {α : Type} (l : List α) (f : α → List (Nat × Nat)) :
    bytesOf (l.flatMap f) = l.flatMap fun x => bytesOf (f x) := List.flatMap_assoc ..

theorem bytesOf_map_one {α : Type} (l : List α) (f : α → Nat) : bytesOf (l.map fun x => (1, f x)) = l.flatMap fun x => u8 (f x) := by
  rw [List.map_eq_flatMap, bytesOf_flatMap]
  simp only [bytesOf_one, bytesOf_nil, List.append_nil]

theorem bytesOf_map_byte (l : List Nat) : bytesOf (l.map fun n => (1, n)) = l.flatMap u8 := bytesOf_map_one l id

theorem bytesOf_map_four {α : Type} (l : List α) (f : α → Nat) :
    bytesOf (l.map fun x => (4, f x)) = l.flatMap fun x => u32 (f x) := by
  rw [List.map_eq_flatMap, bytesOf_flatMap]
  simp only [bytesOf_four, bytesOf_nil, List.append_nil]

theorem bytesOf_maybe_two (o : Option Nat) : bytesOf (maybe 2 o) = encBin o := by
  simp only [maybe, encBin, flag8_eq, bytesOf_one, bytesOf_two, bytesOf_nil, List.append_nil]

theorem bytesOf_maybe_four (o : Option Nat) : bytesOf (maybe 4 o) = u8 o.isSome.toNat ++ u32 (o.getD 0) := by
  simp only [maybe, bytesOf_one, bytesOf_four, bytesOf_nil, List.append_nil]

theorem bytesOf_maybeTick (o : Option Tick) : bytesOf (maybeTick o) = optTick o := by
  rw [maybeTick, bytesOf_maybe_four, optTick, flag8_eq]
  cases o <;> rfl

theorem bytesOf_maybe_int (o : Option Int) : bytesOf (maybe 4 (o.map fun k => (BitVec.ofInt 32 k).toNat)) = optInt o := by
  rw [bytesOf_maybe_four, optInt, flag8_eq]
  cases o <;> rfl

theorem remaining32_eq (now : Tick) (o : Option Tick) : remaining32 now o = u32 (secondsUntil now o) := by
  cases o <;> rfl

/-- Two lists of gear in ascending index of the same property are one. -/
theorem eq_of_gearInOrder {s : State} {p : Gear → Prop} {q : Gear → Bool} {l : List Nat} (h : GearInOrder s p l)
    (hq : ∀ g, q g = true ↔ p g) : l = s.gearWhere q := by
  obtain ⟨hsorted, hmem⟩ := h
  have sorted : (s.gearWhere q).Pairwise (· < ·) := List.pairwise_lt_range.filter _
  refine List.Perm.eq_of_pairwise (fun a b _ _ hab hba => absurd hab (Nat.lt_asymm hba)) hsorted sorted ?_
  refine (List.perm_ext_iff_of_nodup (hsorted.imp Nat.ne_of_lt) (sorted.imp Nat.ne_of_lt)).mpr fun i => ?_
  rw [hmem, State.mem_gearWhere]
  simp only [hq]

/-! ### The layouts of the state reads (R201) -/

theorem length_dirtySet (s : State) (l : Nat) : (s.dirtySet l).length
    = howMany s.gear.length s.gearAt fun g => decide (g.cfg.line = l ∧ g.dirty ≠ .clear) := by
  rw [State.dirtySet, State.gearWhere, indicesWhere, howMany]
  simp only [Bool.decide_and]

theorem length_trimSet (s : State) (l : Nat) : (s.trimSet l).length
    = howMany s.gear.length s.gearAt fun g => decide (g.cfg.line = l ∧ g.trimPending = true) := by
  rw [State.trimSet, State.gearWhere, indicesWhere, howMany]
  simp only [Bool.decide_and, Bool.decide_eq_true]

theorem encContrib_eq (l : List Contrib) :
    encContrib l = bytesOf ((1, l.length) :: l.flatMap fun c => [(1, c.zone), (2, c.gain)]) := by
  rw [bytesOf_one, bytesOf_flatMap, encContrib, listOf]
  simp only [bytesOf_one, bytesOf_two, bytesOf_nil, List.append_nil]

theorem Zone.causes_eq (x : Zone) : x.causes = x.holdShade.toNat + 2 * x.holdCal.toNat := by
  unfold Zone.causes
  cases x.holdShade <;> cases x.holdCal <;> rfl

theorem partsOf_eq (dark gains : Bool) : partsOf dark gains = dark.toNat + 2 * gains.toNat := by
  cases dark <;> cases gains <;> rfl

theorem encEntry_eq (e : Entry) : encEntry e = bytesOf ((1, match e.target with
      | .gear i => i
      | .group k => 0xC0 + k)
    :: (1, match e.cmd with
      | .setValue => 0
      | .queryValue => 1
      | .queryStatus => 2
      | .setLossLevel => 3
      | .setGroup => 4
      | .shadeGoto => 5
      | .shadeStop => 6
      | .shadeQuery => 7)
    :: (match e.cmd with
      | .setLossLevel | .setGroup => [(1, e.value), (1, e.group.getD 255)]
      | .setValue | .shadeGoto => [(1, 0), (1, e.value)]
      | _ => [(1, 0), (1, 0)]) ++ [(1, e.origin.code), (1, e.attempts), (1, e.inFlight.toNat)]) := by
  have target : e.target.code = match e.target with
      | .gear i => i
      | .group k => 0xC0 + k := by cases e.target <;> rfl
  rw [encEntry, target]
  cases e.cmd <;>
    simp only [GearCmd.code, GearCmd.wire, opt8, flag8_eq, List.cons_append, List.nil_append, bytesOf_one, bytesOf_nil,
      List.append_assoc, List.append_nil]

theorem encShadeGear_eq (s : State) (seg i : Nat) : encShadeGear s seg i = bytesOf (match s.gearAt i with
    | some h => [(1, i), (1, h.cfg.line), (1, h.cfg.address), (1, h.state.code), (1, h.position.getD 255),
      (1, h.atLimit.toNat), (1, h.unchanged), (1, h.retriesUsed), (1, h.shadeFaulted.toNat), (1, (s.hasArrived seg i).toNat)]
    | none => []) := by
  unfold encShadeGear
  cases s.gearAt i with
  | none => rfl
  | some h => simp only [opt8, flag8_eq, bytesOf_one, bytesOf_nil, List.append_assoc, List.append_nil]

theorem encShadeHead_eq (g : Segment) :
    encShadeHead g = bytesOf [(1, g.manual.toNat), (1, g.state.code), (1, g.target.getD 255), (1, g.phase.code)] := by
  simp only [encShadeHead, opt8, flag8_eq, bytesOf_one, bytesOf_nil, List.append_assoc, List.append_nil]

theorem encInstances_eq {c : Counters} {group first count : Nat} {names : Nat → List Counter}
    (h : ∀ i, counterNames group i = names i) : encInstances c group first count
      = bytesOf ((1, count) :: (List.range' first count).flatMap fun i => (names i).map fun k => (4, c.get k)) := by
  rw [bytesOf_one, bytesOf_flatMap, encInstances, listOf, List.length_range']
  simp only [h, bytesOf_map_four]

theorem serveReadCounters_eq {group n most : Nat} (h : counterGroup group = some (n, most)) (set first count : Nat) (s : State) :
    serveReadCounters set group first count s
      = checked [(between 0 1 set, .outOfRange), (decide (first < n), .outOfRange), (between 1 most count, .outOfRange),
          (decide (first + count ≤ n), .outOfRange)] s
        (accepted (u8 set ++ u8 group ++ u8 first ++ encHeader s set
          ++ encInstances (if set = 0 then s.live else s.shadow) group first count) s) := by
  rw [serveReadCounters, h]

theorem encZone_eq (s : State) (x : Zone) (causes : Nat) (hc : x.causes = causes) :
    encZone s x = bytesOf ([(1, x.state.code), (1, causes), (2, x.level), (2, x.target), (2, x.setpoint), (1, x.occupancy.code),
        (1, x.fallbackSource.code), (1, x.fallbackReason.code), (1, x.underlit.toNat), (1, x.daylitOff.toNat),
        (1, x.outputLost.toNat)] ++ maybeTick x.belowMinSince ++ (2, x.overrideLevel) :: maybeTick x.overrideExpiry
      ++ (1, x.overrideActive.toNat) :: maybeTick x.lastEval ++ [(1, causes), (2, x.overrideLevel),
        (4, secondsUntil s.tick x.overrideExpiry), (2, s.belowMinElapsed x), (1, s.evalLine x)]) := by
  unfold encZone
  rw [hc, remaining32_eq]
  simp only [flag8_eq, bytesOf_append, bytesOf_maybeTick, bytesOf_one, bytesOf_two, bytesOf_four, bytesOf_nil]
  simp only [List.append_assoc, List.append_nil]

theorem encSweep_eq (s : State) (first count : Nat) : encSweep s first count
    = bytesOf ([(1, s.sweep.state.code), (1, s.sweep.dark.toNat + 2 * s.sweep.gains.toNat), (1, s.sweep.zones.length)]
        ++ s.sweep.zones.map (fun z => (1, z)) ++ [(1, s.sweep.current.getD 255), (1, s.sweep.zonesDone), (2, s.sweep.settleS),
          (2, s.sweep.gainFloor), (2, s.sweep.driftLimit), (4, s.sweep.startTick.toNat), (1, s.sweep.lastOutcome.code)]
        ++ (match s.sweep.abortCause with
          | .absent => [(1, 255), (1, 255)]
          | .host => [(1, 0), (1, 255)]
          | .line l => [(1, 1), (1, l)])
        ++ [(1, s.sweep.darkSet), (1, ((s.sweep.zones.drop first).take count).length)])
      ++ ((s.sweep.zones.drop first).take count).flatMap fun z => encCalResult (s.resultOf z) := by
  have cause : s.sweep.abortCause.bytes = bytesOf (match s.sweep.abortCause with
      | .absent => [(1, 255), (1, 255)]
      | .host => [(1, 0), (1, 255)]
      | .line l => [(1, 1), (1, l)]) := by
    cases s.sweep.abortCause <;> simp [AbortCause.bytes]
  simp only [encSweep, encSweepHead, encSweepParams, listOf, partsOf_eq, cause, tick32, opt8, bytesOf_append, bytesOf_map_byte,
    bytesOf_one, bytesOf_two, bytesOf_four, bytesOf_nil, List.append_assoc, List.append_nil]

theorem encShade_eq (s : State) (seg : Nat) : encShade s seg = encShadeHead (s.segment seg)
    ++ bytesOf ([(4, secondsUntil s.tick (s.segment seg).manualExpiry), (2, s.glareElapsed (s.segment seg)),
        (2, s.travelRemaining (s.segment seg)), (2, (s.segment seg).travelTimeoutInForce), (2, (s.segment seg).settleInForce),
        (1, (s.segment seg).retryLimitInForce), (1, (s.groupGear seg).length)]
      ++ (s.groupGear seg).flatMap (fun i => match s.gearAt i with
        | some h => [(1, i), (1, h.cfg.line), (1, h.cfg.address), (1, h.state.code), (1, h.position.getD 255),
          (1, h.atLimit.toNat), (1, h.unchanged), (1, h.retriesUsed), (1, h.shadeFaulted.toNat), (1, (s.hasArrived seg i).toNat)]
        | none => []) ++ [(2, s.shadeQuery)]) := by
  simp only [encShade, listOf, remaining32_eq, bytesOf_append, bytesOf_flatMap, ← encShadeGear_eq, bytesOf_one, bytesOf_two,
    bytesOf_four, bytesOf_nil, List.append_assoc, List.append_nil]

/-- Settles O29. -/
theorem stateReadsAnswerTheStateAsItStands : Obligations.StateReadsAnswerTheStateAsItStands := by
  refine ⟨fun tag i first count s hr => ⟨fun hi => ?line, fun x hi hx => ⟨?sensor, ?contrib⟩, fun x hi hx => ⟨?profile, ?zone⟩,
      fun hf h1 h12 => ?sweep, fun hi => ?result, fun hi hf h1 h16 => ?gearLine, fun g hi hg => ?gear, fun hi => ?shade, ?clock,
      fun hi => ?schedule, fun h1 h24 hn => ?occ, fun n most hgroup hf h1 hm hn => ⟨?live, ?shadow⟩⟩,
    fun x => ?encLine, fun x => ⟨?encSensor, encContrib_eq _⟩, fun m => ?encLearned, ?encZone, fun r => ?encResult, ?encSweep,
    ?encGearLine, encEntry_eq, fun s i g => ?encGear, ?encShade, fun c => ?encDate, fun p q => ⟨?encProfile, ?encPeriod⟩,
    fun o => ?encOcc, fun s z i x => ?encOccZone, fun c group first count names hgroup => ?instances,
    rfl, rfl, rfl, rfl, rfl, rfl, rfl, rfl, rfl, rfl, rfl, rfl, rfl, rfl, rfl⟩
  case line => exact exec_of_passes_ok hr rfl rfl (passes_cons (decide_eq_true hi) passes_nil)
  case sensor =>
    rw [← sensorReply_of_some hx encSensor]
    exact exec_of_passes_ok hr rfl rfl (passes_cons (decide_eq_true hi) (passes_cons (Option.isSome_of_eq_some hx) passes_nil))
  case contrib =>
    refine (exec_of_passes_ok hr rfl rfl (passes_cons (decide_eq_true hi) (passes_cons (Option.isSome_of_eq_some hx) passes_nil))).trans ?_
    rw [sensorReply_of_some hx, encContribOf]
  case profile =>
    refine (exec_of_passes_ok hr rfl rfl (passes_cons (decide_eq_true hi) (passes_cons (Option.isSome_of_eq_some hx) passes_nil))).trans ?_
    rw [hx, Option.elim_some]
  case zone =>
    refine (exec_of_passes_ok hr rfl rfl (passes_cons (decide_eq_true hi) (passes_cons (Option.isSome_of_eq_some hx) passes_nil))).trans ?_
    rw [hx, Option.elim_some]
  case sweep =>
    exact exec_of_passes_ok hr rfl rfl (passes_cons (between_iff.mpr ⟨h1, h12⟩) (passes_cons (decide_eq_true hf) passes_nil))
  case result => exact exec_of_passes_ok hr rfl rfl (passes_cons (decide_eq_true hi) passes_nil)
  case gearLine =>
    exact exec_of_passes_ok hr rfl rfl
      (passes_cons (decide_eq_true hi) (passes_cons (decide_eq_true hf) (passes_cons (between_iff.mpr ⟨h1, h16⟩) passes_nil)))
  case gear =>
    refine (exec_of_passes_ok hr rfl rfl (passes_cons (decide_eq_true hi) (passes_cons (Option.isSome_of_eq_some hg) passes_nil))).trans ?_
    rw [hg, Option.elim_some]
  case shade => exact exec_of_passes_ok hr rfl rfl (passes_cons (decide_eq_true hi) passes_nil)
  case clock => exact exec_of_passes_ok (bs := []) hr rfl rfl passes_nil
  case schedule => exact exec_of_passes_ok hr rfl rfl (passes_cons (decide_eq_true hi) passes_nil)
  case occ =>
    exact exec_of_passes_ok hr rfl rfl (passes_cons (between_iff.mpr ⟨h1, h24⟩) (passes_cons (decide_eq_true hn) passes_nil))
  case live =>
    exact exec_of_passes_ok hr rfl (serveReadCounters_eq (counterGroup_iff.mpr hgroup) ..) (passes_cons rfl
      (passes_cons (decide_eq_true hf) (passes_cons (between_iff.mpr ⟨h1, hm⟩) (passes_cons (decide_eq_true hn) passes_nil))))
  case shadow =>
    refine (exec_of_passes_ok hr rfl (serveReadCounters_eq (counterGroup_iff.mpr hgroup) ..) (passes_cons rfl
      (passes_cons (decide_eq_true hf) (passes_cons (between_iff.mpr ⟨h1, hm⟩)
        (passes_cons (decide_eq_true hn) passes_nil))))).trans ?_
    simp only [encHeader, List.append_assoc]
    rfl
  case encLine =>
    simp only [encScanner, encSensorLine, opt8, flag8_eq, bytesOf_append, bytesOf_maybeTick, bytesOf_one, bytesOf_two, bytesOf_nil,
      List.append_assoc, List.append_nil]
  case encSensor =>
    simp only [encSensor, tick32, flag8_eq, bytesOf_one, bytesOf_two, bytesOf_four, bytesOf_nil, List.append_assoc, List.append_nil]
  case encLearned =>
    simp only [encLearned, flag8_eq, bytesOf_append, bytesOf_flatMap, bytesOf_maybe_two, bytesOf_one, bytesOf_two, bytesOf_four,
      bytesOf_nil, List.append_assoc, List.append_nil]
  case encZone =>
    intro s x causes
    rw [encZone_eq s x causes (Zone.causes_eq x), State.evalLine, State.controlOf]
    cases x.cfg.controlSensor.bind s.sensor <;> rfl
  case encResult =>
    simp only [encCalResult, bytesOf_append, bytesOf_maybe_int, List.cons_append, bytesOf_one, bytesOf_nil, List.append_assoc,
      List.append_nil]
  case encSweep => exact encSweep_eq
  case encGearLine =>
    intro s l first count x shown
    simp only [encGearLineStatus, encGearLine, listOf, length_dirtySet, length_trimSet, opt8, flag8_eq, bytesOf_one, bytesOf_two,
      bytesOf_nil, List.append_assoc, List.append_nil]
    rfl
  case encGear =>
    simp only [encGearStatus, State.hasEntry, opt8, flag8_eq, bytesOf_one, bytesOf_nil, List.append_assoc, List.append_nil]
  case encShade =>
    intro s seg group hgroup g
    have hg : group = s.groupGear seg := eq_of_gearInOrder hgroup fun _ => inGroup_iff
    exact ⟨encShadeHead_eq g, hg ▸ encShade_eq s seg⟩
  case encDate =>
    simp only [encDate, bytesOf_one, bytesOf_two, bytesOf_nil, List.append_assoc, List.append_nil]
  case encProfile => simp only [encProfile, bytesOf_two, bytesOf_nil, List.append_nil]
  case encPeriod =>
    simp only [encPeriod, bytesOf_one, bytesOf_two, bytesOf_nil, List.append_assoc, List.append_nil]
  case encOcc =>
    simp only [encOccInput, occLevelCode, flag8_eq, bytesOf_one, bytesOf_two, bytesOf_nil, List.append_assoc, List.append_nil]
  case encOccZone =>
    simp only [encOccZone, bytesOf_one, bytesOf_two, bytesOf_nil, List.append_assoc, List.append_nil]
    rfl
  case instances =>
    obtain ⟨rfl, rfl⟩ | ⟨rfl, rfl⟩ | ⟨rfl, rfl⟩ | ⟨rfl, rfl⟩ | ⟨rfl, rfl⟩ := hgroup
    all_goals exact encInstances_eq fun _ => rfl

/-! ### Stored fields -/

theorem clampOr_eq {lo hi : Nat} (h : lo ≤ hi) (stored : Nat) (o : Option Nat) : clampOr lo hi stored o = clampGiven lo hi stored o := by
  cases o with
  | none => rfl
  | some v => exact clamp_eq_max_min h v

theorem clamps_eq {lo hi : Nat} (h : lo ≤ hi) (o : Option Nat) : clamps lo hi o = outside lo hi o := by
  cases o with
  | none => rfl
  | some v =>
    have hv : clamp lo hi v ≠ v ↔ v < lo ∨ hi < v := by rw [clamp_eq_max_min h]; omega
    simp only [clamps, outside, Option.any_some, hv, Bool.decide_or]

theorem refOr_eq (stored o : Option Nat) : refOr stored o = refGiven stored o := by cases o <;> rfl

theorem flagOr_eq {stored : Bool} {o : Option Nat} (h : GivenIn 0 1 o) : flagOr stored o = flagGiven stored o := by
  cases o with
  | none => rfl
  | some v =>
    obtain ⟨-, hv⟩ := h v rfl
    match v with
    | 0 => rfl
    | 1 => rfl
    | v + 2 => omega

theorem speedGiven_eq (stored : Speed) (o : Option Nat) : (o.bind Speed.ofCode).getD stored
    = if o = some 0 then .khz100 else if o = some 1 then .khz400 else stored := by
  match o with
  | none => rfl
  | some 0 => rfl
  | some 1 => rfl
  | some (v + 2) => simp [Speed.ofCode]

theorem clamp_zero (hi v : Nat) : clamp 0 hi v = min hi v := by rw [clamp_eq_max_min (Nat.zero_le hi), Nat.zero_max]

theorem clamps_zero_some (hi v : Nat) : clamps 0 hi (some v) = decide (hi < v) := by
  rw [clamps_eq (Nat.zero_le _)]
  simp [outside]

theorem notSaving {s : State} (h : s.saving = false) : (!s.saving) = true := by rw [h]; rfl

/-- Settles O30. -/
theorem parameterRequestsStoreTheirFields : Obligations.ParameterRequestsStoreTheirFields := by
  intro tag s hr hsave
  refine ⟨fun r hsweep hl hspeed hpoll hmiss => ?line, fun p occupied unoccupied hp => ?profile, fun n h1 h10 => ?query,
    fun i n hi h1 h120 => ?occ, fun r hi hp hd hd7 hs he hse hend => ?period, fun i hi hdef => ?noPeriod⟩
  case line =>
    have quiet : s.quiet = true := quiet_iff.mp ⟨hsave, hsweep⟩
    have fields : ((r.speed.all fun v => (Speed.ofCode v).isSome) && optBetween 100 5000 r.pollInterval
        && optBetween 1 15 r.missLimit) = true := by
      rw [Bool.and_eq_true, Bool.and_eq_true, speed_ofCode_iff, optBetween_iff, optBetween_iff]
      exact ⟨⟨fun v hv => ⟨Nat.zero_le v, hspeed v hv⟩, hpoll⟩, hmiss⟩
    simp only [← speedGiven_eq]
    exact exec_of_passes_ok hr rfl rfl (passes_cons quiet (passes_cons (decide_eq_true hl) (passes_cons fields passes_nil)))
  case profile =>
    simp only [← clampOr_eq (Nat.zero_le 5000), ← clamps_eq (Nat.zero_le 5000)]
    exact exec_of_passes hr rfl rfl (passes_cons (notSaving hsave) (passes_cons (decide_eq_true hp) passes_nil))
  case query =>
    exact exec_of_passes_ok hr rfl rfl (passes_cons (notSaving hsave) (passes_cons (between_iff.mpr ⟨h1, h10⟩) passes_nil))
  case occ =>
    exact exec_of_passes_ok hr rfl rfl (passes_cons (notSaving hsave)
      (passes_cons (decide_eq_true hi) (passes_cons (between_iff.mpr ⟨h1, h120⟩) passes_nil)))
  case period =>
    intro p apart
    have inRange : (decide (r.index < Config.nPeriods) && periodInRange r) = true :=
      periodInRange_iff.mpr ⟨hi, hp, hd, hd7, hs, he, hse, hend⟩
    refine (exec_of_passes hr rfl rfl (passes_cons (notSaving hsave)
      (passes_cons inRange (passes_cons (periodFits_iff.mpr apart) passes_nil)))).trans ?_
    simp only [requestedPeriod, clamp_zero, clamps_zero_some]
    rfl
  case noPeriod =>
    exact exec_of_passes_ok hr rfl rfl (passes_cons (notSaving hsave)
      (passes_cons (decide_eq_true hi) (passes_cons hdef passes_nil)))

/-! ### Contribution lists in zone order (R43) -/

theorem insertContrib_perm (c : Contrib) (l : List Contrib) : (insertContrib c l).Perm (c :: l) := by
  induction l with
  | nil => exact .refl _
  | cons d l ih =>
    unfold insertContrib
    split
    · exact .refl _
    · exact (ih.cons d).trans (.swap c d l)

theorem insertContrib_sorted {c : Contrib} {l : List Contrib} (hl : (l.map Contrib.zone).Pairwise (· < ·))
    (hc : c.zone ∉ l.map Contrib.zone) : ((insertContrib c l).map Contrib.zone).Pairwise (· < ·) := by
  induction l with
  | nil => simp [insertContrib]
  | cons d l ih =>
    rw [List.map_cons, List.pairwise_cons] at hl
    rw [List.map_cons, List.mem_cons, not_or] at hc
    obtain ⟨hd, hl'⟩ := hl
    unfold insertContrib
    split
    · next hlt =>
      refine List.pairwise_cons.mpr ⟨fun z hz => ?_, List.pairwise_cons.mpr ⟨hd, hl'⟩⟩
      obtain rfl | hz := List.mem_cons.mp hz
      · exact hlt
      · exact hlt.trans (hd z hz)
    · next hge =>
      refine List.pairwise_cons.mpr ⟨fun z hz => ?_, ih hl' hc.2⟩
      obtain rfl | hz := List.mem_cons.mp (((insertContrib_perm c l).map Contrib.zone).mem_iff.mp hz)
      · exact lt_of_le_of_ne (Nat.le_of_not_lt hge) (Ne.symm hc.1)
      · exact hd z hz

theorem foldl_insertContrib (l acc : List Contrib) (hacc : (acc.map Contrib.zone).Pairwise (· < ·))
    (hn : ((l ++ acc).map Contrib.zone).Nodup) :
    (l.foldl (fun acc c => insertContrib c acc) acc).Perm (l ++ acc)
      ∧ ((l.foldl (fun acc c => insertContrib c acc) acc).map Contrib.zone).Pairwise (· < ·) := by
  induction l generalizing acc with
  | nil => exact ⟨.refl _, hacc⟩
  | cons c l ih =>
    have moved : (l ++ insertContrib c acc).Perm (c :: l ++ acc) :=
      ((insertContrib_perm c acc).append_left l).trans List.perm_middle
    have hc : c.zone ∉ acc.map Contrib.zone := by
      rw [List.cons_append, List.map_cons, List.nodup_cons, List.map_append, List.mem_append, not_or] at hn
      exact hn.1.2
    obtain ⟨hperm, hsorted⟩ := ih (insertContrib c acc) (insertContrib_sorted hacc hc) ((moved.map _).nodup_iff.mpr hn)
    exact ⟨hperm.trans moved, hsorted⟩

theorem sortContrib_sorts {l : List Contrib} (h : (l.map Contrib.zone).Nodup) :
    (sortContrib l).Perm l ∧ ((sortContrib l).map Contrib.zone).Pairwise (· < ·) := by
  simpa [sortContrib] using foldl_insertContrib l [] List.Pairwise.nil (by simpa using h)

/-- A change of a defined entry of a table is a new entry. -/
theorem modify_eq_set {α : Type} {l : List (Option α)} {i : Nat} {x : α} (h : entryAt l i = some x) (f : α → α) :
    l.modify i (Option.map f) = l.set i (some (f x)) := by
  have hi : l[i]? = some (some x) := by
    rw [List.getElem?_eq_getElem (entryAt_lt h)]
    simpa [entryAt, entryAt_lt h] using h
  rw [List.modify_eq_set_getElem?, hi]
  rfl

theorem State.modSensor_eq {s : State} {i : Nat} {x : Sensor} (h : s.sensor i = some x) (f : Sensor → Sensor) :
    s.modSensor i f = { s with sensors := s.sensors.set i (some (f x)) } := by rw [State.modSensor, modify_eq_set h]

/-- Settles O31. -/
theorem writeContribStoresTheListInZoneOrder : Obligations.WriteContribStoresTheListInZoneOrder := by
  intro tag r s x hs hi hx hlen hentries hnodup hdark
  have zones : ((r.entries.map fun e => (⟨e.1, e.2⟩ : Contrib)).map Contrib.zone) = r.entries.map Prod.fst := by
    rw [List.map_map]; rfl
  obtain ⟨hperm, hsorted⟩ := sortContrib_sorts (l := r.entries.map fun e => ⟨e.1, e.2⟩) (zones ▸ hnodup)
  refine ⟨_, hperm, hsorted, ?_⟩
  have fields := contrib_iff.mpr ⟨hlen, fun e he => (hentries e he).2, hnodup, fun v hv => ⟨Nat.zero_le v, hdark v hv⟩⟩
  have defined : (r.entries.all fun e => (s.zone e.1).isSome) = true :=
    List.all_eq_true.mpr fun e he => (hentries e he).1
  refine (exec_of_passes_ok hs.1 rfl rfl (passes_cons (State.quiet_of_undisturbed hs) (passes_cons (decide_eq_true hi)
    (passes_cons (Option.isSome_of_eq_some hx) (passes_cons fields (passes_cons defined passes_nil)))))).trans ?_
  rw [State.modSensor_eq hx, State.sensorReply, State.sensor, entryAt_set, if_pos ⟨rfl, entryAt_lt hx⟩]
  rfl

end Sys2Proof.Machine
end

section
/-! PROOFS. The marks of a line out of service: every operation keeps the gear of a line that is not UP clear of marks, such a line
out of CONGESTED, and every line OFF until the device is RUNNING (R112, R116, R136). -/

namespace Sys2Proof.Machine

open Sys2Proof.Safety

set_option Elab.async false

/-- A gear that is neither dirty nor trim-pending. -/
def Unmarked (g : Gear) : Prop := g.dirty = .clear ∧ g.trimPending = false

/-- What holds before a change for each index of a list, and is kept by each of the changes, holds after them. -/
theorem forEach_keeps {P : State → Prop} (l : List Nat) (f : Nat → State → State) (h : ∀ i ∈ l, ∀ s, P s → P (f i s)) {s : State}
    (hs : P s) : P (forEach l f s) := by
  induction l generalizing s with
  | nil => exact hs
  | cons i l ih => exact ih (fun j hj => h j (.tail _ hj)) (h i (.head _) s hs)

/-- A line's entry of the table, or the factory line beyond it. -/
theorem State.gearLine_eq (s : State) (l : Nat) :
    (∃ x ∈ s.gearLines, s.gearLines[l]? = some x ∧ s.gearLine l = x)
      ∨ (s.gearLines.length ≤ l ∧ s.gearLine l = GearLine.factory false) := by
  by_cases hl : l < s.gearLines.length
  · exact .inl ⟨s.gearLines[l], List.getElem_mem hl, List.getElem?_eq_getElem hl,
      by simp [State.gearLine, List.getD_eq_getElem?_getD, hl]⟩
  · exact .inr ⟨by omega, by simp [State.gearLine, List.getD_eq_getElem?_getD, hl]⟩

theorem isUp_iff {x : GearLine} : x.isUp = true ↔ x.state = .up := by rw [GearLine.isUp, decide_eq_true_eq]

end Sys2Proof.Machine

namespace Sys2Proof.Safety.MarksSound

open Sys2Proof.Machine

variable {s t : State}

set_option Elab.async false

/-! ### The updates of a state -/

/-- A change of other records keeps the marks sound. -/
theorem rest (h : MarksSound s) (hg : t.gear = s.gear := by rfl) (hl : t.gearLines = s.gearLines := by rfl)
    (hk : t.loader = s.loader := by rfl) : MarksSound t := by
  have line (l : Nat) : t.gearLine l = s.gearLine l := by rw [State.gearLine, State.gearLine, hl]
  have running : t.running = s.running := by rw [State.running, State.running, hk]
  refine ⟨fun i g hi hup => h.gear i g ?_ (line _ ▸ hup), hl ▸ h.lines, fun hr => hl ▸ h.off (running ▸ hr), ?_⟩
  · rwa [State.gearAt, ← hg]
  · rw [hk, running]
    exact h.loading

/-- A change of the loader that keeps the device's state and begins no load. -/
theorem modLoader (h : MarksSound s) {f : Loader → Loader} (hd : (f s.loader).device = s.loader.device := by rfl)
    (hload : (f s.loader).load.isSome = true → s.loader.load.isSome = true := by intro h; exact h) :
    MarksSound (s.modLoader f) := by
  have running : (s.modLoader f).running = s.running := congrArg (fun d => decide (d = DeviceState.running)) hd
  exact ⟨h.gear, h.lines, fun hr => h.off (running ▸ hr), fun hl => running ▸ h.loading (hload hl)⟩

theorem ite {c : Prop} [Decidable c] {u : State} (ht : c → MarksSound t) (hf : ¬ c → MarksSound u) :
    MarksSound (if c then t else u) := by
  split
  · next hc => exact ht hc
  · next hc => exact hf hc

theorem forEach (h : MarksSound s) {l : List Nat} {f : Nat → State → State} (hf : ∀ i ∈ l, ∀ s, MarksSound s → MarksSound (f i s)) :
    MarksSound (Machine.forEach l f s) := forEach_keeps l f hf h

/-- A gear changes by `f`, which on a line that is not UP makes no mark. -/
theorem modGearAt (h : MarksSound s) {i : Nat} {f : Gear → Gear} (hline : ∀ g, (f g).cfg.line = g.cfg.line := by intro _; rfl)
    (hmark : ∀ g, s.gearAt i = some g → (s.gearLine g.cfg.line).state ≠ .up → Unmarked g → Unmarked (f g)) :
    MarksSound (s.modGear i f) := by
  refine ⟨fun j g hj hup => ?_, h.lines, h.off, h.loading⟩
  rw [State.gearAt_modGear] at hj
  split at hj
  · next hij =>
    subst hij
    obtain ⟨g', hg', rfl⟩ := Option.map_eq_some_iff.mp hj
    rw [hline] at hup
    exact hmark g' hg' hup (h.gear i g' hg' hup)
  · exact h.gear j g hj hup

/-- A gear changes by `f`, which makes no mark. -/
theorem modGear (h : MarksSound s) {i : Nat} {f : Gear → Gear} (hline : ∀ g, (f g).cfg.line = g.cfg.line := by intro _; rfl)
    (hmark : ∀ g, Unmarked g → Unmarked (f g) := by intro _ h; exact h) : MarksSound (s.modGear i f) :=
  h.modGearAt hline fun g _ _ => hmark g

/-- Every gear changes by `f`, which makes no mark. -/
theorem mapGear (h : MarksSound s) {f : Gear → Gear} (hline : ∀ g, (f g).cfg.line = g.cfg.line)
    (hmark : ∀ g, Unmarked g → Unmarked (f g)) : MarksSound { s with gear := s.gear.map (Option.map f) } := by
  refine ⟨fun j g hj hup => ?_, h.lines, h.off, h.loading⟩
  obtain ⟨g', hg', rfl⟩ := Option.map_eq_some_iff.mp ((entryAt_map s.gear j f).symm.trans hj)
  rw [hline] at hup
  exact hmark g' (h.gear j g' hg' hup)

/-- A gear is stored that has no mark where its line is not UP, or an entry becomes undefined. -/
theorem setGear (h : MarksSound s) {i : Nat} {o : Option Gear}
    (ho : ∀ g, o = some g → (s.gearLine g.cfg.line).state ≠ .up → Unmarked g) : MarksSound (s.setGear i o) := by
  refine ⟨fun j g hj hup => ?_, h.lines, h.off, h.loading⟩
  rw [State.gearAt_setGear] at hj
  split at hj
  · exact ho g hj hup
  · exact h.gear j g hj hup

/-- A line changes by `f`, which keeps its state and makes no line CONGESTED that is not UP. -/
theorem modLine (h : MarksSound s) {l : Nat} {f : GearLine → GearLine} (hstate : ∀ x, (f x).state = x.state := by intro _; rfl)
    (hcong : ∀ x, x.state ≠ .up → x.congested = false → (f x).congested = false := by intro _ _ h; exact h) :
    MarksSound (s.modGearLine l f) := by
  have state (k : Nat) : ((s.modGearLine l f).gearLine k).state = (s.gearLine k).state := by
    rw [State.gearLine_modGearLine]
    split
    · exact hstate _
    · rfl
  refine ⟨fun i g hi hup => h.gear i g hi (state _ ▸ hup), fun x hx hup => ?_, fun hr x hx => ?_, h.loading⟩
  · obtain hx | ⟨y, hy, rfl⟩ := Moves.mem_modify hx
    · exact h.lines x hx hup
    · rw [hstate] at hup
      exact hcong y hup (h.lines y (List.mem_of_getElem? hy) hup)
  · obtain hx | ⟨y, hy, rfl⟩ := Moves.mem_modify hx
    · exact h.off hr x hx
    · rw [hstate]
      exact h.off hr y (List.mem_of_getElem? hy)

/-- A line that is not OFF means that the device is RUNNING. -/
theorem running_of_line (h : MarksSound s) {l : Nat} (hl : (s.gearLine l).state ≠ .off) : s.running = true := by
  by_contra hr
  obtain ⟨x, hx, -, hxl⟩ | ⟨-, hxl⟩ := s.gearLine_eq l
  · exact hl (hxl ▸ h.off (by simpa using hr) x hx)
  · exact hl (hxl ▸ rfl)

theorem not_congested (h : MarksSound s) {l : Nat} (hl : (s.gearLine l).state ≠ .up) : (s.gearLine l).congested = false := by
  obtain ⟨x, hx, -, hxl⟩ | ⟨-, hxl⟩ := s.gearLine_eq l
  · rw [hxl] at hl ⊢
    exact h.lines x hx hl
  · rw [hxl]; rfl

theorem up_of_congested (h : MarksSound s) {l : Nat} (hl : (s.gearLine l).congested = true) : (s.gearLine l).state = .up := by
  by_contra hup
  rw [h.not_congested hup] at hl
  cases hl

/-- A line takes another state by `f` in a device that is RUNNING; one that is not UP then has no marks and is not CONGESTED. -/
theorem moveLine (h : MarksSound s) (hr : s.running = true) {l : Nat} {f : GearLine → GearLine}
    (hcong : ∀ x, s.gearLines[l]? = some x → (f x).state ≠ .up → (f x).congested = false)
    (hmark : ∀ i g, s.gearAt i = some g → g.cfg.line = l → (f (s.gearLine l)).state ≠ .up → Unmarked g) :
    MarksSound (s.modGearLine l f) := by
  refine ⟨fun i g hi hup => ?_, fun x hx hup => ?_, fun hr' => ?_, h.loading⟩
  · change ((s.modGearLine l f).gearLine g.cfg.line).state ≠ .up at hup
    rw [State.gearLine_modGearLine] at hup
    split at hup
    · next hl => exact hmark i g hi hl.1.symm (hl.1.symm ▸ hup)
    · exact h.gear i g hi hup
  · obtain hx | ⟨y, hy, rfl⟩ := Moves.mem_modify hx
    · exact h.lines x hx hup
    · exact hcong y hy hup
  · exact absurd (hr.symm.trans hr') (by decide)

/-! ### Transmit queues, the dirty set and the hand-over of levels (chapter 6) -/

theorem latchIf (h : MarksSound s) {c : Bool} {f : Flag} : MarksSound (s.latchIf c f) := by
  cases c
  · exact h
  · exact h.rest

theorem countBy (h : MarksSound s) {k : Counter} {n : Nat} : MarksSound (s.countBy k n) := latchIf h.rest

theorem count (h : MarksSound s) {k : Counter} : MarksSound (s.count k) := h.countBy

theorem dropEntries (h : MarksSound s) {l : Nat} {p : Entry → Bool} : MarksSound (s.dropEntries l p) := h.modLine

theorem markSetup (h : MarksSound s) {i : Nat} : MarksSound (s.markSetup i) := by
  unfold State.markSetup
  split
  · exact h
  · next g hg =>
    refine ite (fun hup => dropEntries (h.modGearAt (hmark := fun g' hg' hdown => ?_))) (fun _ => h)
    obtain rfl : g = g' := Option.some.inj (hg.symm.trans hg')
    exact absurd (isUp_iff.mp (Bool.and_eq_true_iff.mp hup).1) hdown

theorem markValue (h : MarksSound s) {i : Nat} : MarksSound (s.markValue i) := by
  unfold State.markValue
  split
  · exact h
  · next g hg =>
    refine ite (fun hup => h.modGearAt (hmark := fun g' hg' hdown => ?_)) (fun _ => h)
    obtain rfl : g = g' := Option.some.inj (hg.symm.trans hg')
    exact absurd (isUp_iff.mp (Bool.and_eq_true_iff.mp (Bool.and_eq_true_iff.mp hup).1).1) hdown

theorem highCheck (h : MarksSound s) {l : Nat} : MarksSound (s.highCheck l) :=
  h.modLine (hcong := fun x hup hc => by simp [GearLine.isUp, hup, hc])

theorem noteExpected (h : MarksSound s) {a : Entry} : MarksSound (s.noteExpected a) := by
  unfold State.noteExpected
  split
  · exact h.modGear
  · exact h.modGear
  · exact h

theorem deferred (h : MarksSound s) {l : Nat} {a : Entry} : MarksSound (s.deferred l a) := by
  unfold State.deferred
  split
  · exact h.markValue.count
  · exact h.markValue.count
  · exact h

theorem offer (h : MarksSound s) {l : Nat} {d : Bool} {a : Entry} : MarksSound (s.offer l d a) := by
  unfold State.offer
  exact ite (fun _ => h) fun _ => ite (fun _ => noteExpected h.modLine) fun _ =>
    ite (fun _ => highCheck (noteExpected h.modLine)) fun _ => h.deferred

theorem serveGear (h : MarksSound s) {i : Nat} : MarksSound (s.serveGear i) := by
  unfold State.serveGear
  split
  · exact h
  · next g _ =>
    have setup : MarksSound (if g.dirty = .setup then
        s.offer g.cfg.line true (.arrival (.gear i) .setLossLevel g.cfg.lossLevel (s.setupGroup g) .setup) else s) :=
      ite (fun _ => h.offer) fun _ => h
    refine modGear (hmark := fun _ hm => ⟨rfl, hm.2⟩) ?_
    split
    · exact setup.offer
    · exact setup

theorem serveDirty (h : MarksSound s) {l : Nat} : MarksSound (s.serveDirty l) :=
  h.forEach fun _ _ _ hs => ite (fun _ => hs.serveGear) fun _ => hs

theorem restoreGear (h : MarksSound s) {i : Nat} : MarksSound (s.restoreGear i) :=
  modGear (ite (fun _ => h.markValue) fun _ => h) (hmark := fun _ hm => ⟨hm.1, rfl⟩)

theorem lowCheck (h : MarksSound s) {l : Nat} : MarksSound (s.lowCheck l) :=
  ite (fun _ => forEach (h.modLine (hcong := fun _ _ _ => rfl)) fun _ _ _ hs => hs.restoreGear) fun _ => h

theorem tendLine (h : MarksSound s) {l : Nat} : MarksSound (s.tendLine l) := h.lowCheck.serveDirty

theorem tendLines (h : MarksSound s) : MarksSound s.tendLines := h.forEach fun _ _ _ hs => hs.tendLine

/-- The gear of a group's step lie on a line that is UP, so that they may be trim-pending (R131). -/
theorem markTrim (h : MarksSound s) {ready : List Nat} {value : Nat}
    (hready : ∀ i ∈ ready, ∀ g, s.gearAt i = some g → (s.gearLine g.cfg.line).state = .up) :
    MarksSound (Machine.forEach ready (fun i s => s.modGear i fun x =>
      { x with dirty := .clear, trimPending := true, expected := some value }) s) := by
  refine (forEach_keeps (P := fun t => MarksSound t
    ∧ ∀ i ∈ ready, ∀ g, t.gearAt i = some g → (t.gearLine g.cfg.line).state = .up) ready _ (fun i hi t ht => ?_) ⟨h, hready⟩).1
  obtain ⟨hm, hup⟩ := ht
  refine ⟨hm.modGearAt (hmark := fun g hg hdown => absurd (hup i hi g hg) hdown), fun j hj g hg => ?_⟩
  rw [State.gearAt_modGear] at hg
  split at hg
  · obtain ⟨g', hg', rfl⟩ := Option.map_eq_some_iff.mp hg
    exact hup j hj g' hg'
  · exact hup j hj g hg

theorem handGroup (h : MarksSound s) {l g v : Nat} {ready : List Nat}
    (hready : ∀ i ∈ ready, ∀ g, s.gearAt i = some g → (s.gearLine g.cfg.line).state = .up) :
    MarksSound (s.handGroup l g v ready) := by
  have dropped : MarksSound (s.dropEntries l fun e =>
      !e.inFlight && decide (e.cmd = .setValue) && ready.any fun i => decide (e.target = .gear i)) := h.dropEntries
  have marked := dropped.markTrim (ready := ready) (value := v) fun i hi g hg => by
    rw [State.dropEntries, State.gearLine_modGearLine]
    split
    · exact hready i hi g hg
    · exact hready i hi g hg
  unfold State.handGroup
  dsimp only
  split
  · exact marked.offer
  · refine count (marked.forEach fun i _ t ht => markValue ?_)
    exact ht.modGear (hmark := fun _ hm => ⟨hm.1, rfl⟩)

theorem handGear (h : MarksSound s) {l z i : Nat} : MarksSound (s.handGear l z i) := by
  unfold State.handGear
  split
  · exact h
  · exact h.offer

theorem handOnLine (h : MarksSound s) {z : Nat} {x : Zone} {l : Nat} : MarksSound (s.handOnLine z x l) := by
  unfold State.handOnLine
  dsimp only
  refine tendLine (forEach ?_ fun _ _ _ hs => hs.handGear)
  split
  · next g hgroup =>
    have congested : (s.gearLine l).congested = true := by
      by_contra hc
      rw [if_neg hc] at hgroup
      cases hgroup
    refine ite (fun _ => h) fun _ => h.handGroup fun i hi g' hg' => ?_
    rw [if_pos congested] at hi
    split at hi
    · obtain ⟨d, hd, hdrives⟩ := State.mem_gearWhere.mp (List.mem_filter.mp hi).1
      obtain rfl : g' = d := Option.some.inj (hg'.symm.trans hd)
      obtain ⟨-, hline⟩ := Bool.and_eq_true_iff.mp hdrives
      rw [of_decide_eq_true hline]
      exact h.up_of_congested congested
    · cases hi
  · exact h

theorem handLevel (h : MarksSound s) {z : Nat} : MarksSound (s.handLevel z) := by
  unfold State.handLevel
  split
  · exact h
  · exact h.forEach fun _ _ _ hs => hs.handOnLine

/-! ### Lost output and the states of a line -/

theorem refreshOutput (h : MarksSound s) {z : Nat} : MarksSound (s.refreshOutput z) := by
  unfold State.refreshOutput
  split
  · exact h
  · exact latchIf h.rest

theorem refreshLineOutput (h : MarksSound s) {l : Nat} : MarksSound (s.refreshLineOutput l) :=
  h.forEach fun _ _ _ hs => hs.refreshOutput

theorem refreshGearOutput (h : MarksSound s) {g : Gear} : MarksSound (s.refreshGearOutput g) := by
  unfold State.refreshGearOutput
  split
  · exact h.refreshOutput
  · exact h

theorem modLineGear (h : MarksSound s) {l : Nat} {f : Gear → Gear} (hline : ∀ g, (f g).cfg.line = g.cfg.line := by intro _; rfl)
    (hmark : ∀ g, Unmarked g → Unmarked (f g) := by intro _ h; exact h) : MarksSound (s.modLineGear l f) := by
  refine h.mapGear (fun g => ?_) (fun g hg => ?_)
  · split
    · exact hline g
    · rfl
  · split
    · exact hmark g hg
    · exact hg

theorem lineStarting (h : MarksSound s) (hr : s.running = true) {l : Nat} (hl : (s.gearLine l).state ≠ .up) :
    MarksSound (s.lineStarting l) := by
  refine refreshLineOutput (modLineGear (h.moveLine hr (fun x hx _ => ?_) fun i g hi hg _ => ?_))
  · have hxl : s.gearLine l = x := by simp [State.gearLine, List.getD_eq_getElem?_getD, hx]
    exact hxl ▸ h.not_congested hl
  · exact h.gear i g hi (hg ▸ hl)

theorem lineLeaves (h : MarksSound s) (hr : s.running = true) {l : Nat} {dest : LineState} : MarksSound (s.lineLeaves l dest) := by
  have cleared : MarksSound (s.modLineGear l fun g => { g with dirty := .clear, trimPending := false }) :=
    h.modLineGear (hmark := fun _ _ => ⟨rfl, rfl⟩)
  refine refreshLineOutput (cleared.moveLine hr (l := l) (f := fun x =>
    { x with state := dest, queue := [], congested := false, settle := none, audit := none }) (fun _ _ _ => rfl)
    fun i g hi hg _ => ?_)
  obtain ⟨g', -, rfl⟩ := Option.map_eq_some_iff.mp ((entryAt_map s.gear i _).symm.trans hi)
  dsimp only at hg ⊢
  split at hg
  · next hl => rw [if_pos hl]; exact ⟨rfl, rfl⟩
  · next hl => exact absurd hg hl

theorem lineComesUp (h : MarksSound s) (hr : s.running = true) {l : Nat} (hl : (s.gearLine l).state ≠ .up) :
    MarksSound (s.lineComesUp l) := by
  refine ite (fun _ => h.lineStarting hr hl) fun _ => refreshLineOutput (rest (s := s.modGearLine l fun x =>
    { x with state := .down, queue := [] }) (h.moveLine hr (fun x hx _ => ?_) fun i g hi hg _ => ?_))
  · have hxl : s.gearLine l = x := by simp [State.gearLine, List.getD_eq_getElem?_getD, hx]
    exact hxl ▸ h.not_congested hl
  · exact h.gear i g hi (hg ▸ hl)

theorem lineUp (h : MarksSound s) (hr : s.running = true) {l : Nat} : MarksSound (s.lineUp l) := by
  have up : MarksSound (s.modGearLine l fun x =>
      { x with state := .up, congested := false, settle := none, audit := s.auditTimer x.auditInterval }) :=
    h.moveLine hr (fun _ _ _ => rfl) fun _ _ _ _ hdown => absurd rfl hdown
  exact (up.forEach fun _ _ _ hs => hs.markSetup).refreshLineOutput.tendLine

end Sys2Proof.Safety.MarksSound
end

section
/-! PROOFS. The marks of a line out of service, kept by the zones, the shades and the sweep. -/

namespace Sys2Proof.Safety.MarksSound

open Sys2Proof.Machine

variable {s t : State}

set_option Elab.async false

/-! ### Zones (chapters 3, 4, 8 and 9) -/

theorem recordEval (h : MarksSound s) {z : Nat} {r : EvalRecord} : MarksSound (s.recordEval z r) := by
  unfold State.recordEval
  split
  · exact h
  · exact countBy (countBy (countBy h.rest))

theorem accrueOverride (h : MarksSound s) {z : Nat} {m : Option Tick} : MarksSound (s.accrueOverride z m) := by
  unfold State.accrueOverride
  split
  · exact h
  · exact countBy h.rest

theorem learnRatio (h : MarksSound s) {z day : Nat} : MarksSound (s.learnRatio z day) := by
  unfold State.learnRatio
  split
  · exact h
  · split
    · exact h
    · exact ite (fun _ => h.rest) fun _ => h

theorem accumulate (h : MarksSound s) {z day : Nat} : MarksSound (s.accumulate z day) := by
  unfold State.accumulate
  split
  · exact h
  · exact ite (fun _ => h.rest) fun _ => h

theorem processReading (h : MarksSound s) {i : Nat} {how : Hand} : MarksSound (s.processReading i how) := by
  unfold State.processReading
  split
  · exact h
  · exact h.rest

theorem calibrationWrite (h : MarksSound s) {z floor : Nat} {m : List (Nat × Nat)} :
    MarksSound (s.calibrationWrite z floor m) := by
  unfold State.calibrationWrite
  have start : MarksSound (s.removeFromLists z) := h.rest
  generalize s.removeFromLists z = u at start
  induction m generalizing u with
  | nil => exact start
  | cons p m ih => exact ih _ (ite (fun _ => start.rest) fun _ => start)

theorem invalidateClock (h : MarksSound s) : MarksSound s.invalidateClock := ite (fun _ => h.rest) fun _ => h

theorem raiseBoundary (h : MarksSound s) : MarksSound s.raiseBoundary := ite (fun _ => h.rest) fun _ => h

theorem modClock (h : MarksSound s) {f : Clock → Clock} : MarksSound (s.modClock f) := h.rest

theorem advanceClock (h : MarksSound s) : MarksSound s.advanceClock := by
  unfold State.advanceClock
  exact ite (fun _ => rest h.modClock.modClock.invalidateClock) fun _ => h.modClock.modClock.raiseBoundary

theorem handIfChanged (h : MarksSound s) {z old : Nat} : MarksSound (s.handIfChanged z old) :=
  ite (fun _ => h) fun _ => h.handLevel

theorem resolveHeld (h : MarksSound s) {z : Nat} : MarksSound (s.resolveHeld z) := by
  unfold State.resolveHeld
  split
  · exact h
  · next x _ =>
    dsimp only
    have reasoned : MarksSound (if s.resolved z x = .fallback then
        s.modZone z fun y => { y with fallbackReason := s.fallbackReasonOf z x } else s) := ite (fun _ => h.rest) fun _ => h
    have accrued := ite (c := x.state = .override) (fun _ => reasoned.accrueOverride (z := z) (m := none)) fun _ => reasoned
    exact ite (fun _ => reasoned) fun _ => latchIf (ite (fun _ => rest accrued) fun _ => rest accrued)

theorem resolve (h : MarksSound s) {z : Nat} : MarksSound (s.resolve z) := h.resolveHeld.handIfChanged

theorem evaluate (h : MarksSound s) {line z : Nat} : MarksSound (s.evaluate line z) := by
  unfold State.evaluate
  split
  · exact h
  · dsimp only
    refine recordEval ?_
    split
    · exact (learnRatio (handIfChanged h.rest)).accumulate
    · exact handIfChanged h.rest

theorem evalEvent (h : MarksSound s) {line z : Nat} : MarksSound (s.evalEvent line z) := by
  unfold State.evalEvent
  dsimp only
  split
  · exact h.resolve.evaluate
  · exact h.resolve.evaluate
  · exact h.resolve

theorem evaluateLine (h : MarksSound s) {line : Nat} : MarksSound (s.evaluateLine line) :=
  h.forEach fun _ _ _ hs => hs.evalEvent

theorem accrueLine (h : MarksSound s) {line : Nat} : MarksSound (s.accrueLine line) :=
  h.forEach fun _ _ _ hs => hs.accrueOverride

theorem setShadeHold (h : MarksSound s) {z : Nat} {on : Bool} : MarksSound (s.setShadeHold z on) := by
  unfold State.setShadeHold
  split
  · exact h
  · exact ite (fun _ => h) fun _ => resolve h.rest

theorem setCalHold (h : MarksSound s) {z : Nat} {on : Bool} : MarksSound (s.setCalHold z on) := by
  unfold State.setCalHold
  split
  · exact h
  · exact ite (fun _ => h) fun _ => resolve h.rest

theorem askLevel (h : MarksSound s) {z v : Nat} : MarksSound (s.askLevel z v) := by
  unfold State.askLevel
  split
  · exact h
  · exact ite (fun _ => handIfChanged h.rest) fun _ => h

theorem resolveAndHand (h : MarksSound s) {z : Nat} : MarksSound (s.resolveAndHand z) := h.resolveHeld.handLevel

theorem resolveZonesOf (h : MarksSound s) {i : Nat} : MarksSound (s.resolveZonesOf i) :=
  h.forEach fun _ _ _ hs => hs.resolve

theorem applyOverride (h : MarksSound s) {z : Nat} : MarksSound (s.applyOverride z) := by
  unfold State.applyOverride
  split
  · exact h
  · exact ite (fun _ => handIfChanged h.rest) fun _ => h.resolve

theorem endOverride (h : MarksSound s) {z : Nat} : MarksSound (s.endOverride z) := resolve h.rest

/-! ### Shades (chapter 7) -/

theorem offerShade (h : MarksSound s) {c : GearCmd} {v i : Nat} : MarksSound (s.offerShade c v i) := by
  unfold State.offerShade
  split
  · exact h
  · exact h.offer

theorem offerGoto (h : MarksSound s) {seg i : Nat} : MarksSound (s.offerGoto seg i) := by
  unfold State.offerGoto
  split
  · exact h.offerShade
  · exact h

theorem setShadeHolds (h : MarksSound s) {seg : Nat} {on : Bool} : MarksSound (s.setShadeHolds seg on) :=
  h.forEach fun _ _ _ hs => hs.setShadeHold

theorem endSettle (h : MarksSound s) {seg : Nat} : MarksSound (s.endSettle seg) := setShadeHolds h.rest

theorem enterSettling (h : MarksSound s) {seg : Nat} : MarksSound (s.enterSettling seg) :=
  ite (fun _ => endSettle h.rest) fun _ => h.rest

theorem arrivalTest (h : MarksSound s) {seg : Nat} : MarksSound (s.arrivalTest seg) :=
  ite (fun _ => h.enterSettling) fun _ => h

theorem endTravel (h : MarksSound s) {seg : Nat} {st : ShadeState} : MarksSound (s.endTravel seg st) := setShadeHolds h.rest

theorem faultTest (h : MarksSound s) {seg : Nat} : MarksSound (s.faultTest seg) := ite (fun _ => h.endTravel) fun _ => h

theorem faultGear (h : MarksSound s) {l : List Nat} : MarksSound (s.faultGear l) :=
  latchIf (h.forEach fun _ _ _ hs => hs.modGear)

theorem faultAndTest (h : MarksSound s) {seg : Nat} {l : List Nat} : MarksSound (s.faultAndTest seg l) :=
  h.faultGear.arrivalTest.faultTest

theorem sendTarget (h : MarksSound s) {seg : Nat} : MarksSound (s.sendTarget seg) :=
  h.forEach fun _ _ _ hs => hs.offerGoto

theorem startTravel (h : MarksSound s) {seg : Nat} : MarksSound (s.startTravel seg) := by
  unfold State.startTravel
  exact (sendTarget (forEach h.rest fun _ _ _ hs => hs.modGear)).setShadeHolds.count.arrivalTest

theorem redirect (h : MarksSound s) {seg : Nat} : MarksSound (s.redirect seg) := by
  unfold State.redirect
  have counted : MarksSound (Machine.forEach ((s.sendTarget seg).activeGear seg)
      (fun i s => s.modGear i fun g => { g with unchanged := 0 }) (s.sendTarget seg)) :=
    h.sendTarget.forEach fun _ _ _ hs => hs.modGear
  exact arrivalTest counted.rest

theorem setTarget (h : MarksSound s) {seg p : Nat} : MarksSound (s.setTarget seg p) := by
  unfold State.setTarget
  have stored : MarksSound (s.modSegment seg fun g => { g with target := some p }) := h.rest
  dsimp only
  split
  · exact ite (fun _ => stored.startTravel) fun _ => stored
  · exact stored.redirect
  · exact ite (fun _ => stored.startTravel) fun _ => stored
  · exact stored

theorem stall (h : MarksSound s) {seg i : Nat} : MarksSound (s.stall seg i) := by
  unfold State.stall
  exact ite (fun _ => modGear h.count.offerGoto) fun _ => h.count.faultAndTest

theorem queryCount (h : MarksSound s) {seg i : Nat} {before : Option Nat} {r : Option Nat} :
    MarksSound (s.queryCount seg i before r) := by
  unfold State.queryCount
  refine ite (fun _ => h.modGear) fun _ => ite (fun _ => ?_) fun _ => h.modGear
  exact ite (fun _ => stall h.modGear) fun _ => h.modGear

theorem shadeAnswer (h : MarksSound s) {seg i : Nat} {c : GearCmd} {before : Option Nat} :
    MarksSound (s.shadeAnswer seg i c before) := by
  unfold State.shadeAnswer
  split
  · exact h
  · refine ite (fun _ => arrivalTest ?_) fun _ => h
    split
    · exact h.modGear
    · exact h.queryCount
    · exact h

theorem shadeSilent (h : MarksSound s) {seg i : Nat} : MarksSound (s.shadeSilent seg i) :=
  ite (fun _ => h.faultAndTest) fun _ => h

theorem shadeLineLeft (h : MarksSound s) {l : Nat} : MarksSound (s.shadeLineLeft l) := by
  refine h.modLineGear (fun g => ?_) fun g hg => ?_
  · split
    · rfl
    · rfl
  · split
    · exact hg
    · exact hg

theorem gearLeftGroup (h : MarksSound s) {seg : Nat} : MarksSound (s.gearLeftGroup seg) :=
  ite (fun _ => h.endTravel) fun _ => h.faultTest.arrivalTest

theorem glareExpire (h : MarksSound s) {seg : Nat} : MarksSound (s.glareExpire seg) := by
  unfold State.glareExpire
  split
  · exact setTarget h.rest
  · exact setTarget h.rest
  · exact h
  · exact h

theorem applyDelay (h : MarksSound s) {seg : Nat} : MarksSound (s.applyDelay seg) := by
  unfold State.applyDelay
  dsimp only
  split
  · exact h
  · refine ite (fun _ => h) fun _ => ?_
    exact ite (fun _ => glareExpire h.rest) fun _ => h.rest

theorem windowReading (h : MarksSound s) {seg w : Nat} : MarksSound (s.windowReading seg w) :=
  ite (fun _ => h) fun _ => rest h.applyDelay

theorem noticeWindow (h : MarksSound s) {i : Nat} : MarksSound (s.noticeWindow i) := by
  unfold State.noticeWindow
  split
  · exact h
  · exact h.forEach fun _ _ _ hs => hs.windowReading

theorem recomputeGlare (h : MarksSound s) {seg : Nat} : MarksSound (s.recomputeGlare seg) := by
  unfold State.recomputeGlare
  dsimp only
  split
  · exact ite (fun _ => h.rest) fun _ => h.rest
  · exact h.rest

theorem resumeGlare (h : MarksSound s) : MarksSound s.resumeGlare := h.forEach fun _ _ _ hs => hs.recomputeGlare

theorem returnToAuto (h : MarksSound s) {seg : Nat} : MarksSound (s.returnToAuto seg) :=
  ite (fun _ => h.rest) fun _ => recomputeGlare h.rest

theorem stopShades (h : MarksSound s) {seg : Nat} : MarksSound (s.stopShades seg) := by
  unfold State.stopShades
  have offered := forEach (s := s.modSegment seg fun g => { g with target := none }) (l := State.activeGear (s.modSegment seg fun g =>
    { g with target := none }) seg) (f := State.offerShade .shadeStop 0) h.rest fun _ _ _ hs => hs.offerShade
  exact ite (fun _ => offered.enterSettling) fun _ => offered

theorem shadeAct (h : MarksSound s) {seg : Nat} {a : ShadeAction} {p d : Nat} : MarksSound (s.shadeAct seg a p d) := by
  cases a
  · exact setTarget h.rest
  · exact stopShades h.rest
  · exact ite (fun _ => h.returnToAuto) fun _ => h

theorem leaveFaulted (h : MarksSound s) {seg : Nat} : MarksSound (s.leaveFaulted seg) := by
  unfold State.leaveFaulted
  have recomputed : MarksSound (if (s.segment seg).manual then s else s.recomputeGlare seg) :=
    ite (fun _ => h) fun _ => h.recomputeGlare
  dsimp only
  split
  · exact recomputed.setTarget
  · exact recomputed

theorem clearShadeFault (h : MarksSound s) {seg : Nat} : MarksSound (s.clearShadeFault seg) := by
  unfold State.clearShadeFault
  have cleared : MarksSound (s.clearGroupFaults seg) := h.forEach fun _ _ _ hs => hs.modGear
  dsimp only
  split
  · exact ite (fun _ => cleared.rest) fun _ => leaveFaulted cleared.rest
  · exact cleared.forEach fun _ _ _ hs => hs.offerGoto
  · exact cleared
  · exact cleared

/-! ### The sweep (chapter 5) -/

theorem settledCheck (h : MarksSound s) : MarksSound s.settledCheck := by
  unfold State.settledCheck
  split
  · exact ite (fun _ => h.rest) fun _ => h
  · exact ite (fun _ => h.rest) fun _ => h
  · exact ite (fun _ => h.rest) fun _ => h
  · exact h

theorem releaseZones (h : MarksSound s) : MarksSound s.releaseZones := by
  unfold State.releaseZones
  exact ((h.forEach fun _ _ _ hs => hs.resolve).forEach fun _ _ _ hs => hs.setCalHold).resumeGlare

theorem modSweep (h : MarksSound s) {f : Sweep → Sweep} : MarksSound (s.modSweep f) := h.rest

theorem latch (h : MarksSound s) {f : Flag} : MarksSound (s.latch f) := h.rest

theorem setCalResult (h : MarksSound s) {z : Nat} {r : CalResult} : MarksSound (s.setCalResult z r) := h.rest

theorem finishSweep (h : MarksSound s) : MarksSound s.finishSweep := h.modSweep.releaseZones.latch

theorem abortSweep (h : MarksSound s) {c : AbortCause} : MarksSound (s.abortSweep c) := by
  unfold State.abortSweep
  dsimp only
  split
  · exact h.setCalResult.modSweep.releaseZones.latch
  · exact h.modSweep.releaseZones.latch

theorem sweepLineLeft (h : MarksSound s) {l : Nat} : MarksSound (s.sweepLineLeft l) :=
  ite (fun _ => h.abortSweep) fun _ => h

theorem darkWrite (h : MarksSound s) : MarksSound s.darkWrite := by
  unfold State.darkWrite
  refine modSweep ?_
  generalize s.sweep.measured.filterMap _ = valid
  induction valid generalizing s with
  | nil => exact h
  | cons v valid ih => exact ih h.rest

theorem stepOn (h : MarksSound s) {z : Nat} : MarksSound (s.stepOn z) := h.modSweep.askLevel.settledCheck

theorem stepOff (h : MarksSound s) : MarksSound s.stepOff := by
  unfold State.stepOff
  refine settledCheck ?_
  split
  · exact h.modSweep.askLevel
  · exact h.modSweep

theorem endBaseRead (h : MarksSound s) : MarksSound s.endBaseRead := by
  unfold State.endBaseRead
  have measured : MarksSound (s.modSweep fun w => { w with measured := w.measured.map fun m => { m with base := m.coll.value } }) :=
    h.modSweep
  dsimp only
  generalize s.modSweep _ = t at measured
  have written : MarksSound (if t.sweep.dark then t.darkWrite else t) := ite (fun _ => measured.darkWrite) fun _ => measured
  split
  · exact written.stepOn
  · exact written.finishSweep

theorem endStepRead (h : MarksSound s) : MarksSound s.endStepRead := h.modSweep.stepOff

theorem decideZone (h : MarksSound s) {z : Nat} : MarksSound (s.decideZone z) :=
  ite (fun _ => h.setCalResult) fun _ => h.calibrationWrite.setCalResult

theorem endRestoreRead (h : MarksSound s) : MarksSound s.endRestoreRead := by
  unfold State.endRestoreRead
  split
  · exact h.finishSweep
  · dsimp only
    split
    · exact h.decideZone.modSweep.stepOn
    · exact h.decideZone.modSweep.finishSweep

theorem readCheck (h : MarksSound s) : MarksSound s.readCheck := by
  unfold State.readCheck
  refine ite (fun _ => ?_) fun _ => h
  split
  · exact h.endBaseRead
  · exact h.endStepRead
  · exact h.endRestoreRead
  · exact h

theorem enterRead (h : MarksSound s) {st : SweepState} : MarksSound (s.enterRead st) := h.modSweep.readCheck

theorem takeReport (h : MarksSound s) {l : Nat} {r : List (Nat × Nat)} : MarksSound (s.takeReport l r) := h.modSweep.readCheck

theorem startSweep (h : MarksSound s) {r : StartCalibration} : MarksSound (s.startSweep r) := by
  unfold State.startSweep
  refine settledCheck (forEach (rest (forEach (forEach (forEach h.modSweep ?_) ?_) ?_)) ?_)
  · exact fun _ _ _ hs => hs.setCalResult
  · exact fun _ _ _ hs => hs.resolve
  · exact fun _ _ _ hs => hs.setCalHold
  · exact fun _ _ _ hs => hs.askLevel

end Sys2Proof.Safety.MarksSound
end

section
/-! PROOFS. The marks of a line out of service, kept by the events of the gear lines and of the sensor lines. -/

namespace Sys2Proof.Safety.MarksSound

open Sys2Proof.Machine

variable {s t : State}

set_option Elab.async false

/-! ### Gear lines (chapter 6) -/

theorem lineOut (h : MarksSound s) (hr : s.running = true) {l : Nat} {d : LineState} : MarksSound (s.lineOut l d) :=
  have left : MarksSound ((s.lineLeaves l d).latchIf (decide (d = .down)) .lineDown) := latchIf (h.lineLeaves hr)
  ite (fun _ => left.shadeLineLeft.sweepLineLeft) fun _ => left

theorem takeSupply (h : MarksSound s) {l : Nat} : MarksSound (s.takeSupply l) := by
  unfold State.takeSupply
  have taken : MarksSound (s.modGearLine l fun x => { x with supply := (s.gearLine l).supplyRaw, supplyDebounce := none }) :=
    h.modLine
  generalize hraw : (s.gearLine l).supplyRaw = present at taken ⊢
  dsimp only
  generalize s.modGearLine l _ = t at taken ⊢
  have running (hl : (t.gearLine l).state ≠ .off) : t.running = true := taken.running_of_line hl
  split
  · next hl => exact taken.lineOut (running (by rw [hl]; nofun))
  · next hl => exact taken.lineOut (running (by rw [hl]; nofun))
  · next hl => exact taken.lineOut (running (by rw [hl]; nofun))
  · next hl => exact taken.lineStarting (running (by rw [hl]; nofun)) (by rw [hl]; nofun)
  · exact taken

theorem modHead (h : MarksSound s) {l : Nat} {f : Entry → Entry} : MarksSound (s.modHead l f) := h.modLine

theorem popHead (h : MarksSound s) {l : Nat} : MarksSound (s.popHead l) := h.modLine

theorem countFrame (h : MarksSound s) {l : Nat} {e : Entry} : MarksSound (s.countFrame l e) := by
  have grouped : MarksSound (if e.target.isGroup then (s.count (.frames l)).count (.groupFrames l) else s.count (.frames l)) :=
    ite (fun _ => h.count.count) fun _ => h.count
  exact ite (fun _ => grouped.count) fun _ => grouped

theorem afterEvent (h : MarksSound s) {l : Nat} : MarksSound (s.afterEvent l) := h.tendLine.settledCheck

theorem silentShade (h : MarksSound s) {i : Nat} {g : Gear} : MarksSound (s.silentShade i g) := by
  unfold State.silentShade
  split
  · exact h
  · exact h.shadeSilent

theorem goSilent (h : MarksSound s) {i : Nat} : MarksSound (s.goSilent i) := by
  unfold State.goSilent
  split
  · exact h
  · next g _ =>
    have silent : MarksSound ((s.dropEntries g.cfg.line fun e => !e.inFlight && decide (e.target = .gear i)).modGear i fun g =>
        { g with state := .silent, dirty := .clear, trimPending := false }) :=
      h.dropEntries.modGear (hmark := fun _ _ => ⟨rfl, rfl⟩)
    exact ite (fun _ => silent) fun _ => silent.latch.count.refreshGearOutput.silentShade

theorem failHead (h : MarksSound s) {l : Nat} {e : Entry} : MarksSound (s.failHead l e) := by
  unfold State.failHead
  refine ite (fun _ => h.popHead) fun _ => ite (fun _ => h.modHead) fun _ => ?_
  split
  · exact h.popHead.goSilent
  · exact h.popHead

theorem attemptLost (h : MarksSound s) {l : Nat} : MarksSound (s.attemptLost l) := by
  unfold State.attemptLost
  split
  · exact ite (fun _ => h) fun _ => h.failHead.afterEvent
  · exact h

theorem answering (h : MarksSound s) {i : Nat} {g : Gear} : MarksSound (s.answering i g) := by
  have present : MarksSound (s.modGear i fun g => { g with state := .present }) := h.modGear
  have marked := ite (c := g.state = .silent) (fun _ => present.markSetup (i := i)) fun _ => present
  exact ite (fun _ => marked) fun _ => marked.refreshGearOutput

theorem auditCompare (h : MarksSound s) {l i : Nat} {d : Byte} : MarksSound (s.auditCompare l i d) := by
  unfold State.auditCompare
  split
  · exact h
  · exact ite (fun _ => h.count.markValue) fun _ => h

theorem answered_unmarked {g : Gear} (h : Unmarked g) (c : GearCmd) (d st : Byte) :
    Unmarked (g.answered c d st) := by
  unfold Gear.answered
  split
  · exact h
  · split
    · exact h
    · exact h

theorem takeAnswer (h : MarksSound s) {l i : Nat} {g : Gear} {e : Entry} {d st : Byte} :
    MarksSound (s.takeAnswer l i g e d st) := by
  unfold State.takeAnswer
  have recorded : MarksSound (((s.answering i g).modGear i (Gear.answered e.cmd d st)).latchIf
      (g.isDriver && st.getLsbD 0 && !g.lampFail) .lampFail) :=
    latchIf (h.answering.modGear (hline := fun x => congrArg GearDef.line (Moves.answered_cfg e.cmd d st x))
      (hmark := fun _ hx => answered_unmarked hx e.cmd d st))
  dsimp only
  generalize State.latchIf _ _ _ = t at recorded ⊢
  have handed : MarksSound (match g.cfg.role with
      | .driver _ => t
      | .shade seg => t.shadeAnswer seg i e.cmd g.position) := by
    split
    · exact recorded
    · exact recorded.shadeAnswer
  exact ite (fun _ => handed.auditCompare) fun _ => handed

theorem succeedHead (h : MarksSound s) {l : Nat} {e : Entry} : MarksSound (s.succeedHead l e) := by
  unfold State.succeedHead
  split
  · exact h.modHead
  · exact h.popHead

theorem endAttempt (h : MarksSound s) {l i : Nat} {g : Gear} {e : Entry} {d st c : Byte} {x : Bool} :
    MarksSound (s.endAttempt l i g e d st c x) :=
  ite (fun _ => ite (fun _ => h.takeAnswer.count.failHead) fun _ => h.takeAnswer.succeedHead) fun _ => h.failHead

theorem auditVisit (h : MarksSound s) {l : Nat} : MarksSound (s.auditVisit l) := by
  unfold State.auditVisit
  split
  · exact h
  · split
    · exact h
    · exact h.modLine.offer

/-! ### Sensor lines (chapter 2) -/

theorem modSensorLine (h : MarksSound s) {l : Nat} {f : SensorLine → SensorLine} : MarksSound (s.modSensorLine l f) := h.rest

theorem modSensor (h : MarksSound s) {i : Nat} {f : Sensor → Sensor} : MarksSound (s.modSensor i f) := h.rest

theorem beginTxn (h : MarksSound s) {l i : Nat} : MarksSound (s.beginTxn l i) := h.modSensorLine

theorem openCycle (h : MarksSound s) {l : Nat} : MarksSound (s.openCycle l) := h.modSensorLine

theorem completeCycle (h : MarksSound s) {l : Nat} : MarksSound (s.completeCycle l) :=
  h.modSensorLine.evaluateLine.accrueLine.takeReport

theorem startCycle (h : MarksSound s) {l : Nat} : MarksSound (s.startCycle l) := by
  unfold State.startCycle
  dsimp only
  split
  · exact h.openCycle.beginTxn
  · exact h.openCycle.completeCycle

theorem continueCycle (h : MarksSound s) {l : Nat} : MarksSound (s.continueCycle l) := by
  unfold State.continueCycle
  split
  · exact h.beginTxn
  · exact ite (fun _ => h.completeCycle.startCycle) fun _ => h.completeCycle

theorem grantSL0 (h : MarksSound s) : MarksSound s.grantSL0 := h.modSensorLine.modLoader

theorem releaseSL0 (h : MarksSound s) : MarksSound s.releaseSL0 :=
  ite (fun _ => ite (fun _ => h.modSensorLine.continueCycle) fun _ => ite (fun _ => h.startCycle) fun _ => h.modSensorLine)
    fun _ => h

theorem afterTxn (h : MarksSound s) {l : Nat} : MarksSound (s.afterTxn l) := ite (fun _ => h.grantSL0) fun _ => h.continueCycle

theorem goodReading (h : MarksSound s) {l i : Nat} {x : Sensor} {r c : Nat} {o : Bool} :
    MarksSound (s.goodReading l i x r c o) := by
  unfold State.goodReading
  have read : MarksSound (s.modSensor i fun x => (x.takeReading s.tick r c o).goodState) := h.modSensor
  dsimp only
  generalize s.modSensor i _ = t at read ⊢
  have reported : MarksSound (match t.sensor i with
      | some y => t.modSensorLine l fun n => { n with report := n.report ++ [(i, y.lux)] }
      | none => t) := by
    split
    · exact read.modSensorLine
    · exact read
  split
  · exact reported
  · exact ite (fun _ => reported.processReading.noticeWindow) fun _ => reported.processReading

theorem miss (h : MarksSound s) {l i : Nat} {x : Sensor} : MarksSound (s.miss l i x) :=
  have missed : MarksSound ((s.modSensor i fun _ => x.missed (s.sensorLine l).missLimit).count (.misses i)) := h.modSensor.count
  ite (fun _ => missed.latch.resolveZonesOf) fun _ => missed

theorem applyOutcome (h : MarksSound s) {l i : Nat} {o : TxnOutcome} : MarksSound (s.applyOutcome l i o) := by
  unfold State.applyOutcome
  split
  · exact h
  · split
    · exact h.goodReading
    · exact h.miss
    · exact h.miss
    · exact h.miss

theorem endTxn (h : MarksSound s) {l : Nat} {o : TxnOutcome} : MarksSound (s.endTxn l o) := by
  unfold State.endTxn
  split
  · exact h
  · exact afterTxn (ite (fun _ => h.modSensorLine) fun _ => h.modSensorLine.applyOutcome)

theorem startScanner (h : MarksSound s) {l : Nat} : MarksSound (s.startScanner l) := ite (fun _ => h.startCycle) fun _ => h

end Sys2Proof.Safety.MarksSound
end

section
/-! PROOFS. The marks of a line out of service, kept by the floor model's requests, the lines' parameters and the Image Loader. -/

namespace Sys2Proof.Machine

open Sys2Proof.Safety

set_option Elab.async false

/-! ### What a recomputation of OUTPUT_LOST and a resolution leave alone -/

theorem State.refreshOutput_lines (s : State) (z : Nat) :
    (s.refreshOutput z).gearLines = s.gearLines ∧ (s.refreshOutput z).loader = s.loader := by
  unfold State.refreshOutput
  split
  · exact ⟨rfl, rfl⟩
  · exact ⟨State.latchIf_gearLines .., State.latchIf_loader ..⟩

theorem State.refreshLineOutput_lines (s : State) (l : Nat) :
    (s.refreshLineOutput l).gearLines = s.gearLines ∧ (s.refreshLineOutput l).loader = s.loader :=
  forEach_keeps (P := fun t => t.gearLines = s.gearLines ∧ t.loader = s.loader) _ _ (fun z _ t ht =>
    ⟨(t.refreshOutput_lines z).1.trans ht.1, (t.refreshOutput_lines z).2.trans ht.2⟩) ⟨rfl, rfl⟩

theorem State.countBy_lines (s : State) (k : Counter) (n : Nat) :
    (s.countBy k n).gearLines = s.gearLines ∧ (s.countBy k n).loader = s.loader :=
  ⟨State.latchIf_gearLines .., State.latchIf_loader ..⟩

theorem State.accrueOverride_lines (s : State) (z : Nat) (m : Option Tick) :
    (s.accrueOverride z m).gearLines = s.gearLines ∧ (s.accrueOverride z m).loader = s.loader := by
  unfold State.accrueOverride
  split
  · exact ⟨rfl, rfl⟩
  · exact State.countBy_lines ..

theorem State.resolveHeld_lines (s : State) (z : Nat) :
    (s.resolveHeld z).gearLines = s.gearLines ∧ (s.resolveHeld z).loader = s.loader := by
  unfold State.resolveHeld
  split
  · exact ⟨rfl, rfl⟩
  · next x _ =>
    dsimp only
    generalize hu : (if s.resolved z x = .fallback then
      s.modZone z fun y => { y with fallbackReason := s.fallbackReasonOf z x } else s) = u
    have reasoned : u.gearLines = s.gearLines ∧ u.loader = s.loader := by
      rw [← hu]
      split
      · exact ⟨rfl, rfl⟩
      · exact ⟨rfl, rfl⟩
    split
    · exact reasoned
    · generalize hv : (if x.state = .override then u.accrueOverride z none else u) = v
      have accrued : v.gearLines = s.gearLines ∧ v.loader = s.loader := by
        rw [← hv]
        split
        · exact ⟨(u.accrueOverride_lines z none).1.trans reasoned.1, (u.accrueOverride_lines z none).2.trans reasoned.2⟩
        · exact reasoned
      rw [State.latchIf_gearLines, State.latchIf_loader]
      split
      · exact accrued
      · exact accrued

/-- A device that is RUNNING with no line UP, as at the entry into RUNNING (R136). -/
structure RisingLines (s : State) : Prop where
  marks : MarksSound s
  running : s.running = true
  down : ∀ x ∈ s.gearLines, x.state ≠ .up

theorem RisingLines.of_lines {s t : State} (h : RisingLines s) (ht : MarksSound t)
    (hl : t.gearLines = s.gearLines ∧ t.loader = s.loader) : RisingLines t :=
  ⟨ht, by rw [State.running, hl.2]; exact h.running, by rw [hl.1]; exact h.down⟩

theorem RisingLines.not_up {s : State} (h : RisingLines s) (l : Nat) : (s.gearLine l).state ≠ .up := by
  obtain ⟨x, hx, -, hxl⟩ | ⟨-, hxl⟩ := s.gearLine_eq l
  · rw [hxl]; exact h.down x hx
  · rw [hxl]; nofun

/-- A line that comes up is STARTING or DOWN. -/
theorem RisingLines.lineComesUp {s : State} (h : RisingLines s) (l : Nat) : RisingLines (s.lineComesUp l) := by
  have moved {f : GearLine → GearLine} (hf : ∀ x, (f x).state ≠ .up) : ∀ x ∈ (s.modGearLine l f).gearLines, x.state ≠ .up := by
    intro x hx
    obtain hx | ⟨y, -, rfl⟩ := Moves.mem_modify hx
    · exact h.down x hx
    · exact hf y
  have marks := h.marks.lineComesUp h.running (h.not_up l)
  unfold State.lineComesUp at marks ⊢
  split at marks
  · next hs =>
    rw [if_pos hs]
    obtain ⟨hl, hk⟩ := State.refreshLineOutput_lines ((s.modGearLine l fun x =>
      { x with state := .starting, queue := [], settle := some (s.startTimer 600) }).modLineGear l fun g =>
      { g with state := .unknown, lampFail := false, confirmed := none }) l
    refine ⟨marks, ?_, ?_⟩
    · rw [State.lineStarting, State.running, hk]; exact h.running
    · rw [State.lineStarting, hl]; exact moved fun _ => by nofun
  · next hs =>
    rw [if_neg hs]
    obtain ⟨hl, hk⟩ := State.refreshLineOutput_lines ((s.modGearLine l fun x =>
      { x with state := .down, queue := [] }).latch .lineDown) l
    refine ⟨marks, ?_, ?_⟩
    · rw [State.running, hk]; exact h.running
    · rw [hl]; exact moved fun _ => by nofun

end Sys2Proof.Machine

namespace Sys2Proof.Safety.MarksSound

open Sys2Proof.Machine

variable {s t : State}

set_option Elab.async false

/-! ### The floor model (chapter 1) -/

theorem setSensor (h : MarksSound s) {i : Nat} {o : Option Sensor} : MarksSound (s.setSensor i o) := h.rest

theorem modZone (h : MarksSound s) {z : Nat} {f : Zone → Zone} : MarksSound (s.modZone z f) := h.rest

theorem storeSensor (h : MarksSound s) {i : Nat} {x : Sensor} : MarksSound (s.storeSensor i x) := by
  unfold State.storeSensor
  split
  · exact h.setSensor
  · next old _ =>
    dsimp only
    have stored : MarksSound (s.setSensor i (some (Sensor.redefine (some old) x))) := h.setSensor
    have discarded : MarksSound (if !old.sameIdentity x || (old.enabled && !x.enabled) then
        (s.setSensor i (some (Sensor.redefine (some old) x))).discardTxn i
        else s.setSensor i (some (Sensor.redefine (some old) x))) := ite (fun _ => stored.rest) fun _ => stored
    exact ite (fun _ => discarded.resolveZonesOf) fun _ => discarded

theorem regroupLine (h : MarksSound s) {z l : Nat} : MarksSound (s.regroupLine z l) := by
  refine tendLine (forEach (ite (fun _ => h.forEach fun i _ t ht => ?_) fun _ => h) fun _ _ _ ht => ht.markSetup)
  exact ht.modGear (hmark := fun _ hm => ⟨hm.1, rfl⟩)

theorem deriveOccupancy (h : MarksSound s) {z : Nat} : MarksSound (s.deriveOccupancy z) := h.modZone

theorem storeNewZone (h : MarksSound s) {z : Nat} {d : ZoneDef} : MarksSound (s.storeNewZone z d) :=
  have stored : MarksSound (s.setZone z (some (Zone.fresh d (s.shading d.segment)))) := h.rest
  stored.deriveOccupancy.resolveHeld.handLevel

theorem storeOldZone (h : MarksSound s) {z : Nat} {x : Zone} {d : ZoneDef} : MarksSound (s.storeOldZone z x d) := by
  have stored : MarksSound (s.modZone z (Zone.redefine d (s.shading d.segment))) := h.modZone
  have occupied := ite (c := x.cfg.occInput ≠ d.occInput) (fun _ => stored.deriveOccupancy (z := z)) fun _ => stored
  have regrouped := occupied.forEach (l := groupChanges x.cfg d) (f := State.regroupLine z) fun _ _ _ ht => ht.regroupLine
  exact ite (fun _ => regrouped.resolveAndHand) fun _ => handIfChanged (ite (fun _ => regrouped.resolveHeld) fun _ => regrouped)

theorem storeZone (h : MarksSound s) {z : Nat} {d : ZoneDef} : MarksSound (s.storeZone z d) := by
  unfold State.storeZone
  split
  · exact h.storeNewZone
  · exact h.storeOldZone

theorem deleteZone (h : MarksSound s) {z : Nat} : MarksSound (s.deleteZone z) := rest h.accrueOverride

theorem storeSegment (h : MarksSound s) {seg : Nat} {d : SegmentDef} : MarksSound (s.storeSegment seg d) :=
  ite (fun _ => h.rest) fun _ => forEach h.rest fun _ _ _ ht => ht.rest

theorem abandonEntries (h : MarksSound s) {l i : Nat} : MarksSound (s.abandonEntries l i) := h.modLine

theorem regroupGear (h : MarksSound s) {a b : Option Gear} : MarksSound (s.regroupGear a b) := by
  have left {t : State} (ht : MarksSound t) (o p : Option Nat) : MarksSound (match o with
      | some seg => if p = some seg then t else t.gearLeftGroup seg
      | none => t) := by
    split
    · exact ite (fun _ => ht) fun _ => ht.gearLeftGroup
    · exact ht
  cases a with
  | none =>
    cases b with
    | none => exact h
    | some y => exact h.refreshGearOutput
  | some x =>
    cases b with
    | none => exact left h.refreshGearOutput x.segment? none
    | some y => exact left h.refreshGearOutput.refreshGearOutput x.segment? y.segment?

theorem rekind_unmarked {g : Gear} (d : GearDef) (moving : Bool) (h : Unmarked g) : Unmarked (g.rekind d moving) := by
  unfold Gear.rekind
  dsimp only
  split
  · exact h
  · split
    · exact h
    · exact h

theorem rekind_cfg (d : GearDef) (moving : Bool) (g : Gear) : (g.rekind d moving).cfg = d := by
  unfold Gear.rekind
  dsimp only
  split
  · rfl
  · split
    · rfl
    · rfl

theorem storeSameGear (h : MarksSound s) {i : Nat} {g : Gear} {d : GearDef} (hg : s.gearAt i = some g)
    (hline : g.cfg.line = d.line) : MarksSound (s.storeSameGear i g d) := by
  have stored : MarksSound (s.setGear i (some (g.rekind d (s.joinsMoving d)))) := by
    refine h.setGear fun g' hg' hup => ?_
    cases hg'
    rw [rekind_cfg, ← hline] at hup
    exact rekind_unmarked d _ (h.gear i g hg hup)
  exact ite (fun _ => stored.regroupGear.markSetup.tendLine) fun _ => ite (fun _ => stored.regroupGear.markValue.tendLine)
    fun _ => stored.regroupGear

theorem setFreshGear (h : MarksSound s) {i : Nat} {d : GearDef} : MarksSound (s.setGear i (some (Gear.fresh d))) :=
  h.setGear fun _ hg _ => by cases hg; exact ⟨rfl, rfl⟩

theorem storeGear (h : MarksSound s) {i : Nat} {d : GearDef} : MarksSound (s.storeGear i d) := by
  unfold State.storeGear
  dsimp only
  split
  · exact h.setFreshGear.regroupGear.markSetup.tendLine
  · next g hg =>
    exact ite (fun same => h.storeSameGear hg same.1) fun _ =>
      h.abandonEntries.setFreshGear.regroupGear.markSetup.tendLine.tendLine

theorem deleteGear (h : MarksSound s) {i : Nat} : MarksSound (s.deleteGear i) := by
  unfold State.deleteGear
  split
  · exact h
  · exact (h.abandonEntries.setGear (o := none) fun _ hg => by cases hg).regroupGear.tendLine

theorem remarkCurve (h : MarksSound s) {i : Nat} : MarksSound (s.remarkCurve i) := by
  unfold State.remarkCurve
  split
  · exact h
  · exact ite (fun _ => h) fun _ => h.markValue

theorem storeCurve (h : MarksSound s) {c : Nat} {p : List Nat} : MarksSound (s.storeCurve c p) :=
  have stored : MarksSound { s with curves := s.curves.set c p } := h.rest
  tendLines (stored.forEach fun _ _ _ ht => ht.remarkCurve)

/-! ### The gear lines' parameters and control (chapter 6) -/

theorem setGearLineParams (h : MarksSound s) {r : SetGearLine} : MarksSound (s.setGearLineParams r) := by
  unfold State.setGearLineParams
  exact h.modLine.highCheck.tendLine

theorem controlLine (h : MarksSound s) (hr : s.running = true) {l : Nat} {a : LineAction} : MarksSound (s.controlLine l a) := by
  have enabled (v : Bool) : MarksSound (s.modGearLine l fun x => { x with enabled := v }) := h.modLine
  have state (v : Bool) : ((s.modGearLine l fun x => { x with enabled := v }).gearLine l).state = (s.gearLine l).state := by
    rw [State.gearLine_modGearLine]
    split
    · rfl
    · rfl
  unfold State.controlLine
  split
  · next hl => exact ((enabled true).lineComesUp hr (by rw [state, hl]; nofun)).settledCheck
  · exact h
  · exact h
  · exact ((enabled false).lineOut hr).settledCheck
  · exact h
  · exact h
  · exact (h.lineOut hr).settledCheck
  · next hl => exact (h.lineComesUp hr (by rw [hl]; nofun)).settledCheck
  · exact h

/-! ### The Image Loader (chapter 11) -/

theorem firstOutput (h : MarksSound s) : MarksSound s.firstOutput := h.forEach fun _ _ _ ht => ht.modZone

/-- The entry into RUNNING, from a device whose lines are OFF (R136, R195). -/
theorem enterRunning (h : MarksSound s) (hr : s.running = false) (hload : s.loader.load = none) : MarksSound s.enterRunning := by
  have entered : RisingLines (s.modLoader fun k => { k with device := .running }) :=
    ⟨⟨h.gear, h.lines, nofun, fun hl => absurd (show s.loader.load.isSome = true from hl) (by rw [hload]; nofun)⟩, rfl,
      fun x hx hup => by rw [h.off hr x hx] at hup; cases hup⟩
  have occupied := forEach_keeps ((s.modLoader fun k => { k with device := .running }).zonesWhere fun _ => true)
    State.deriveOccupancy (fun _ _ t (ht : RisingLines t) => ht.of_lines ht.marks.deriveOccupancy ⟨rfl, rfl⟩) entered
  have output {t : State} (ht : RisingLines t) : RisingLines t.firstOutput :=
    forEach_keeps _ _ (fun _ _ u (hu : RisingLines u) => hu.of_lines hu.marks.modZone ⟨rfl, rfl⟩) ht
  have resolved := forEach_keeps ((s.modLoader fun k => { k with device := .running }).zonesWhere fun _ => true)
    State.resolveHeld (fun z _ t (ht : RisingLines t) => ht.of_lines ht.marks.resolveHeld (t.resolveHeld_lines z)) (output occupied)
  have up {t : State} (ht : RisingLines t) (lines : List Nat) : RisingLines (Machine.forEach lines State.lineComesUp t) :=
    forEach_keeps _ _ (fun l _ _ hu => hu.lineComesUp l) ht
  exact (up resolved _).marks.startScanner.startScanner

theorem latchOutcome (h : MarksSound s) {o : LoadOutcome} : MarksSound (s.latchOutcome o) := by cases o <;> exact h.rest

theorem latchOutcome_loader (s : State) (o : LoadOutcome) : (s.latchOutcome o).loader = s.loader := by cases o <;> rfl

/-- The end of a load, with its report (R194, R195). -/
theorem endLoad (h : MarksSound s) (hr : s.running = false) {f : Loader → Loader}
    (hd : (f s.loader).device = s.loader.device) (hk : (f s.loader).load = none) {o : LoadOutcome} :
    MarksSound (((s.modLoader f).latchOutcome o).enterRunning) := by
  have ended : MarksSound (s.modLoader f) := h.modLoader hd fun hl => by rw [hk] at hl; cases hl
  refine ended.latchOutcome.enterRunning ?_ ?_
  · rw [State.running, latchOutcome_loader, ← hr, State.running, ← hd]
    rfl
  · rw [latchOutcome_loader]; exact hk

theorem endWithDefaults (h : MarksSound s) (hr : s.running = false) {o : LoadOutcome} : MarksSound (s.endWithDefaults o) := by
  refine h.endLoad hr ?_ ?_
  · rfl
  · rfl

theorem endWithImage {m : RawImage} (hm : MarksSound (s.withImage m)) (hr : s.running = false) {o : LoadOutcome} {slot g : Nat} : MarksSound (s.endWithImage o slot g m) := by
  refine hm.endLoad hr ?_ ?_
  · rfl
  · rfl

theorem loadGoesOn (h : MarksSound s) (hr : s.running = false) {j : LoadJob} :
    MarksSound (s.modLoader fun k => { k with load := some j }) :=
  ⟨h.gear, h.lines, h.off, fun _ => hr⟩

theorem readPage (h : MarksSound s) (hr : s.running = false) {slot page : Nat} {j : LoadJob} :
    MarksSound (s.readPage slot page j) := h.loadGoesOn hr

theorem chooseSlot (h : MarksSound s) (hr : s.running = false) {j : LoadJob} : MarksSound (s.chooseSlot j) := by
  unfold State.chooseSlot
  split
  · exact h.endWithDefaults hr
  · exact h.readPage hr

theorem headerFound (h : MarksSound s) (hr : s.running = false) {f : SlotFinding} {j : LoadJob} :
    MarksSound (s.headerFound f j) := ite (fun _ => h.readPage hr) fun _ => h.chooseSlot hr

theorem slotDamaged (h : MarksSound s) (hr : s.running = false) {j : LoadJob} : MarksSound (s.slotDamaged j) := by
  unfold State.slotDamaged
  split
  · exact h.endWithDefaults hr
  · exact h.readPage hr

theorem pageUnreadable (h : MarksSound s) (hr : s.running = false) {a : Bool} {j : LoadJob} :
    MarksSound (s.pageUnreadable a j) := ite (fun _ => h.headerFound hr) fun _ => h.slotDamaged hr

theorem pageFailed (h : MarksSound s) (hr : s.running = false) {a : Bool} {j : LoadJob} : MarksSound (s.pageFailed a j) :=
  ite (fun _ => h.loadGoesOn hr) fun _ => h.pageUnreadable hr

/-- An image's gear have no marks, and its lines are OFF as the part's are. -/
theorem withImage (h : MarksSound s) (hr : s.running = false) {m : RawImage} : MarksSound (s.withImage m) := by
  have lines : ∀ x ∈ (s.withImage m).gearLines, ∃ y ∈ s.gearLines, x.state = y.state ∧ x.congested = y.congested := by
    intro x hx
    obtain ⟨p, hp, rfl⟩ := List.mem_map.mp hx
    exact ⟨p.1, (List.of_mem_zip hp).1, rfl, rfl⟩
  refine ⟨fun i g hg _ => ?_, fun x hx hup => ?_, fun _ x hx => ?_, h.loading⟩
  · have hmem : some g ∈ (s.withImage m).gear := by
      rw [State.gearAt, entryAt] at hg
      exact List.mem_of_getElem? (Option.join_eq_some_iff.mp hg)
    obtain ⟨j, hj⟩ := Moves.some_mem_tableOf hmem
    obtain ⟨r, -, hr⟩ := List.mem_filterMap.mp hj
    obtain ⟨x, hx, e⟩ := Option.map_eq_some_iff.mp hr
    obtain ⟨d, -, rfl⟩ := Option.map_eq_some_iff.mp hx
    cases e
    exact ⟨rfl, rfl⟩
  · obtain ⟨y, hy, hstate, hcong⟩ := lines x hx
    rw [hcong]
    exact h.lines y hy (hstate ▸ hup)
  · obtain ⟨y, hy, hstate, -⟩ := lines x hx
    rw [hstate]
    exact h.off hr y hy

theorem bodyRead (h : MarksSound s) (hr : s.running = false) {j : LoadJob} {g c : Nat} {l : List Byte} :
    MarksSound (s.bodyRead j g c l) := by
  unfold State.bodyRead
  refine ite (fun _ => h.slotDamaged hr) fun _ => ?_
  split
  · exact h.slotDamaged hr
  · exact (h.withImage hr).endWithImage hr

theorem pageRead (h : MarksSound s) (hr : s.running = false) {l : List Byte} {j : LoadJob} : MarksSound (s.pageRead l j) := by
  unfold State.pageRead
  refine ite (fun _ => h.headerFound hr) fun _ => ?_
  split
  · exact ite (fun _ => h.bodyRead hr) fun _ => h.readPage hr
  · exact h.slotDamaged hr

theorem modSave (h : MarksSound s) {f : SaveJob → SaveJob} : MarksSound (s.modSave f) := h.modLoader

theorem endSave (h : MarksSound s) {r : SaveReport} : MarksSound (s.endSave r) := latch (releaseSL0 h.modLoader)

theorem saveSucceeds (h : MarksSound s) {j : SaveJob} : MarksSound (s.saveSucceeds j) := endSave h.modLoader

theorem saveFailed (h : MarksSound s) {a : Bool} {c : SaveFailure} {j : SaveJob} : MarksSound (s.saveFailed a c j) :=
  ite (fun _ => h.modSave) fun _ => h.endSave.latch

theorem pageVerified (h : MarksSound s) {j : SaveJob} : MarksSound (s.pageVerified j) :=
  ite (fun _ => h.modSave) fun _ => h.saveSucceeds

theorem requestSL0 (h : MarksSound s) : MarksSound s.requestSL0 := ite (fun _ => h.grantSL0) fun _ => h

theorem defaultLine (h : MarksSound s) (hr : s.running = true) {l : Nat} : MarksSound (s.defaultLine l) := by
  have tended : MarksSound (((s.modGearLine l fun x =>
      { x.toDefaults with audit := s.newAudit (s.gearLine l).auditInterval x.toDefaults }).highCheck l).tendLine l) :=
    h.modLine.highCheck.tendLine
  have moves : Moves 0 (s.modGearLine l fun x =>
      { x.toDefaults with audit := s.newAudit (s.gearLine l).auditInterval x.toDefaults }) (((s.modGearLine l fun x =>
      { x.toDefaults with audit := s.newAudit (s.gearLine l).auditInterval x.toDefaults }).highCheck l).tendLine l) :=
    .after (Moves.tendLine ..) (Moves.highCheck ..)
  refine ite (fun hoff => tended.lineComesUp ?_ (by rw [hoff]; nofun)) fun _ => tended
  rw [State.running, moves.loader_eq (by omega)]
  exact hr

theorem defaultLine_loader (s : State) (l : Nat) : (s.defaultLine l).loader = s.loader := by
  have moves : Moves 0 (s.modGearLine l fun x =>
      { x.toDefaults with audit := s.newAudit (s.gearLine l).auditInterval x.toDefaults }) (((s.modGearLine l fun x =>
      { x.toDefaults with audit := s.newAudit (s.gearLine l).auditInterval x.toDefaults }).highCheck l).tendLine l) :=
    .after (Moves.tendLine ..) (Moves.highCheck ..)
  unfold State.defaultLine
  dsimp only
  generalize State.tendLine l _ = t at moves ⊢
  have tended : t.loader = s.loader := moves.loader_eq (by omega)
  split
  · unfold State.lineComesUp
    split
    · exact (State.refreshLineOutput_lines _ l).2.trans tended
    · exact (State.refreshLineOutput_lines _ l).2.trans tended
  · exact tended

theorem defaultTables (h : MarksSound s) : MarksSound s.defaultTables := by
  refine ⟨fun i g hg _ => ?_, h.lines, h.off, h.loading⟩
  rw [State.gearAt, entryAt] at hg
  cases (List.mem_replicate.mp (List.mem_of_getElem? (Option.join_eq_some_iff.mp hg))).2

theorem loadDefaults (h : MarksSound s) (hr : s.running = true) :
    MarksSound ((Machine.forEach (List.range Config.nGearLines) State.defaultLine s.defaultTables).latch .configDefaults) :=
  latch (forEach_keeps (P := fun t => MarksSound t ∧ t.running = true) _ _ (fun l _ t ht =>
    ⟨ht.1.defaultLine ht.2, by rw [State.running, defaultLine_loader]; exact ht.2⟩) ⟨h.defaultTables, hr⟩).1

end Sys2Proof.Safety.MarksSound
end

section
/-! PROOFS. The marks of a line out of service and the capacities of the part, kept by every request, every event and the idle part. -/

namespace Sys2Proof.Machine

open Sys2Proof.Safety

/-- A service that keeps the marks sound in a device that is RUNNING. -/
def KeepsMarks (f : State → Served) : Prop := ∀ s, MarksSound s → s.running = true → MarksSound (f s).state

end Sys2Proof.Machine

namespace Sys2Proof.Safety.MarksSound

open Sys2Proof.Machine

variable {s : State}

theorem checked (h : MarksSound s) {checks : List (Bool × Result)} {carry : Served} (hc : MarksSound carry.state) :
    MarksSound (Machine.checked checks s carry).state := by
  obtain ⟨r, e⟩ | ⟨-, e⟩ := checked_cases checks s carry
  · rw [e]; exact h
  · rw [e]; exact hc

theorem accepted (h : MarksSound s) {fields : List Byte} : MarksSound (Machine.accepted fields s).state := h

theorem whenRunning (h : MarksSound s) {f : State → Served} (hf : KeepsMarks f) : MarksSound (Machine.whenRunning f s).state := by
  unfold Machine.whenRunning
  split
  · next hr => exact hf s h hr
  · exact h

theorem reply {o : ReplyOrigin} {k tag : Byte} {r : Served} (h : MarksSound r.state) : MarksSound (Machine.reply o k tag r) := h.rest

theorem clearAccumulators (h : MarksSound s) : MarksSound s.clearAccumulators := h.rest

end Sys2Proof.Safety.MarksSound

namespace Sys2Proof.Machine

open Sys2Proof.Safety

set_option Elab.async false

/-! ### The requests -/

theorem keepsMarks_defineSensor (r : DefineSensor) : KeepsMarks (serveDefineSensor r) := by
  intro s h _
  unfold serveDefineSensor
  split
  · exact h.checked h
  · exact h.checked h.storeSensor

theorem keepsMarks_setSensor (r : SetSensor) : KeepsMarks (serveSetSensor r) := by
  refine fun s h _ => h.checked ?_
  change MarksSound (match s.sensor r.index with
    | some x => s.storeSensor r.index (x.withFields r)
    | none => s)
  split
  · exact h.storeSensor
  · exact h

theorem keepsMarks_deleteSensor (i : Nat) : KeepsMarks (serveDeleteSensor i) := fun _ h _ => h.checked h.rest

theorem keepsMarks_defineZone (r : DefineZone) : KeepsMarks (serveDefineZone r) := by
  intro s h _
  unfold serveDefineZone
  split
  · exact h.checked h
  · exact h.checked h.storeZone

theorem keepsMarks_setZone (r : SetZone) : KeepsMarks (serveSetZone r) := by
  refine fun s h _ => h.checked ?_
  split
  · exact h
  · exact h.storeZone

theorem keepsMarks_deleteZone (z : Nat) : KeepsMarks (serveDeleteZone z) := fun _ h _ => h.checked h.deleteZone

theorem keepsMarks_defineSegment (r : DefineSegment) : KeepsMarks (serveDefineSegment r) := fun _ h _ =>
  h.checked h.storeSegment

theorem keepsMarks_defineGear (r : DefineGear) : KeepsMarks (serveDefineGear r) := by
  intro s h _
  unfold serveDefineGear
  split
  · exact h.checked h
  · exact h.checked h.storeGear

theorem keepsMarks_deleteGear (i : Nat) : KeepsMarks (serveDeleteGear i) := fun _ h _ => h.checked h.deleteGear

theorem keepsMarks_defineCurve (c : Nat) (p : List Nat) : KeepsMarks (serveDefineCurve c p) := fun _ h _ =>
  h.checked h.storeCurve.accepted

theorem keepsMarks_readSensorDef (i : Nat) : KeepsMarks (serveReadSensorDef i) := fun _ h _ => h.checked h

theorem keepsMarks_readZoneDef (i : Nat) : KeepsMarks (serveReadZoneDef i) := fun _ h _ => h.checked h

theorem keepsMarks_readSegmentDef (i : Nat) : KeepsMarks (serveReadSegmentDef i) := fun _ h _ => h.checked h

theorem keepsMarks_readGearDef (i : Nat) : KeepsMarks (serveReadGearDef i) := fun _ h _ => h.checked h

theorem keepsMarks_readCurve (i : Nat) : KeepsMarks (serveReadCurve i) := fun _ h _ => h.checked h

theorem keepsMarks_readSensorLine (i : Nat) : KeepsMarks (serveReadSensorLine i) := fun _ h _ => h.checked h

theorem keepsMarks_readSensor (i : Nat) : KeepsMarks (serveReadSensor i) := fun _ h _ => h.checked h

theorem keepsMarks_readContrib (i : Nat) : KeepsMarks (serveReadContrib i) := fun _ h _ => h.checked h

theorem keepsMarks_readProfile (i : Nat) : KeepsMarks (serveReadProfile i) := fun _ h _ => h.checked h

theorem keepsMarks_readZone (i : Nat) : KeepsMarks (serveReadZone i) := fun _ h _ => h.checked h

theorem keepsMarks_readGear (i : Nat) : KeepsMarks (serveReadGear i) := fun _ h _ => h.checked h

theorem keepsMarks_readShade (i : Nat) : KeepsMarks (serveReadShade i) := fun _ h _ => h.checked h

theorem keepsMarks_readSchedule (i : Nat) : KeepsMarks (serveReadSchedule i) := fun _ h _ => h.checked h

theorem keepsMarks_readGearLine (l f c : Nat) : KeepsMarks (serveReadGearLine l f c) := fun _ h _ => h.checked h

theorem keepsMarks_readOccupancy (f c : Nat) : KeepsMarks (serveReadOccupancy f c) := fun _ h _ => h.checked h

theorem keepsMarks_readCalibration (f c : Nat) (z : Option Nat) : KeepsMarks (serveReadCalibration f c z) := by
  cases z
  · exact fun _ h _ => h.checked h
  · exact fun _ h _ => h.checked h

theorem keepsMarks_readCounters (a g f c : Nat) : KeepsMarks (serveReadCounters a g f c) := by
  intro s h _
  unfold serveReadCounters
  split
  · exact h
  · exact h.checked h

theorem keepsMarks_setSensorLine (r : SetSensorLine) : KeepsMarks (serveSetSensorLine r) := fun _ h _ =>
  h.checked h.modSensorLine

theorem keepsMarks_writeContrib (r : WriteContrib) : KeepsMarks (serveWriteContrib r) := fun _ h _ => h.checked h.modSensor

theorem keepsMarks_overrideZone (z l d : Nat) : KeepsMarks (serveOverrideZone z l d) := fun _ h _ =>
  h.checked h.modZone.applyOverride

theorem keepsMarks_releaseZone (z : Nat) : KeepsMarks (serveReleaseZone z) := fun _ h _ =>
  h.checked (.ite (fun _ => h.endOverride) fun _ => h)

theorem keepsMarks_startCalibration (r : StartCalibration) : KeepsMarks (serveStartCalibration r) := fun _ h _ =>
  h.checked h.startSweep

theorem keepsMarks_abortCalibration : KeepsMarks serveAbortCalibration := fun _ h _ =>
  .ite (fun _ => h.abortSweep) fun _ => h

theorem keepsMarks_setGearLine (r : SetGearLine) : KeepsMarks (serveSetGearLine r) := fun _ h _ =>
  h.checked h.setGearLineParams

theorem keepsMarks_lineControl (l : Nat) (a : LineAction) : KeepsMarks (serveLineControl l a) := fun _ h hr =>
  h.checked (h.controlLine hr)

theorem keepsMarks_shadeCommand (seg : Nat) (a : Option ShadeAction) (p d : Nat) : KeepsMarks (serveShadeCommand seg a p d) := by
  refine fun s h _ => h.checked ?_
  cases a
  · exact h
  · exact h.shadeAct

theorem keepsMarks_clearShadeFault (seg : Nat) : KeepsMarks (serveClearShadeFault seg) := fun _ h _ =>
  h.checked h.clearShadeFault

theorem keepsMarks_setShadeQuery (i : Nat) : KeepsMarks (serveSetShadeQuery i) := fun _ h _ => h.checked h.rest

theorem keepsMarks_setClock (r : SetClock) : KeepsMarks (serveSetClock r) := fun s h _ => by
  have set : MarksSound (s.modClock (Clock.setTo r)) := h.modClock
  exact h.checked (.accepted set.clearAccumulators)

theorem keepsMarks_getClock : KeepsMarks serveGetClock := fun _ h _ => h

theorem keepsMarks_setProfileDefaults (p : Nat) (a b : Option Nat) : KeepsMarks (serveSetProfileDefaults p a b) := fun _ h _ =>
  h.checked h.rest

theorem keepsMarks_definePeriod (r : DefinePeriod) : KeepsMarks (serveDefinePeriod r) := fun _ h _ => h.checked h.rest

theorem keepsMarks_deletePeriod (i : Nat) : KeepsMarks (serveDeletePeriod i) := fun _ h _ => h.checked h.rest

theorem keepsMarks_setOccInput (i d : Nat) : KeepsMarks (serveSetOccInput i d) := fun _ h _ => h.checked h.rest

theorem keepsMarks_snapshot (c : Nat) : KeepsMarks (serveSnapshot c) := by
  intro s h _
  unfold serveSnapshot
  split
  · exact h
  · exact h.rest

theorem keepsMarks_identify : KeepsMarks serveIdentify := fun _ h _ => h

theorem keepsMarks_getStatus : KeepsMarks serveGetStatus := fun _ h _ => h

theorem keepsMarks_clearFlags (w : Word16) : KeepsMarks (serveClearFlags w) := by
  refine fun s h _ => ?_
  change MarksSound (s.clearFlags w)
  exact .ite (fun _ => h.rest) fun _ => h.rest

theorem keepsMarks_setFlagEnables (w : Word16) : KeepsMarks (serveSetFlagEnables w) := fun _ h _ => h.rest

theorem keepsMarks_restart : KeepsMarks serveRestart := fun _ h _ => h

theorem keepsMarks_saveConfig : KeepsMarks serveSaveConfig := fun _ h _ => h.checked (.requestSL0 h.modLoader)

theorem keepsMarks_loadDefaults : KeepsMarks serveLoadDefaults := fun _ h hr => h.checked (h.loadDefaults hr)

/-! ### The catalogue -/

theorem eq_of_serve0 {f g : State → Served} {l : List Byte} (h : serve0 f l = some g) : g = f := by
  unfold serve0 at h
  split at h
  · exact (Option.some.inj h).symm
  · cases h

theorem keepsMarks_serve0 {f g : State → Served} {l : List Byte} (hf : KeepsMarks f) (h : serve0 f l = some g) : KeepsMarks g :=
  eq_of_serve0 h ▸ hf

theorem keepsMarks_serveBy {α : Type} {r : Reader α} {f : α → State → Served} {g : State → Served} {l : List Byte}
    (hf : ∀ a, KeepsMarks (f a)) (h : serveBy r f l = some g) : KeepsMarks g := by
  obtain ⟨a, -, rfl⟩ := Option.map_eq_some_iff.mp h
  exact hf a

theorem keepsMarks_lineFields {g : State → Served} {l : List Byte} (h : serveLineFields l = some g) : KeepsMarks g := by
  refine keepsMarks_serveBy (fun p s hs hr => ?_) h
  split
  · exact keepsMarks_lineControl _ _ s hs hr
  · exact hs

/-- The service of every kind keeps the marks sound. -/
theorem keepsMarks_serviceOf {k : Kind} {l : List Byte} {f : State → Served} (h : serviceOf k l = some f) : KeepsMarks f := by
  cases k
  case identify => exact keepsMarks_serve0 keepsMarks_identify h
  case getStatus => exact keepsMarks_serve0 keepsMarks_getStatus h
  case clearFlags => exact keepsMarks_serveBy (fun _ => keepsMarks_clearFlags _) h
  case setFlagEnables => exact keepsMarks_serveBy (fun _ => keepsMarks_setFlagEnables _) h
  case restart => exact keepsMarks_serve0 keepsMarks_restart h
  case saveConfig => exact keepsMarks_serve0 keepsMarks_saveConfig h
  case loadDefaults => exact keepsMarks_serve0 keepsMarks_loadDefaults h
  case defineSensor => exact keepsMarks_serveBy keepsMarks_defineSensor h
  case setSensor => exact keepsMarks_serveBy keepsMarks_setSensor h
  case deleteSensor => exact keepsMarks_serveBy keepsMarks_deleteSensor h
  case defineZone => exact keepsMarks_serveBy keepsMarks_defineZone h
  case setZone => exact keepsMarks_serveBy keepsMarks_setZone h
  case deleteZone => exact keepsMarks_serveBy keepsMarks_deleteZone h
  case defineSegment => exact keepsMarks_serveBy keepsMarks_defineSegment h
  case defineGear => exact keepsMarks_serveBy keepsMarks_defineGear h
  case deleteGear => exact keepsMarks_serveBy keepsMarks_deleteGear h
  case defineCurve => exact keepsMarks_serveBy (fun _ => keepsMarks_defineCurve _ _) h
  case readSensorDef => exact keepsMarks_serveBy keepsMarks_readSensorDef h
  case readZoneDef => exact keepsMarks_serveBy keepsMarks_readZoneDef h
  case readSegmentDef => exact keepsMarks_serveBy keepsMarks_readSegmentDef h
  case readGearDef => exact keepsMarks_serveBy keepsMarks_readGearDef h
  case readCurve => exact keepsMarks_serveBy keepsMarks_readCurve h
  case setSensorLine => exact keepsMarks_serveBy keepsMarks_setSensorLine h
  case readSensorLine => exact keepsMarks_serveBy keepsMarks_readSensorLine h
  case readSensor => exact keepsMarks_serveBy keepsMarks_readSensor h
  case writeContrib => exact keepsMarks_serveBy keepsMarks_writeContrib h
  case readContrib => exact keepsMarks_serveBy keepsMarks_readContrib h
  case readProfile => exact keepsMarks_serveBy keepsMarks_readProfile h
  case overrideZone => exact keepsMarks_serveBy (fun _ => keepsMarks_overrideZone _ _ _) h
  case releaseZone => exact keepsMarks_serveBy keepsMarks_releaseZone h
  case readZone => exact keepsMarks_serveBy keepsMarks_readZone h
  case startCalibration => exact keepsMarks_serveBy keepsMarks_startCalibration h
  case abortCalibration => exact keepsMarks_serve0 keepsMarks_abortCalibration h
  case readCalibration => exact keepsMarks_serveBy (fun _ => keepsMarks_readCalibration _ _ _) h
  case setGearLine => exact keepsMarks_serveBy keepsMarks_setGearLine h
  case lineControl => exact keepsMarks_lineFields h
  case readGearLine => exact keepsMarks_serveBy (fun _ => keepsMarks_readGearLine _ _ _) h
  case readGear => exact keepsMarks_serveBy keepsMarks_readGear h
  case shadeCommand => exact keepsMarks_serveBy (fun _ => keepsMarks_shadeCommand _ _ _ _) h
  case clearShadeFault => exact keepsMarks_serveBy keepsMarks_clearShadeFault h
  case setShadeQuery => exact keepsMarks_serveBy keepsMarks_setShadeQuery h
  case readShade => exact keepsMarks_serveBy keepsMarks_readShade h
  case setClock => exact keepsMarks_serveBy keepsMarks_setClock h
  case getClock => exact keepsMarks_serve0 keepsMarks_getClock h
  case setProfileDefaults => exact keepsMarks_serveBy (fun _ => keepsMarks_setProfileDefaults _ _ _) h
  case definePeriod => exact keepsMarks_serveBy keepsMarks_definePeriod h
  case deletePeriod => exact keepsMarks_serveBy keepsMarks_deletePeriod h
  case readSchedule => exact keepsMarks_serveBy keepsMarks_readSchedule h
  case setOccInput => exact keepsMarks_serveBy (fun _ => keepsMarks_setOccInput _ _) h
  case readOccupancy => exact keepsMarks_serveBy (fun _ => keepsMarks_readOccupancy _ _) h
  case snapshot => exact keepsMarks_serveBy keepsMarks_snapshot h
  case readCounters => exact keepsMarks_serveBy (fun _ => keepsMarks_readCounters _ _ _ _) h

/-- The port's checks and the service of a request keep the marks sound (R180). -/
theorem marksSound_serveRequest {s : State} (h : MarksSound s) (kind : Byte) (payload : List Byte) :
    MarksSound (serveRequest kind payload s).state := by
  unfold serveRequest
  split
  · exact h
  · next k _ =>
    split
    · exact h
    · next f hf =>
      split
      · next always =>
        cases k
        case identify => rw [eq_of_serve0 (f := serveIdentify) hf]; exact h
        case getStatus => rw [eq_of_serve0 (f := serveGetStatus) hf]; exact h
        all_goals cases always
      · exact h.whenRunning (keepsMarks_serviceOf hf)

end Sys2Proof.Machine
end

section
/-! PROOFS. The marks of a line out of service and the capacities of the part, kept by every step. -/

namespace Sys2Proof.Machine

open Sys2Proof.Safety

set_option Elab.async false

/-! ### The port (chapter 10) -/

theorem marksSound_executeHead {s : State} (h : MarksSound s) : MarksSound s.executeHead := by
  unfold State.executeHead
  refine .ite (fun _ => ?_) fun _ => h
  split
  · exact h
  · have marked : MarksSound (s.modPort Port.markExecuted) := h.rest
    exact .reply (marksSound_serveRequest marked _ _)

theorem marksSound_discardFrame {s : State} (h : MarksSound s) : MarksSound s.discardFrame :=
  have hunting : MarksSound (s.modPort fun p => { p with rx := .hunt }) := h.rest
  hunting.count.latch

theorem marksSound_takeFrame {s : State} (h : MarksSound s) (k tag : Byte) (l : List Byte) : MarksSound (s.takeFrame k tag l) := by
  unfold State.takeFrame
  refine .ite (fun _ => marksSound_executeHead h.rest) fun _ => .ite (fun _ => ?_) fun _ => marksSound_discardFrame h
  have answered : MarksSound (reply .busy k tag (refused .busy s)) := .reply h
  exact answered.count

theorem marksSound_huntByte {s : State} (h : MarksSound s) (b : Byte) : MarksSound (s.huntByte b) :=
  .ite (fun _ => h.rest) fun _ => h

theorem marksSound_takeByte {s : State} (h : MarksSound s) (l : List Byte) : MarksSound (s.takeByte l) :=
  .ite (fun _ => marksSound_discardFrame h) fun _ =>
    .ite (fun _ => .ite (fun _ => marksSound_takeFrame h.rest _ _ _) fun _ => marksSound_discardFrame h) fun _ => h.rest

end Sys2Proof.Machine

namespace Sys2Proof.Safety.MarksSound

open Sys2Proof.Machine

variable {s : State}

theorem modSegment (h : MarksSound s) {seg : Nat} {f : Segment → Segment} : MarksSound (s.modSegment seg f) := h.rest

end Sys2Proof.Safety.MarksSound

namespace Sys2Proof.Machine

open Sys2Proof.Safety

set_option Elab.async false

/-! ### The commands -/

/-- A command whose outcome keeps the marks sound. -/
def MarksKept (a : Answer) : Prop := ∃ t, a = .next t ∧ MarksSound t

theorem MarksKept.next {t : State} (h : MarksSound t) : MarksKept (.next t) := ⟨t, rfl, h⟩

theorem marksKept_direct {s : State} (h : MarksSound s) {k tag : Byte} {f : State → Served} (hf : KeepsMarks f) :
    MarksKept (.next (reply .direct k tag (whenRunning f s))) := .next (.reply (h.whenRunning hf))

/-- Every command keeps the marks sound. -/
theorem exec_keepsMarks (c : Instr) {s : State} (h : MarksSound s) : MarksKept (exec c s) := by
  cases c
  case identify t => exact .next (.reply h)
  case getStatus t => exact .next (.reply h)
  case clearFlags t w => exact marksKept_direct h (keepsMarks_clearFlags w)
  case setFlagEnables t w => exact marksKept_direct h (keepsMarks_setFlagEnables w)
  case restart t => exact marksKept_direct h keepsMarks_restart
  case saveConfig t => exact marksKept_direct h keepsMarks_saveConfig
  case loadDefaults t => exact marksKept_direct h keepsMarks_loadDefaults
  case defineSensor t r => exact marksKept_direct h (keepsMarks_defineSensor r)
  case setSensor t r => exact marksKept_direct h (keepsMarks_setSensor r)
  case deleteSensor t r => exact marksKept_direct h (keepsMarks_deleteSensor r)
  case defineZone t r => exact marksKept_direct h (keepsMarks_defineZone r)
  case setZone t r => exact marksKept_direct h (keepsMarks_setZone r)
  case deleteZone t r => exact marksKept_direct h (keepsMarks_deleteZone r)
  case defineSegment t r => exact marksKept_direct h (keepsMarks_defineSegment r)
  case defineGear t r => exact marksKept_direct h (keepsMarks_defineGear r)
  case deleteGear t r => exact marksKept_direct h (keepsMarks_deleteGear r)
  case defineCurve t i p =>
    refine .next (.reply ?_)
    split
    · exact h.whenRunning (keepsMarks_defineCurve i p)
    · exact h
  case readSensorDef t r => exact marksKept_direct h (keepsMarks_readSensorDef r)
  case readZoneDef t r => exact marksKept_direct h (keepsMarks_readZoneDef r)
  case readSegmentDef t r => exact marksKept_direct h (keepsMarks_readSegmentDef r)
  case readGearDef t r => exact marksKept_direct h (keepsMarks_readGearDef r)
  case readCurve t r => exact marksKept_direct h (keepsMarks_readCurve r)
  case setSensorLine t r => exact marksKept_direct h (keepsMarks_setSensorLine r)
  case readSensorLine t r => exact marksKept_direct h (keepsMarks_readSensorLine r)
  case readSensor t r => exact marksKept_direct h (keepsMarks_readSensor r)
  case writeContrib t r => exact marksKept_direct h (keepsMarks_writeContrib r)
  case readContrib t r => exact marksKept_direct h (keepsMarks_readContrib r)
  case readProfile t r => exact marksKept_direct h (keepsMarks_readProfile r)
  case overrideZone t z l d => exact marksKept_direct h (keepsMarks_overrideZone z l d)
  case releaseZone t r => exact marksKept_direct h (keepsMarks_releaseZone r)
  case readZone t r => exact marksKept_direct h (keepsMarks_readZone r)
  case startCalibration t r => exact marksKept_direct h (keepsMarks_startCalibration r)
  case abortCalibration t => exact marksKept_direct h keepsMarks_abortCalibration
  case readCalibration t f k z => exact marksKept_direct h (keepsMarks_readCalibration f k z)
  case setGearLine t r => exact marksKept_direct h (keepsMarks_setGearLine r)
  case lineControlEnable t l => exact marksKept_direct h (keepsMarks_lineControl l .enable)
  case lineControlDisable t l => exact marksKept_direct h (keepsMarks_lineControl l .disable)
  case lineControlHold t l => exact marksKept_direct h (keepsMarks_lineControl l .hold)
  case lineControlRelease t l => exact marksKept_direct h (keepsMarks_lineControl l .release)
  case readGearLine t l f k => exact marksKept_direct h (keepsMarks_readGearLine l f k)
  case readGear t r => exact marksKept_direct h (keepsMarks_readGear r)
  case shadeCommandGoto t g p d => exact marksKept_direct h (keepsMarks_shadeCommand g (some .goto) p d)
  case shadeCommandStop t g p d => exact marksKept_direct h (keepsMarks_shadeCommand g (some .stop) p d)
  case shadeCommandAuto t g p d => exact marksKept_direct h (keepsMarks_shadeCommand g (some .auto) p d)
  case clearShadeFault t r => exact marksKept_direct h (keepsMarks_clearShadeFault r)
  case setShadeQuery t r => exact marksKept_direct h (keepsMarks_setShadeQuery r)
  case readShade t r => exact marksKept_direct h (keepsMarks_readShade r)
  case setClock t r => exact marksKept_direct h (keepsMarks_setClock r)
  case getClock t => exact marksKept_direct h keepsMarks_getClock
  case setProfileDefaults t p a b => exact marksKept_direct h (keepsMarks_setProfileDefaults p a b)
  case definePeriod t r => exact marksKept_direct h (keepsMarks_definePeriod r)
  case deletePeriod t r => exact marksKept_direct h (keepsMarks_deletePeriod r)
  case readSchedule t r => exact marksKept_direct h (keepsMarks_readSchedule r)
  case setOccInput t i d => exact marksKept_direct h (keepsMarks_setOccInput i d)
  case readOccupancy t f k => exact marksKept_direct h (keepsMarks_readOccupancy f k)
  case snapshot t k => exact marksKept_direct h (keepsMarks_snapshot k)
  case readCounters t a g f k => exact marksKept_direct h (keepsMarks_readCounters a g f k)
  case executeUnknownKind t k => exact .next (.reply h)
  case frameReceived k t p => exact .next (.ite (fun _ => marksSound_takeFrame h.rest k t p) fun _ => marksSound_discardFrame h)
  case frameDiscarded => exact .next (.ite (fun _ => marksSound_discardFrame h) fun _ => h)
  case frameGapTimeout => exact .next (.ite (fun _ => marksSound_discardFrame h) fun _ => h)
  case replySent => exact .next (.ite (fun _ => h) fun _ => marksSound_executeHead h.rest)
  case restartTakesEffect pins => exact .next (.ite (fun _ => marksSound_resetWith ..) fun _ => h)
  case pinReset pins => exact .next (marksSound_resetWith ..)
  case powerOn pins b => exact .next (marksSound_resetWith ..)
  case startupDelayExpiry =>
    refine .next (.ite (fun starting => ?_) fun _ => h)
    have stopped : s.running = false := by
      simp only [Bool.and_eq_true, decide_eq_true_eq] at starting
      rw [State.running, starting.2]
      rfl
    exact ⟨h.gear, h.lines, fun _ => h.off stopped, fun _ => rfl⟩
  case autoloadPageReadEnd r =>
    refine .next ?_
    split
    · exact h
    · next j hj =>
      have stopped := h.loading (Option.isSome_of_eq_some hj)
      split
      · exact .ite (fun _ => h.pageRead stopped) fun _ => h.pageFailed stopped
      · exact h.pageFailed stopped
      · exact h.pageFailed stopped
  case memoryTransactionTimeout =>
    refine .next ?_
    split
    · exact h
    · next j hj => exact h.pageFailed (h.loading (Option.isSome_of_eq_some hj))
  case savePageWriteEnd r =>
    refine .next ?_
    split
    · exact h
    · split
      · exact h.modSave
      · exact h.saveFailed
      · exact h.saveFailed
  case ackPollAnswered =>
    refine .next ?_
    split
    · exact h
    · exact h.modSave
  case ackPollTimeout =>
    refine .next ?_
    split
    · exact h
    · exact h.saveFailed
  case saveReadbackEnd r =>
    refine .next ?_
    split
    · exact h
    · split
      · exact .ite (fun _ => h.pageVerified) fun _ => h.saveFailed
      · exact h.saveFailed
      · exact h.saveFailed
  case pollIntervalExpiry l =>
    refine .next (.ite (fun _ => ?_) fun _ => h)
    have expired : MarksSound (s.modSensorLine l fun x => { x with interval := none }) := h.modSensorLine
    dsimp only
    split
    · exact expired.startCycle
    · exact expired.modSensorLine.latch
    · exact expired.modSensorLine
    · exact expired
  case sensorTransactionEnd l r => exact .next h.endTxn
  case sensorTransactionTimeout l => exact .next h.endTxn
  case calSettleExpiry =>
    refine .next (.ite (fun _ => ?_) fun _ => h)
    split
    · exact h.enterRead
    · exact h.enterRead
    · exact h.enterRead
    · exact h
  case overrideExpiry z => exact .next (.ite (fun _ => h.endOverride) fun _ => h)
  case lpwrInputChange l v => exact .next (.ite (fun _ => h) fun _ => h.modLine)
  case linePowerChange l => exact .next (.ite (fun _ => h.takeSupply.settledCheck) fun _ => h)
  case startSettleExpiry l =>
    refine .next (.ite (fun starting => h.lineUp (h.running_of_line (l := l) ?_)) fun _ => h)
    simp only [Bool.and_eq_true, decide_eq_true_eq] at starting
    rw [starting.2]
    nofun
  case forwardFrameStart l =>
    refine .next ?_
    split
    · exact .ite (fun _ => h.modHead.modLine.countFrame) fun _ => h
    · exact h
  case groupFrameSent l =>
    refine .next ?_
    split
    · exact .ite (fun _ => h.popHead.afterEvent) fun _ => h
    · exact h
  case gearAnswerReceived l d st k x =>
    refine .next ?_
    split
    · exact h
    · split
      · exact h
      · refine .ite (fun _ => h.failHead.afterEvent) fun _ => ?_
        split
        · exact h.failHead.afterEvent
        · exact h.endAttempt.afterEvent
  case replyWindowEnd l => exact .next h.attemptLost
  case backwardFrameTimeout l => exact .next h.attemptLost
  case auditTimerExpiry l =>
    refine .next (.ite (fun _ => ?_) fun _ => h)
    have restarted : MarksSound (s.modGearLine l fun x => { x with audit := s.auditTimer x.auditInterval }) := h.modLine
    exact .ite (fun _ => restarted) fun _ => restarted.auditVisit
  case shadeQueryExpiry g =>
    refine .next (.ite (fun _ => ?_) fun _ => h)
    have asked (l : List Nat) : MarksSound (forEach l (State.offerShade .shadeQuery 0) s) :=
      h.forEach fun _ _ _ ht => ht.offerShade
    exact (asked _).modSegment
  case travelTimeout g => exact .next (.ite (fun _ => h.modSegment.faultAndTest) fun _ => h)
  case shadeSettleExpiry g => exact .next (.ite (fun _ => h.endSettle) fun _ => h)
  case glareTimerExpiry g => exact .next (.ite (fun _ => h.glareExpire) fun _ => h)
  case releaseTimerExpiry g => exact .next (.ite (fun _ => h.glareExpire) fun _ => h)
  case manualExpiry g => exact .next (.ite (fun _ => h.returnToAuto) fun _ => h)
  case clockSecondAdvance => exact .next (.ite (fun _ => h) fun _ => h.advanceClock)
  case oscillatorStop => exact .next (.ite (fun _ => h) fun _ => h.modClock.invalidateClock.latch)
  case oscillatorResume => exact .next h.modClock
  case occInputChange i v => exact .next (.ite (fun _ => h) fun _ => h.rest)
  case occDebounceExpiry i => exact .next (.ite (fun _ => h.rest) fun _ => h)
  case vacancyTimerExpiry z => exact .next h.modZone
  case frameByteReceived x =>
    refine .next ?_
    split
    · exact marksSound_huntByte h x
    · exact .ite (fun _ => marksSound_huntByte (marksSound_discardFrame h) x) fun _ => marksSound_takeByte h _

/-- Every step keeps the marks of a line out of service clear (R112, R116, R136). -/
theorem step_keepsMarks {s t : State} (h : MarksSound s) (hstep : step s = .next t) : MarksSound t := by
  unfold step at hstep
  split at hstep
  next =>
    cases hstep
    unfold State.idle
    split
    · exact h.rest
    · exact h.rest
  next c rest _ =>
    have queued : MarksSound { s with pending := rest } := h.rest
    obtain ⟨u, hu, kept⟩ := exec_keepsMarks c queued
    obtain rfl : u = t := by simpa [hu] using hstep
    exact kept

/-- Settles O5: the queues, the port, the counters and the tables are kept by every move and every reset; the marks of the lines, which a
move of its own need not keep, by each command in turn. -/
theorem stepKeepsTheCapacities : Obligations.StepKeepsTheCapacities := by
  intro s t lines marks port live shadow tables hstep
  have counters : CountersInRange t.live ∧ CountersInRange t.shadow :=
    step_keeps (P := fun s => CountersInRange s.live ∧ CountersInRange s.shadow) Moves.counters
      (fun _ _ _ _ => ⟨countersInRange_zero, countersInRange_zero⟩) (fun _ h => h) (fun _ _ h => h) ⟨live, shadow⟩ hstep
  exact ⟨step_keeps Moves.linesSound (fun pins clock s _ => linesSound_resetWith pins clock s) (fun _ h => h) (fun _ _ h => h) lines hstep,
    step_keepsMarks marks hstep,
    step_keeps Moves.portSound (fun pins clock s _ => portWithinCapacity_resetWith pins clock s) (fun _ h => h) (fun _ _ h => h) port hstep,
    counters.1, counters.2,
    step_keeps Moves.tablesWhole (fun pins clock s _ => tablesWhole_resetWith pins clock s)
      (fun _ h => { h with }) (fun _ _ h => { h with }) tables hstep⟩

end Sys2Proof.Machine
end

section
/-! PROOFS. Flags and counters that grow, and a zone's resolution said exactly (R63 to R66, R169, R172, R184). -/

namespace Sys2Proof.Machine

open Sys2Proof.Safety

set_option Elab.async false

/-! ### Flags that grow (R184) -/

theorem flagsGrow_refl (fs : List Flag) (s : State) : FlagsGrow fs s s := ⟨rfl, fun _ => ⟨id, fun _ => rfl⟩⟩

theorem FlagsGrow.trans {fs : List Flag} {s t u : State} (h : FlagsGrow fs s t) (k : FlagsGrow fs t u) : FlagsGrow fs s u :=
  ⟨k.1.trans h.1, fun f => ⟨fun hf => (k.2 f).1 ((h.2 f).1 hf), fun hf => ((k.2 f).2 hf).trans ((h.2 f).2 hf)⟩⟩

theorem FlagsGrow.mono {fs gs : List Flag} {s t : State} (h : FlagsGrow fs s t) (hs : ∀ f ∈ fs, f ∈ gs) : FlagsGrow gs s t :=
  ⟨h.1, fun f => ⟨(h.2 f).1, fun hf => (h.2 f).2 fun hm => hf (hs f hm)⟩⟩

theorem flagsGrow_of_flags {fs : List Flag} {s t : State} (h : t.flags = s.flags) : FlagsGrow fs s t := by
  rw [FlagsGrow, h]; exact flagsGrow_refl fs s

theorem flagsGrow_latchIf {fs : List Flag} (s : State) (c : Bool) {f : Flag} (hf : f ∈ fs) : FlagsGrow fs s (s.latchIf c f) := by
  refine ⟨by cases c <;> rfl, fun g => ?_⟩
  rw [hasFlag_latchIf]
  refine ⟨fun h => by rw [h]; rfl, fun hg => ?_⟩
  have hne : g ≠ f := fun e => hg (e ▸ hf)
  simp [hne]

theorem flagsGrow_latch {fs : List Flag} (s : State) {f : Flag} (hf : f ∈ fs) : FlagsGrow fs s (s.latch f) :=
  flagsGrow_latchIf s true hf

theorem FlagsGrow.countBy {fs : List Flag} {s t : State} (h : FlagsGrow fs s t) (k : Counter) (n : Nat)
    (hf : .counterSaturated ∈ fs := by simp) : FlagsGrow fs s (t.countBy k n) :=
  FlagsGrow.trans h (FlagsGrow.mono (flagsGrow_countBy t k n) (by simpa using hf))

theorem hasFlag_latch (s : State) (f g : Flag) :
    hasFlag (s.latch f).flags.latched g = (hasFlag s.flags.latched g || decide (g = f)) := by
  rw [← Bool.true_and (decide (g = f))]; exact hasFlag_latchIf s true f g

/-! ### One counter's increment (R169) -/

/-- The counter has its place in the tables of a set (R168). -/
def Counter.placed (c : Counters) : Counter → Prop
  | .electric z | .saved z | .daylitS z | .overrideS z => z < c.zones.length
  | .frames l | .retries l | .silentEvents l | .groupFrames l | .mismatches l | .deferrals l => l < c.lines.length
  | .misses i => i < c.misses.length
  | .moves g | .stalls g => g < c.shades.length
  | .framingErrors | .busyReplies => True

theorem Counters.get_put_same {c : Counters} {k : Counter} (h : k.placed c) (v : Nat) : (c.put k v).get k = v := by
  cases k
  case misses i =>
    change i < c.misses.length at h
    simp only [Counters.put, Counters.get, List.getD_eq_getElem?_getD, List.getElem?_set_self h, Option.getD_some]
  case framingErrors => rfl
  case busyReplies => rfl
  all_goals
    rw [Counter.placed] at h
    simp only [Counters.put, Counters.get, Counters.zone, Counters.line, Counters.shade, getD_modify, h, and_self, if_true]

theorem Counters.get_put_ne (c : Counters) {j k : Counter} (h : j ≠ k) (v : Nat) : (c.put k v).get j = c.get j :=
  (Moves.get_put c j k v).resolve_right fun e => h e.1

theorem State.live_countBy (s : State) (k : Counter) (n : Nat) : (s.countBy k n).live = s.live.put k (satAdd (s.live.get k) n) := by
  rw [State.countBy_eq]

theorem get_countBy_ne (s : State) {j k : Counter} (h : j ≠ k) (n : Nat) : (s.countBy k n).live.get j = s.live.get j := by
  rw [State.live_countBy, Counters.get_put_ne _ h]

theorem get_countBy_same {s : State} {k : Counter} (h : k.placed s.live) (n : Nat) :
    (s.countBy k n).live.get k = min 4294967295 (s.live.get k + n) := by
  rw [State.live_countBy, Counters.get_put_same h]
  rfl

/-! ### One zone's record -/

theorem set_entryAt_self {α : Type} {l : List (Option α)} {i : Nat} {x : α} (h : entryAt l i = some x) : l.set i (some x) = l := by
  have hi : l[i]? = some (some x) := by
    rw [entryAt, Option.join_eq_some_iff] at h
    exact h
  obtain ⟨hlt, hget⟩ := List.getElem?_eq_some_iff.mp hi
  rw [← hget, List.set_getElem_self]

/-- `u` is `s` but for the record of zone `z`, which is `y`, for the flags and for the live counters. -/
structure ZoneBecomes (s : State) (z : Nat) (u : State) (y : Zone) : Prop where
  here : u.zone z = some y
  rest : u = { s with zones := s.zones.set z (some y), flags := u.flags, live := u.live }

namespace ZoneBecomes

variable {s u : State} {z : Nat} {x y : Zone}

theorem refl (h : s.zone z = some x) : ZoneBecomes s z s x := by
  refine ⟨h, ?_⟩
  rw [set_entryAt_self h]

theorem setZone (h : s.zone z = some x) (y : Zone) : ZoneBecomes s z { s with zones := s.zones.set z (some y) } y :=
  ⟨(entryAt_set ..).trans (if_pos ⟨rfl, entryAt_lt h⟩), rfl⟩

theorem modZone (h : ZoneBecomes s z u y) (f : Zone → Zone) : ZoneBecomes s z (u.modZone z f) (f y) := by
  refine ⟨by rw [State.zone_modZone, if_pos rfl, h.here]; rfl, ?_⟩
  rw [State.modZone, modify_eq_set h.here, h.rest]
  simp only [List.set_set]

theorem withFlags (h : ZoneBecomes s z u y) (f : FlagPort) : ZoneBecomes s z { u with flags := f } y := by
  refine ⟨h.here, ?_⟩
  rw [h.rest]

theorem latchIf (h : ZoneBecomes s z u y) (c : Bool) (f : Flag) : ZoneBecomes s z (u.latchIf c f) y := by
  rw [State.latchIf_eq]; exact h.withFlags _

theorem countBy (h : ZoneBecomes s z u y) (k : Counter) (n : Nat) : ZoneBecomes s z (u.countBy k n) y := by
  rw [State.countBy_eq]
  refine ⟨h.here, ?_⟩
  rw [h.rest]

theorem tick (h : ZoneBecomes s z u y) : u.tick = s.tick := by rw [h.rest]

theorem trans {v : State} {w : Zone} (h : ZoneBecomes s z u y) (k : ZoneBecomes u z v w) : ZoneBecomes s z v w := by
  refine ⟨k.here, ?_⟩
  conv_lhs => rw [k.rest]
  rw [h.rest]
  simp only [List.set_set]

/-- The other zones are as they were. -/
theorem others (h : ZoneBecomes s z u y) {k : Nat} (hk : k ≠ z) : u.zone k = s.zone k := by
  rw [h.rest]
  exact (entryAt_set ..).trans (if_neg fun e => hk e.1.symm)

end ZoneBecomes

theorem State.modZone_eq {s : State} {z : Nat} {x : Zone} (h : s.zone z = some x) (f : Zone → Zone) :
    s.modZone z f = { s with zones := s.zones.set z (some (f x)) } := by rw [State.modZone, modify_eq_set h]

theorem zone_set_same {s : State} {z : Nat} {x : Zone} (h : s.zone z = some x) (y : Zone) :
    ({ s with zones := s.zones.set z (some y) } : State).zone z = some y := by
  rw [← State.modZone_eq h fun _ => y, State.zone_modZone, if_pos rfl, h]
  rfl

theorem zone_set_ne (s : State) {z k : Nat} (hk : k ≠ z) (y : Option Zone) :
    ({ s with zones := s.zones.set z y } : State).zone k = s.zone k :=
  (entryAt_set ..).trans (if_neg fun e => hk e.1.symm)

/-! ### The override time (R172) -/

theorem accrueOverride_of_mark {s : State} {z : Nat} {x : Zone} {m : Tick} (h : s.zone z = some x) (hm : x.rem.mark = some m)
    (mark : Option Tick) : s.accrueOverride z mark = ({ s with zones := s.zones.set z (some { x with
      rem := { x.rem with override := (x.rem.override + s.tick.since m) % 1000, mark := mark } }) } : State).countBy
        (.overrideS z) ((x.rem.override + s.tick.since m) / 1000) := by
  rw [State.accrueOverride, h, Option.bind_some, hm, Option.map_some]
  simp only [State.modRem, State.modZone_eq h]

theorem accrueOverride_of_unmarked {s : State} {z : Nat} {x : Zone} (h : s.zone z = some x) (hm : x.rem.mark = none)
    (mark : Option Tick) : s.accrueOverride z mark = s := by
  rw [State.accrueOverride, h, Option.bind_some, hm, Option.map_none]

/-- The record of a zone whose override time is counted, with its new mark (R172). -/
def Zone.accrue (now : Tick) (mark : Option Tick) (x : Zone) : Zone :=
  match x.rem.mark with
  | some m => { x with rem := { x.rem with override := (x.rem.override + now.since m) % 1000, mark := mark } }
  | none => x

theorem ZoneBecomes.accrueOverride {s u : State} {z : Nat} {y : Zone} (h : ZoneBecomes s z u y) (mark : Option Tick) :
    ZoneBecomes s z (u.accrueOverride z mark) (y.accrue u.tick mark) := by
  unfold Zone.accrue
  split
  · next m hm =>
    rw [accrueOverride_of_mark h.here hm, ← State.modZone_eq h.here fun y =>
      { y with rem := { y.rem with override := (y.rem.override + u.tick.since m) % 1000, mark := mark } }]
    exact (h.modZone _).countBy _ _
  · next hm =>
    rw [accrueOverride_of_unmarked h.here hm]
    exact h

theorem flagsGrow_accrueOverride (s : State) (z : Nat) (mark : Option Tick) :
    FlagsGrow [.counterSaturated] s (s.accrueOverride z mark) := by
  unfold State.accrueOverride
  split
  · exact flagsGrow_refl _ s
  · exact flagsGrow_countBy ..

theorem get_accrueOverride_ne (s : State) (z : Nat) (mark : Option Tick) {k : Counter} (h : k ≠ .overrideS z) :
    (s.accrueOverride z mark).live.get k = s.live.get k := by
  unfold State.accrueOverride
  split
  · rfl
  · exact get_countBy_ne _ h _

theorem live_accrueOverride_of_unmarked {s : State} {z : Nat} {x : Zone} (h : s.zone z = some x) (hm : x.rem.mark = none)
    (mark : Option Tick) : (s.accrueOverride z mark).live = s.live := by rw [accrueOverride_of_unmarked h hm]

theorem get_accrueOverride_same {s : State} {z : Nat} {x : Zone} {m : Tick} (h : s.zone z = some x) (hm : x.rem.mark = some m)
    (hz : z < s.live.zones.length) (mark : Option Tick) : (s.accrueOverride z mark).live.get (.overrideS z)
      = min 4294967295 (s.live.get (.overrideS z) + (x.rem.override + s.tick.since m) / 1000) := by
  rw [accrueOverride_of_mark h hm]
  exact get_countBy_same (s := { s with zones := s.zones.set z (some { x with
    rem := { x.rem with override := (x.rem.override + s.tick.since m) % 1000, mark := mark } }) }) (k := .overrideS z) hz _

/-! ### Resolution (R63 to R66) -/

theorem ownGain_eq (s : State) (z : Nat) (x : Zone) : s.ownGain z x = ownGainOf s z x := by
  rw [State.ownGain, State.controlOf, ownGainOf]
  cases x.cfg.controlSensor.bind s.sensor <;> rfl

/-- The order of the resolution (R63). -/
theorem resolved_eq (s : State) (z : Nat) (x : Zone) : s.resolved z x = stateByOrder s z x := by
  have swept : s.inSweep z = decide (s.sweep.state ≠ .idle ∧ z ∈ s.sweep.zones) := by
    rw [State.inSweep, State.sweeping, Bool.decide_and]
    simp
  have held : x.held = decide (x.holdShade = true ∨ x.holdCal = true) := by rw [Zone.held, Bool.decide_or]; simp
  have usable : (s.controlOf x).any Sensor.usable = (x.cfg.controlSensor.bind s.sensor).any serves := rfl
  simp only [State.resolved, stateByOrder, swept, held, usable, ownGain_eq, Bool.not_eq_true', decide_eq_true_eq, Bool.and_eq_true]

theorem fallbackReason_eq (s : State) (z : Nat) (x : Zone) : s.fallbackReasonOf z x
    = if x.cfg.controlSensor = none then .noSensor else if ownGainOf s z x = none then .noGain else .sensorFailed := by
  simp only [State.fallbackReasonOf, ownGain_eq, Option.isNone_iff_eq_none]

theorem remainders_with_mark {r : Remainders} {m : Option Tick} (h : r.mark = m) : { r with mark := m } = r := by
  rw [← h]

/-- What a resolution leaves of the zone's record, and of the rest of the state (R65, R66, R172). -/
theorem zoneBecomes_resolveHeld {s : State} {z : Nat} {x : Zone} (h : s.zone z = some x) :
    ZoneBecomes s z (s.resolveHeld z) (resolvedZone s z (s.resolved z x) x) := by
  have reasoned : ZoneBecomes s z (if s.resolved z x = .fallback then
      s.modZone z fun y => { y with fallbackReason := s.fallbackReasonOf z x } else s)
      (if s.resolved z x = .fallback then { x with fallbackReason := s.fallbackReasonOf z x } else x) := by
    split
    · exact (ZoneBecomes.refl h).modZone _
    · exact .refl h
  unfold State.resolveHeld
  simp only [h]
  generalize hn : s.resolved z x = n at reasoned ⊢
  generalize (if n = .fallback then s.modZone z fun y => { y with fallbackReason := s.fallbackReasonOf z x } else s) = t at reasoned ⊢
  by_cases same : n = x.state
  · rw [if_pos same, resolvedZone, if_pos same, ← fallbackReason_eq]
    exact reasoned
  · rw [if_neg same]
    refine ZoneBecomes.latchIf ?_ _ _
    generalize hy : (if n = .fallback then { x with fallbackReason := s.fallbackReasonOf z x } else x) = y at reasoned
    have left : ZoneBecomes s z (if x.state = .override then t.accrueOverride z none else t)
        (if x.state = .override then y.accrue s.tick none else y) := by
      split
      · exact reasoned.tick ▸ reasoned.accrueOverride none
      · exact reasoned
    generalize (if x.state = .override then t.accrueOverride z none else t) = u at left ⊢
    generalize hw : (if x.state = .override then y.accrue s.tick none else y) = w at left
    have entered := left.modZone (Zone.entered n)
    have marked : ZoneBecomes s z (if n = .override then (u.modZone z (Zone.entered n)).markOverride z else u.modZone z (Zone.entered n))
        (if n = .override then { w.entered n with rem := { (w.entered n).rem with mark := some s.tick } } else w.entered n) := by
      split
      · exact entered.tick ▸ entered.modZone fun y => { y with rem := { y.rem with mark := some (u.modZone z (Zone.entered n)).tick } }
      · exact entered
    have record : resolvedZone s z n x
        = if n = .override then { w.entered n with rem := { (w.entered n).rem with mark := some s.tick } } else w.entered n := by
      rw [resolvedZone, if_neg same, ← fallbackReason_eq, ← hw, ← hy]
      cases hm : x.rem.mark <;> cases n <;> by_cases ho : x.state = .override <;> simp [Zone.entered, Zone.accrue, ho, hm, remainders_with_mark]
    rw [record]
    exact marked

theorem latchIf_congr {s t : State} (hf : t.flags = s.flags) (c : Bool) (f : Flag) :
    (t.latchIf c f).flags = (s.latchIf c f).flags := by
  cases c
  · exact hf
  · change (t.latch f).flags = (s.latch f).flags
    simp only [State.latch, State.withFlags, hf]

/-- What an increment leaves of the live counters and the flags depends on nothing else. -/
theorem countBy_congr {s t : State} (hl : t.live = s.live) (hf : t.flags = s.flags) (k : Counter) (n : Nat) :
    (t.countBy k n).live = (s.countBy k n).live ∧ (t.countBy k n).flags = (s.countBy k n).flags := by
  refine ⟨by rw [State.live_countBy, State.live_countBy, hl], ?_⟩
  rw [State.countBy, State.countBy, hl]
  refine latchIf_congr ?_ _ _
  exact hf

/-- What the counting of an override's time leaves of the live counters and the flags depends on the zone's remainders and the tick. -/
theorem accrueOverride_congr {s t : State} {z : Nat} {x y : Zone} (hs : s.zone z = some x) (ht : t.zone z = some y)
    (hr : y.rem = x.rem) (hn : t.tick = s.tick) (hl : t.live = s.live) (hf : t.flags = s.flags) (mark : Option Tick) :
    (t.accrueOverride z mark).live = (s.accrueOverride z mark).live
      ∧ (t.accrueOverride z mark).flags = (s.accrueOverride z mark).flags := by
  cases hm : x.rem.mark with
  | none => rw [accrueOverride_of_unmarked hs hm, accrueOverride_of_unmarked ht (hr ▸ hm)]; exact ⟨hl, hf⟩
  | some m =>
    rw [accrueOverride_of_mark hs hm, accrueOverride_of_mark ht (hr ▸ hm), hr, hn]
    refine countBy_congr ?_ ?_ _ _
    · exact hl
    · exact hf

/-- A resolution's part of the live counters and the flags (R65, R172): the override time of a zone that leaves OVERRIDE, and an entry
into FALLBACK. -/
theorem resolveHeld_counts {s : State} {z : Nat} {x : Zone} (h : s.zone z = some x) :
    (s.resolveHeld z).live
        = (if s.resolved z x ≠ x.state ∧ x.state = .override then s.accrueOverride z none else s).live
      ∧ (s.resolveHeld z).flags
        = ((if s.resolved z x ≠ x.state ∧ x.state = .override then s.accrueOverride z none else s).latchIf
          (decide (s.resolved z x ≠ x.state) && latchesFallback x.state (s.resolved z x)) .zoneFallback).flags := by
  unfold State.resolveHeld
  simp only [h]
  generalize s.resolved z x = n
  have reasoned : ∃ y, (if n = .fallback then s.modZone z fun y => { y with fallbackReason := s.fallbackReasonOf z x } else s).zone z
      = some y ∧ y.rem = x.rem := by
    split
    · exact ⟨{ x with fallbackReason := s.fallbackReasonOf z x }, by rw [State.zone_modZone, if_pos rfl, h]; rfl, rfl⟩
    · exact ⟨x, h, rfl⟩
  have kept : (if n = .fallback then s.modZone z fun y => { y with fallbackReason := s.fallbackReasonOf z x } else s)
      = { s with zones := (if n = .fallback then s.modZone z fun y => { y with fallbackReason := s.fallbackReasonOf z x }
        else s).zones } := by split <;> rfl
  generalize (if n = .fallback then s.modZone z fun y => { y with fallbackReason := s.fallbackReasonOf z x } else s) = t
    at reasoned kept ⊢
  obtain ⟨y, hy, hr⟩ := reasoned
  by_cases same : n = x.state
  · rw [if_pos same, if_neg fun e => e.1 same, decide_eq_false (fun e => e same), kept]
    exact ⟨rfl, rfl⟩
  · rw [if_neg same, decide_eq_true same, Bool.true_and]
    have left : (if x.state = .override then t.accrueOverride z none else t).live
          = (if n ≠ x.state ∧ x.state = .override then s.accrueOverride z none else s).live
        ∧ (if x.state = .override then t.accrueOverride z none else t).flags
          = (if n ≠ x.state ∧ x.state = .override then s.accrueOverride z none else s).flags := by
      by_cases hover : x.state = .override
      · rw [if_pos hover, if_pos ⟨same, hover⟩]
        exact accrueOverride_congr h hy hr (by rw [kept]) (by rw [kept]) (by rw [kept]) none
      · rw [if_neg hover, if_neg fun e => hover e.2, kept]
        exact ⟨rfl, rfl⟩
    generalize (if x.state = .override then t.accrueOverride z none else t) = u at left ⊢
    have entered : (if n = .override then (u.modZone z (Zone.entered n)).markOverride z else u.modZone z (Zone.entered n)).live = u.live
        ∧ (if n = .override then (u.modZone z (Zone.entered n)).markOverride z else u.modZone z (Zone.entered n)).flags = u.flags := by
      split <;> exact ⟨rfl, rfl⟩
    refine ⟨?_, latchIf_congr (entered.2.trans left.2) _ _⟩
    rw [State.latchIf_eq]
    exact entered.1.trans left.1

end Sys2Proof.Machine
end

section
/-! PROOFS. The resolution, the setpoint and the evaluation of a zone (R53 to R58, R63 to R81, R163, R170 to R172). -/

namespace Sys2Proof.Machine

open Sys2Proof.Safety

set_option Elab.async false

/-! ### What a resolution counts and latches -/

theorem flagsGrow_resolveHeld {s : State} {z : Nat} {x : Zone} (h : s.zone z = some x) :
    FlagsGrow [.counterSaturated, .zoneFallback] s (s.resolveHeld z) := by
  have counted : FlagsGrow [.counterSaturated, .zoneFallback] s
      (if s.resolved z x ≠ x.state ∧ x.state = .override then s.accrueOverride z none else s) := by
    split
    · exact FlagsGrow.mono (flagsGrow_accrueOverride s z none) (by simp)
    · exact flagsGrow_refl _ s
  rw [FlagsGrow, (resolveHeld_counts h).2]
  exact FlagsGrow.trans counted (flagsGrow_latchIf _ _ (by simp))

theorem zoneFallback_resolveHeld {s : State} {z : Nat} {x : Zone} (h : s.zone z = some x) :
    hasFlag (s.resolveHeld z).flags.latched .zoneFallback = (hasFlag s.flags.latched .zoneFallback
      || (decide (s.resolved z x = .fallback) && decide (x.state ≠ .fallback) && decide (x.state ≠ .disabled))) := by
  have counted : hasFlag (if s.resolved z x ≠ x.state ∧ x.state = .override then s.accrueOverride z none else s).flags.latched
      .zoneFallback = hasFlag s.flags.latched .zoneFallback := by
    split
    · exact ((flagsGrow_accrueOverride s z none).2 _).2 (by simp)
    · rfl
  rw [(resolveHeld_counts h).2, hasFlag_latchIf, counted]
  generalize s.resolved z x = n
  cases n <;> cases x.state <;> rfl

theorem get_resolveHeld_of {s : State} {z : Nat} {x : Zone} (h : s.zone z = some x) {k : Counter}
    (hk : k ≠ .overrideS z ∨ x.state ≠ .override ∨ s.resolved z x = .override) :
    (s.resolveHeld z).live.get k = s.live.get k := by
  rw [(resolveHeld_counts h).1]
  split
  · next leaves =>
    exact get_accrueOverride_ne s z none
      (hk.resolve_right fun hor => hor.elim (fun hx => hx leaves.2) fun hn => leaves.1 (hn.trans leaves.2.symm))
  · rfl

theorem get_resolveHeld_override {s : State} {z : Nat} {x : Zone} {m : Tick} (h : s.zone z = some x) (hx : x.state = .override)
    (hn : s.resolved z x ≠ .override) (hm : x.rem.mark = some m) (hz : z < s.live.zones.length) :
    (s.resolveHeld z).live.get (.overrideS z)
      = min 4294967295 (s.live.get (.overrideS z) + (x.rem.override + s.tick.since m) / 1000) := by
  rw [(resolveHeld_counts h).1, if_pos ⟨fun e => hn (e.trans hx), hx⟩]
  exact get_accrueOverride_same h hm hz none

theorem levelOf_of_zone {s : State} {z : Nat} {x : Zone} (h : s.zone z = some x) : s.levelOf z = x.level := by
  rw [State.levelOf, h]; rfl

/-- A changed level is handed on (R65, R79). -/
theorem handIfChanged_of_zone {s : State} {z : Nat} {y : Zone} (h : s.zone z = some y) (old : Nat) :
    s.handIfChanged z old = if y.level = old then s else s.handLevel z := by rw [State.handIfChanged, levelOf_of_zone h]

theorem resolve_of_zone {s : State} {z : Nat} {x : Zone} (h : s.zone z = some x) :
    s.resolve z = if (resolvedZone s z (s.resolved z x) x).level = x.level then s.resolveHeld z
      else (s.resolveHeld z).handLevel z := by
  rw [State.resolve, levelOf_of_zone h, handIfChanged_of_zone (zoneBecomes_resolveHeld h).here]

theorem zone_resolve_eq {s : State} {z : Nat} {x : Zone} (h : s.zone z = some x) :
    (s.resolve z).zone z = some (resolvedZone s z (stateByOrder s z x) x) := by
  rw [zone_resolve, (zoneBecomes_resolveHeld h).here, resolved_eq]

/-- A zone that stays in its state keeps its record, but for a reason of FALLBACK (R64, R66). -/
theorem resolveHeld_same {s : State} {z : Nat} {x : Zone} (h : s.zone z = some x) (hn : s.resolved z x = x.state)
    (hf : x.state ≠ .fallback) : s.resolveHeld z = s := by
  unfold State.resolveHeld
  simp only [h, hn, if_neg hf, if_true]

/-- What a resolution leaves of the live counters, with the level handed on (R172). -/
theorem get_resolve {s : State} (z : Nat) {k : Counter} (hk : isDeferral k = false) :
    (s.resolve z).live.get k = (s.resolveHeld z).live.get k := by
  rw [State.resolve, State.handIfChanged]
  split
  · rfl
  · have handed : Moves 0 (s.resolveHeld z) ((s.resolveHeld z).handLevel z) := Moves.handLevel ..
    exact (handed.handsOver.counters k).1 hk

/-! ### The record that a resolution leaves (R65) -/

section

variable (s : State) (z : Nat) (n : ZoneState) (x : Zone)

@[simp] theorem resolvedZone_state : (resolvedZone s z n x).state = n := by
  unfold resolvedZone
  by_cases same : n = x.state
  · rw [if_pos same, same]
    split <;> rfl
  · rw [if_neg same]

/-- The fields that no entry touches. -/
theorem resolvedZone_kept : (resolvedZone s z n x).cfg = x.cfg ∧ (resolvedZone s z n x).overrideActive = x.overrideActive
    ∧ (resolvedZone s z n x).overrideExpiry = x.overrideExpiry ∧ (resolvedZone s z n x).overrideLevel = x.overrideLevel
    ∧ (resolvedZone s z n x).holdShade = x.holdShade ∧ (resolvedZone s z n x).holdCal = x.holdCal := by
  unfold resolvedZone
  by_cases same : n = x.state
  · rw [if_pos same]
    split <;> exact ⟨rfl, rfl, rfl, rfl, rfl, rfl⟩
  · rw [if_neg same]
    dsimp only
    by_cases fall : n = .fallback
    · rw [if_pos fall]
      exact ⟨rfl, rfl, rfl, rfl, rfl, rfl⟩
    · rw [if_neg fall]
      exact ⟨rfl, rfl, rfl, rfl, rfl, rfl⟩

theorem resolvedZone_level : (resolvedZone s z n x).level
    = if n = x.state then x.level else if n = .override then x.overrideLevel else if n = .disabled then 0 else x.level := by
  unfold resolvedZone
  by_cases same : n = x.state
  · rw [if_pos same, if_pos same]
    split <;> rfl
  · rw [if_neg same, if_neg same]

theorem stateByOrder_eq_disabled : stateByOrder s z x = .disabled ↔ x.cfg.enabled = false := by
  unfold stateByOrder
  split_ifs <;> simp_all

theorem stateByOrder_ne_override (h : x.overrideActive = false) : stateByOrder s z x ≠ .override := by
  unfold stateByOrder
  split_ifs <;> simp_all

end

/-! ### The setpoint in force (R163) -/

/-- The period at an index, with the index, where it belongs to a profile. -/
def State.periodIn (s : State) (p i : Nat) : Option (Nat × Period) :=
  ((s.period i).filter fun q => decide (q.profile = p)).map fun q => (i, q)

theorem periodsOf_eq (s : State) (p : Nat) : s.periodsOf p = (List.range s.periods.length).filterMap (s.periodIn p) := by
  unfold State.periodsOf
  congr 1
  funext i
  rw [State.periodIn]
  cases s.period i with
  | none => rfl
  | some q => by_cases h : q.profile = p <;> simp [h]

theorem periodIn_eq_some {s : State} {p i : Nat} {r : Nat × Period} :
    s.periodIn p i = some r ↔ s.period i = some r.2 ∧ r.2.profile = p ∧ r.1 = i := by
  obtain ⟨j, q⟩ := r
  simp only [State.periodIn, Option.map_eq_some_iff, Option.filter_eq_some_iff, decide_eq_true_eq, Prod.mk.injEq]
  constructor
  · rintro ⟨_, ⟨hq, hp⟩, hi, rfl⟩; exact ⟨hq, hp, hi.symm⟩
  · rintro ⟨hq, hp, hi⟩; exact ⟨q, ⟨hq, hp⟩, hi.symm, rfl⟩

/-- A period covers the clock's moment for a zone's profile (R161, R163). -/
def CoversNow (s : State) (x : Zone) (i : Nat) (q : Period) : Prop :=
  s.period i = some q ∧ q.profile = x.cfg.profile ∧ q.days.getLsbD s.clock.weekday = true
    ∧ q.startMin ≤ 60 * s.clock.hour + s.clock.minute ∧ 60 * s.clock.hour + s.clock.minute < q.endMin

theorem covers_iff (s : State) (x : Zone) (i : Nat) :
    (s.periodIn x.cfg.profile i).any (fun r => r.2.covers s.clock.weekday s.clock.minuteOfDay) = true
      ↔ ∃ q, CoversNow s x i q := by
  simp only [Option.any_eq_true, periodIn_eq_some, Period.covers, Clock.minuteOfDay, CoversNow, Bool.and_eq_true]
  constructor
  · rintro ⟨⟨j, q⟩, ⟨hq, hp, -⟩, ⟨hd, hs⟩, he⟩; exact ⟨q, hq, hp, hd, of_decide_eq_true hs, of_decide_eq_true he⟩
  · rintro ⟨q, hq, hp, hd, hs, he⟩; exact ⟨(i, q), ⟨hq, hp, rfl⟩, ⟨hd, decide_eq_true hs⟩, decide_eq_true he⟩

theorem find_periodsOf (s : State) (x : Zone) :
    ((s.periodsOf x.cfg.profile).find? fun r => r.2.covers s.clock.weekday s.clock.minuteOfDay)
      = ((List.range s.periods.length).find? fun i => (s.periodIn x.cfg.profile i).any fun r =>
        r.2.covers s.clock.weekday s.clock.minuteOfDay).bind (s.periodIn x.cfg.profile) := by
  rw [periodsOf_eq, List.find?_filterMap]

theorem find_periodsOf_some {s : State} {x : Zone} {i : Nat} {q : Period} (h : CoversNow s x i q)
    (first : ∀ j p, j < i → ¬ CoversNow s x j p) :
    ((s.periodsOf x.cfg.profile).find? fun r => r.2.covers s.clock.weekday s.clock.minuteOfDay) = some (i, q) := by
  have hi : i < s.periods.length := entryAt_lt h.1
  rw [find_periodsOf, List.find?_range_eq_some.mpr ⟨(covers_iff s x i).mpr ⟨q, h⟩, List.mem_range.mpr hi, fun j hj => by
    simpa using fun hc => (covers_iff s x j).not.mpr (fun ⟨p, hp⟩ => first j p hj hp) hc⟩]
  exact periodIn_eq_some.mpr ⟨h.1, h.2.1, rfl⟩

theorem find_periodsOf_none {s : State} {x : Zone} (h : ∀ i q, ¬ CoversNow s x i q) :
    ((s.periodsOf x.cfg.profile).find? fun r => r.2.covers s.clock.weekday s.clock.minuteOfDay) = none := by
  rw [find_periodsOf, List.find?_eq_none.mpr fun i _ hc => ?_]
  · rfl
  · obtain ⟨q, hq⟩ := (covers_iff s x i).mp hc
    exact h i q hq

theorem setpointOf_covered {s : State} {x : Zone} {i : Nat} {q : Period} (hv : s.clock.valid = true) (h : CoversNow s x i q)
    (first : ∀ j p, j < i → ¬ CoversNow s x j p) :
    s.setpointOf x = if x.occupancy = .vacant then q.unoccupiedSp else q.occupiedSp := by
  simp only [State.setpointOf, hv, if_true, find_periodsOf_some h first, decide_eq_true_eq, ite_not]

theorem setpointOf_uncovered {s : State} {x : Zone} (h : s.clock.valid = false ∨ ∀ i q, ¬ CoversNow s x i q) :
    s.setpointOf x
      = if x.occupancy = .vacant then (s.profile x.cfg.profile).unoccupiedSp else (s.profile x.cfg.profile).occupiedSp := by
  have none : (if s.clock.valid then (s.periodsOf x.cfg.profile).find? fun r => r.2.covers s.clock.weekday s.clock.minuteOfDay
      else none) = none := by
    rcases h with h | h
    · rw [h]; rfl
    · rw [find_periodsOf_none h, ite_self]
  simp only [State.setpointOf, none, decide_eq_true_eq, ite_not]

/-! ### The day and the need (R70, R80, R81) -/

theorem windowDay_eq (s : State) (x : Zone) : s.windowDay x = ((s.segment x.cfg.segment).cfg.windowSensor.bind s.sensor).bind fun w =>
    if serves w ∧ 16 ≤ x.learned.learnCount then some (w.daylightF * x.learned.rho / 1024) else none := by
  have usable (w : Sensor) : w.usable = serves w := rfl
  rw [State.windowDay, State.windowOf]
  cases (s.segment x.cfg.segment).cfg.windowSensor.bind s.sensor with
  | none => rfl
  | some w => simp only [Option.bind_some, usable, Bool.and_eq_true, decide_eq_true_eq]

theorem need_eq (s : State) (z : Nat) (x : Zone) (sp day : Nat) : s.demandFor z x sp day
    = (x.cfg.controlSensor.bind s.sensor).bind fun c => (ownGainOf s z x).map fun g : Nat => Demand.mk
      ((sp : Int) - day - ((c.contrib.filter fun k => k.zone != z).map fun k => rounded (k.gain * s.levelOf k.zone) 1000).sum) g := by
  rw [State.demandFor, State.controlOf, ownGainOf]
  cases x.cfg.controlSensor.bind s.sensor <;> rfl

theorem aim_kept (now : Tick) (sp : Nat) (d : Option Demand) (x : Zone) : (x.aim now sp d).cfg = x.cfg ∧ (x.aim now sp d).level = x.level := by
  cases d with
  | none => grind [Zone.aim]
  | some d => grind [Zone.aim, Zone.aimDemand]

/-- The raw target is the need over the gain, rounded up (R71). -/
theorem raw_eq_zero {d : Demand} (h : d.need ≤ 0) : d.raw = 0 := by rw [Demand.raw, if_neg (not_lt.mpr h)]

theorem raw_bounds {d : Demand} (hn : 0 < d.need) (hg : 0 < d.gain) :
    d.need * 1000 ≤ d.raw * d.gain ∧ (d.raw : Int) * d.gain < d.need * 1000 + d.gain := by
  obtain ⟨n, hd⟩ : ∃ n : Nat, d.need = n := ⟨d.need.toNat, by omega⟩
  rw [Demand.raw, if_pos hn, ceilDiv, hd, Int.toNat_natCast]
  generalize d.gain = g at hg
  have hlow := Nat.div_mul_le_self (n * 1000 + g - 1) g
  have hhigh := Nat.lt_div_mul_add (a := n * 1000 + g - 1) hg
  constructor
  · exact_mod_cast (by omega : n * 1000 ≤ (n * 1000 + g - 1) / g * g)
  · exact_mod_cast (by omega : (n * 1000 + g - 1) / g * g < n * 1000 + g)

/-! ### The slew (R76 to R78) -/

theorem levelLegal_slew_of_pos {lmin deadband up down level target : Nat} (hl : LevelLegal lmin level)
    (ht : LevelLegal lmin target) (hlmin : 1 ≤ lmin) : LevelLegal lmin (slew lmin deadband up down level target) := by
  unfold LevelLegal slew at *
  split_ifs <;> omega

theorem allowance_unlimited {code : Nat} (h : 15 ≤ code) (dt : Nat) : allowance code dt = 1000 := by
  obtain ⟨n, rfl⟩ := Nat.exists_eq_add_of_le' h
  rfl

/-! ### An evaluation (R67 to R81) -/

/-- A zone's record after its evaluation (R68 to R81). -/
def Zone.evaluated (s : State) (line z : Nat) (x : Zone) : Zone :=
  let a := x.aim s.tick (s.setpointOf x) ((s.dayOf x).2.bind fun day => s.demandFor z x (s.setpointOf x) day)
  let y := { a with setpoint := s.setpointOf x, fallbackSource := (s.dayOf x).1, lastEval := some s.tick }
  { y with level := y.newLevel (s.evalDt line x) }

theorem evaluated_eq (s : State) (line z : Nat) (x : Zone) :
    let a := x.aim s.tick (s.setpointOf x) ((s.dayOf x).2.bind fun day => s.demandFor z x (s.setpointOf x) day)
    x.evaluated s line z = { a with
      setpoint := s.setpointOf x, fallbackSource := (s.dayOf x).1, lastEval := some s.tick
      level := slew x.cfg.lmin x.cfg.deadband (allowance x.cfg.upRate (s.evalDt line x)) (allowance x.cfg.downRate (s.evalDt line x))
        x.level a.target } := by
  obtain ⟨hcfg, hlevel⟩ :=
    aim_kept s.tick (s.setpointOf x) ((s.dayOf x).2.bind fun day => s.demandFor z x (s.setpointOf x) day) x
  simp only [Zone.evaluated, Zone.newLevel, hcfg, hlevel]

/-- The record that an evaluation hands to the counters (R79). -/
def Zone.evalRecord (s : State) (line z : Nat) (x : Zone) : EvalRecord :=
  { oldLevel := x.level, dt := s.evalDt line x, setpoint := s.setpointOf x, gain := s.ownGain z x, day := (s.dayOf x).2 }

/-- What a zone learns from an evaluation's day in TRACKING (R53, R57). -/
def State.learnFrom (z : Nat) (state : ZoneState) (day : Option Nat) (v : State) : State :=
  day.elim v fun d => if state = .tracking then (v.learnRatio z d).accumulate z d else v

theorem evaluate_of_zone {s : State} {z : Nat} {x : Zone} (h : s.zone z = some x) (line : Nat) : s.evaluate line z
    = ((({ s with zones := s.zones.set z (some (x.evaluated s line z)) } : State).handIfChanged z x.level).learnFrom z x.state
      (s.dayOf x).2).recordEval z (x.evalRecord s line z) := by
  unfold State.evaluate
  simp only [h, State.modZone_eq h]
  unfold State.learnFrom Zone.evaluated Zone.evalRecord
  cases x.state <;> cases (s.dayOf x).2 <;> rfl

/-! ### The record for the counters (R170, R171) -/

/-- A zone's record with the remainders of one evaluation (R170, R171). -/
def Zone.recorded (r : EvalRecord) (x : Zone) : Zone :=
  { x with rem := { x.rem with
    electric := (x.rem.electric + r.oldLevel * r.dt) % 1000, saved := (x.rem.saved + savedAdd r) % 1000
    daylit := (x.rem.daylit + daylitAdd r) % 1000 } }

theorem recordEval_of_zone {s : State} {z : Nat} {x : Zone} (h : s.zone z = some x) (r : EvalRecord) : s.recordEval z r
    = ((({ s with zones := s.zones.set z (some (x.recorded r)) } : State).countBy (.electric z)
      ((x.rem.electric + r.oldLevel * r.dt) / 1000)).countBy (.saved z) ((x.rem.saved + savedAdd r) / 1000)).countBy
        (.daylitS z) ((x.rem.daylit + daylitAdd r) / 1000) := by
  unfold State.recordEval
  simp only [h, State.modRem, State.modZone_eq h]
  rfl

theorem zones_length_countBy (s : State) (k : Counter) (n : Nat) : (s.countBy k n).live.zones.length = s.live.zones.length := by
  rw [State.live_countBy]
  cases k <;> simp [Counters.put]

/-- Three zone counters, one after another: each takes its own increment (R170, R171). -/
theorem get_countBy_zone {s : State} {z : Nat} (hz : z < s.live.zones.length) (e v d : Nat) :
    let t := ((s.countBy (.electric z) e).countBy (.saved z) v).countBy (.daylitS z) d
    t.live.get (.electric z) = min 4294967295 (s.live.get (.electric z) + e)
      ∧ t.live.get (.saved z) = min 4294967295 (s.live.get (.saved z) + v)
      ∧ t.live.get (.daylitS z) = min 4294967295 (s.live.get (.daylitS z) + d)
      ∧ ∀ k, k ≠ .electric z → k ≠ .saved z → k ≠ .daylitS z → t.live.get k = s.live.get k := by
  have h1 : z < (s.countBy (.electric z) e).live.zones.length := (zones_length_countBy ..).symm ▸ hz
  have h2 : z < ((s.countBy (.electric z) e).countBy (.saved z) v).live.zones.length := (zones_length_countBy ..).symm ▸ h1
  refine ⟨?_, ?_, ?_, fun k he hv hd => ?_⟩
  · rw [get_countBy_ne _ (by simp), get_countBy_ne _ (by simp), get_countBy_same (k := .electric z) hz]
  · rw [get_countBy_ne _ (by simp), get_countBy_same (k := .saved z) h1, get_countBy_ne _ (by simp)]
  · rw [get_countBy_same (k := .daylitS z) h2, get_countBy_ne _ (by simp), get_countBy_ne _ (by simp)]
  · rw [get_countBy_ne _ hd, get_countBy_ne _ hv, get_countBy_ne _ he]

theorem get_recordEval {s : State} {z : Nat} {x : Zone} (h : s.zone z = some x) (hz : z < s.live.zones.length) (r : EvalRecord) :
    let t := s.recordEval z r
    t.live.get (.electric z) = min 4294967295 (s.live.get (.electric z) + (x.rem.electric + r.oldLevel * r.dt) / 1000)
      ∧ t.live.get (.saved z) = min 4294967295 (s.live.get (.saved z) + (x.rem.saved + savedAdd r) / 1000)
      ∧ t.live.get (.daylitS z) = min 4294967295 (s.live.get (.daylitS z) + (x.rem.daylit + daylitAdd r) / 1000)
      ∧ ∀ k, k ≠ .electric z → k ≠ .saved z → k ≠ .daylitS z → t.live.get k = s.live.get k := by
  intro t
  have ht : t = _ := recordEval_of_zone h r
  rw [ht]
  exact get_countBy_zone (s := { s with zones := s.zones.set z (some (x.recorded r)) }) hz _ _ _

theorem flagsGrow_recordEval (s : State) (z : Nat) (r : EvalRecord) : FlagsGrow [.counterSaturated] s (s.recordEval z r) := by
  unfold State.recordEval
  split
  · exact flagsGrow_refl _ s
  · refine FlagsGrow.countBy (FlagsGrow.countBy (FlagsGrow.countBy ?_ _ _) _ _) _ _
    exact flagsGrow_of_flags rfl

theorem zoneBecomes_recordEval {s : State} {z : Nat} {x : Zone} (h : s.zone z = some x) (r : EvalRecord) :
    ZoneBecomes s z (s.recordEval z r) (x.recorded r) := by
  rw [recordEval_of_zone h]
  exact (((ZoneBecomes.setZone h _).countBy _ _).countBy _ _).countBy _ _

/-- A half-hour boundary's part of what a zone has learned (R58). -/
theorem boundary_eq (swept : Bool) (b : Nat) (m : Learned) : m.boundary swept b = { m with
    accSum := 0, accCount := 0
    bins := if swept = true ∨ m.accCount < 10 then m.bins
      else m.bins.modify b fun old =>
        some (old.elim (m.accSum / m.accCount) fun v => moveToward 4 v (m.accSum / m.accCount)) } := by
  cases swept with
  | true => rfl
  | false =>
    by_cases few : m.accCount < 10
    · have same : binUpdate m.accSum m.accCount = id := by funext old; rw [binUpdate, if_pos few]; rfl
      simp only [Learned.boundary, same, few, or_true, if_true, List.modify_id]
      rfl
    · have moved : binUpdate m.accSum m.accCount = fun old =>
          some (old.elim (m.accSum / m.accCount) fun v => moveToward 4 v (m.accSum / m.accCount)) := by
        funext old
        rw [binUpdate, if_neg few]
      simp only [Learned.boundary, moved, few, Bool.false_eq_true, or_self, if_false]

/-! ### What an evaluation and a boundary learn (R53, R54, R57, R58) -/

theorem learnRatio_of_zone {s : State} {z : Nat} {x : Zone} (h : s.zone z = some x) (day : Nat) : s.learnRatio z day
    = ((s.segment x.cfg.segment).cfg.windowSensor.bind s.sensor).elim s fun w =>
      if (x.cfg.controlSensor.bind s.sensor).any (fun c => decide (c.health = .ok)) = true ∧ w.health = .ok ∧ 200 ≤ w.daylightF
          ∧ s.sweep.state = .idle then
        { s with zones := s.zones.set z (some { x with learned := x.learned.learnRatio day w.daylightF }) }
      else s := by
  have idle : (!s.sweeping) = decide (s.sweep.state = .idle) := by rw [State.sweeping, decide_not, Bool.not_not]
  unfold State.learnRatio
  simp only [h, State.modLearned, State.modZone_eq h, idle, State.controlOf, Bool.and_eq_true, decide_eq_true_eq, and_assoc]
  cases hw : s.windowOf x.cfg.segment <;> rw [State.windowOf] at hw <;> rw [hw] <;> rfl

theorem accumulate_of_zone {s : State} {z : Nat} {x : Zone} (h : s.zone z = some x) (day : Nat) : s.accumulate z day
    = if (x.cfg.controlSensor.bind s.sensor).any (fun c => decide (c.health = .ok)) = true ∧ s.clock.valid = true
        ∧ s.sweep.state = .idle then
      { s with zones := s.zones.set z (some { x with learned := x.learned.accumulate day }) }
    else s := by
  have idle : (!s.sweeping) = decide (s.sweep.state = .idle) := by rw [State.sweeping, decide_not, Bool.not_not]
  unfold State.accumulate
  simp only [h, State.modLearned, State.modZone_eq h, idle, State.controlOf, Bool.and_eq_true, decide_eq_true_eq, and_assoc]

end Sys2Proof.Machine
end

section
/-! PROOFS. Chapter 4: zones resolved, evaluated and overridden (R53 to R83). -/

namespace Sys2Proof.Machine

open Sys2Proof.Safety

set_option Elab.async false

/-- Settles O36: each operation of the ZCU on a zone by its own lemma. -/
theorem aZoneIsResolvedAndEvaluated : Obligations.AZoneIsResolvedAndEvaluated := by
  refine ⟨?resolution, ?setpoint, ?day, ?evaluation, ?aim, ?slew, fun code dt h => allowance_unlimited h dt, fun dt => rfl,
    ?record, ?learning⟩
  case resolution =>
    intro s z x h n y u
    have hn : s.resolved z x = n := resolved_eq s z x
    refine ⟨hn, by have := (zoneBecomes_resolveHeld h).rest; rwa [hn] at this, flagsGrow_resolveHeld h, hn ▸ zoneFallback_resolveHeld h,
      fun k hk => get_resolveHeld_of h (hn ▸ hk), fun m hx hne hm hz => get_resolveHeld_override h hx (hn ▸ hne) hm hz, ?_⟩
    have := resolve_of_zone h
    rwa [hn] at this
  case setpoint =>
    exact fun s x => ⟨fun i q hv hc first => setpointOf_covered hv hc first, setpointOf_uncovered⟩
  case day =>
    intro s x window bin
    have hw : s.windowDay x = window := by
      rw [windowDay_eq]
      simp only [window]
      cases (s.segment x.cfg.segment).cfg.windowSensor.bind s.sensor <;> rfl
    have hb : s.profileDay x = bin := rfl
    rw [State.dayOf, State.fallbackDay, hw, hb]
    by_cases ht : x.state = .tracking
    · rw [if_pos ht, if_pos ht]; rfl
    · rw [if_neg ht, if_neg ht, ite_not]
      cases window <;> cases bin <;> rfl
  case evaluation =>
    intro s z line x h hx sp src gain need dt a y u v
    have hrecord : x.evaluated s line z = y := by
      rw [evaluated_eq]
      simp only [need_eq]
      rfl
    have hhand : u.handIfChanged z x.level = v :=
      handIfChanged_of_zone (zone_set_same h y) _
    rw [evaluate_of_zone h, hrecord, hhand, Zone.evalRecord, ownGain_eq, State.learnFrom]
    cases (s.dayOf x).2 <;> rfl
  case aim =>
    intro x now sp d hsp hg
    refine ⟨rfl, rfl, by rw [Zone.aim, if_neg (by omega)], d.raw, raw_eq_zero, fun hn => raw_bounds hn hg, ?_⟩
    rw [Zone.aim, if_neg (by omega)]
    rfl
  case slew =>
    intro lmin deadband up down level target hl ht hlmin new
    refine ⟨?_, ?_, ?_, ?_, ?_, levelLegal_slew_of_pos hl ht hlmin⟩ <;> intros <;> simp only [new, slew] <;> split_ifs <;> omega
  case record =>
    intro s z x r h hz t saved daylit adds
    obtain ⟨he, hv, hd, others⟩ := get_recordEval h hz r
    exact ⟨he, hv, hd, others, flagsGrow_recordEval s z r, (zoneBecomes_recordEval h r).rest⟩
  case learning =>
    intro s z day x h good toward
    refine ⟨?_, accumulate_of_zone h day, fun b => ?_⟩
    · rw [learnRatio_of_zone h]
      cases (s.segment x.cfg.segment).cfg.windowSensor.bind s.sensor <;> rfl
    · have swept : s.sweeping = decide (s.sweep.state ≠ .idle) := rfl
      rw [State.boundary, swept]
      refine congrArg (fun f => { s with zones := s.zones.map (Option.map f) }) (funext fun y => ?_)
      have moved (m : Nat) : (fun old : Option Nat => some (old.elim m fun v => moveToward 4 v m))
          = fun old => some (match old with
            | none => m
            | some v => toward 4 v m) := by
        funext old
        cases old <;> rfl
      simp only [boundary_eq, decide_eq_true_eq, moved] <;> rfl

/-! ### Overrides (R82, R83) -/

/-- A resolution that leaves OVERRIDE as it is, or enters it, counts and latches nothing (R65, R172). -/
theorem resolveHeld_override {s : State} {z : Nat} {x : Zone} (h : s.zone z = some x) (hn : s.resolved z x = .override) :
    s.resolveHeld z = { s with zones := s.zones.set z (some (resolvedZone s z .override x)) } := by
  obtain ⟨live, flags⟩ := resolveHeld_counts h
  have quiet (b : Bool) : (b && latchesFallback x.state .override) = false := by cases b <;> rfl
  rw [if_neg fun e => e.1 (hn.trans e.2.symm)] at live flags
  rw [hn, quiet] at flags
  have rest := (zoneBecomes_resolveHeld h).rest
  rw [hn, live, flags] at rest
  exact rest

/-- An entry into OVERRIDE (R65, R82). -/
theorem resolvedZone_override {s : State} {z : Nat} {x : Zone} (hx : x.state ≠ .override) :
    resolvedZone s z .override x = overridden s.tick x.overrideLevel x := by
  rw [resolvedZone, if_neg (Ne.symm hx)]
  cases hm : x.rem.mark <;> simp [overridden, hx]

theorem stateByOrder_override {s : State} {z : Nat} {x : Zone} (hidle : s.sweep.state = .idle) (he : x.cfg.enabled = true)
    (ha : x.overrideActive = true) : stateByOrder s z x = .override := by simp [stateByOrder, hidle, he, ha]

/-- Settles O37: a zone in OVERRIDE takes the level, any other enabled one enters OVERRIDE by the order, and a disabled one stays. -/
theorem overrideZoneTakesTheLevel : Obligations.OverrideZoneTakesTheLevel := by
  intro tag z level duration s x hr hsweep hz hx hlevel hduration stored w y u result
  have hidle : s.sweep.state = .idle := by simpa [State.sweeping] using hsweep
  have hstored : s.storedOverride z level = stored := by rw [State.storedOverride, hx]; rfl
  have taken : (s.modZone z (Zone.takeOverride s.tick level duration)) = { s with zones := s.zones.set z (some w) } :=
    State.modZone_eq hx _
  have here := zone_set_same hx w
  have swept : (!s.sweeping) = true := by rw [hsweep]; rfl
  have fields : (decide (level ≤ 1000) && decide (duration ≤ 1440)) = true := by simp [hlevel, hduration]
  have answer : exec (.overrideZone tag z level duration) s = .next (answered .overrideZone tag result (u16 stored ++ u16 duration)
      (({ s with zones := s.zones.set z (some w) } : State).applyOverride z)) := by
    have := exec_of_passes (k := .overrideZone) (tag := tag) (c := .overrideZone tag z level duration) hr rfl rfl (passes_cons swept
      (passes_cons (decide_eq_true hz) (passes_cons (Option.isSome_of_eq_some hx) (passes_cons fields passes_nil))))
    rwa [hstored, taken] at this
  rw [answer]
  have hsame (he : x.cfg.enabled = true) : ({ s with zones := s.zones.set z (some w) } : State).applyOverride z
      = u.handIfChanged z x.level := by
    unfold State.applyOverride
    simp only [here]
    by_cases hx' : x.state = .override
    · rw [if_pos hx', State.modZone_eq here]
      simp only [u, y, if_pos hx', List.set_set]
      rfl
    · have hn : ({ s with zones := s.zones.set z (some w) } : State).resolved z w = .override :=
        (resolved_eq ..).trans (stateByOrder_override hidle he rfl)
      rw [if_neg hx', State.resolve, resolveHeld_override here hn, resolvedZone_override (x := w) hx', levelOf_of_zone here]
      simp only [u, y, if_neg hx', List.set_set]
      rfl
  refine ⟨fun he => ?_, fun he hdis => ?_⟩
  · have level : y.level = stored := by
      simp only [y]
      split <;> rfl
    simp only [hsame he, u, handIfChanged_of_zone (zone_set_same hx y), level, eq_comm]
  · have hn : ({ s with zones := s.zones.set z (some w) } : State).resolved z w = w.state := by
      rw [resolved_eq, stateByOrder, if_pos he]
      exact hdis.symm
    have hover : w.state ≠ .override := fun e => by cases hdis.symm.trans e
    have hfall : w.state ≠ .fallback := fun e => by cases hdis.symm.trans e
    unfold State.applyOverride
    simp only [here, if_neg hover]
    rw [State.resolve, resolveHeld_same here hn hfall, State.handIfChanged, if_pos rfl]

/-- Settles O38: an override's end is the resolution of the zone without it. -/
theorem anOverrideEnds : Obligations.AnOverrideEnds := by
  intro tag z s x hx u
  have hu : u.zone z = some _ := zone_set_same hx _
  have ended : s.endOverride z = u.resolve z := by rw [State.endOverride, State.modZone_eq hx]
  have released (hr : s.running = true) : exec (.releaseZone tag z) s = .next (answered .releaseZone tag .ok
      (flag8 x.overrideActive) (if x.overrideActive then s.endOverride z else s)) := by
    have := exec_of_passes_ok (k := .releaseZone) (tag := tag) (c := .releaseZone tag z) hr rfl rfl
      (passes_cons (decide_eq_true z.isLt) (passes_cons (Option.isSome_of_eq_some hx) passes_nil))
    rwa [hx] at this
  have expired : exec (.overrideExpiry z) s
      = .next (if x.overrideActive && x.overrideExpiry.isSome then s.endOverride z else s) := by
    change Host.Outcome.next _ = _
    rw [hx]
    rfl
  rw [expired]
  refine ⟨fun ha => ⟨fun hr => by rw [released hr, ha]; rfl, by rw [ha]; rfl⟩, fun ha => ⟨_, rfl, fun hr => ?_, ?_, resolves_one z u, ?_, ?_⟩⟩
  · rw [released hr, ha, ended]; rfl
  · rw [ha, ended, Bool.true_and]
  · intro y hy
    rw [zone_resolve_eq hu, Option.some.injEq] at hy
    rw [← hy]
    obtain ⟨-, active, expiry, -⟩ := resolvedZone_kept u z (stateByOrder u z _) _
    refine ⟨by rw [resolvedZone_state]; exact stateByOrder_ne_override _ _ _ rfl, active, expiry, fun he => ?_⟩
    rw [resolvedZone_level, if_neg (stateByOrder_ne_override _ _ _ rfl), if_neg ((stateByOrder_eq_disabled ..).not.mpr ?_), ite_self]
    rw [he]
    exact Bool.noConfusion
  · intro m hover hm hz
    have left : u.resolved z { x with overrideActive := false, overrideExpiry := none } ≠ .override := by
      rw [resolved_eq]
      exact stateByOrder_ne_override _ _ _ rfl
    rw [get_resolve _ rfl]
    exact get_resolveHeld_override (x := { x with overrideActive := false, overrideExpiry := none }) hu hover left hm hz

end Sys2Proof.Machine
end

section
/-! PROOFS. Chapters 8 and 9: the clock, the occupancy inputs and the snapshot (R154 to R165, R174). -/

namespace Sys2Proof.Machine

open Sys2Proof.Safety

set_option Elab.async false

/-! ### The clock (R154 to R159) -/

theorem clockSecondAdvance_of_running {s : State} (h : s.clock.stopped = false) : exec .clockSecondAdvance s = .next s.advanceClock := by
  change Host.Outcome.next (if s.clock.stopped then s else s.advanceClock) = _
  rw [h]
  rfl

theorem atEnd_withSubsec_iff (c : Clock) (n : Nat) : Clock.atEnd { c with subsec := n } = true
    ↔ c.year = 2099 ∧ c.month = 12 ∧ c.day = 31 ∧ c.hour = 23 ∧ c.minute = 59 ∧ c.second = 59 := decide_eq_true_iff

/-- A second taken off the sub-second count (log 23). -/
theorem secondTaken_eq {s : State} {n : Nat} (hn : s.clock.subsec - 32768000 = n) :
    (s.modClock fun c => { c with subsec := c.subsec - secondThousandths }) = { s with clock := { s.clock with subsec := n } } := by
  simp only [State.modClock, secondThousandths, hn]

/-- A second within the range (R154, R159). -/
theorem advanceClock_within {s : State} {n : Nat} (hn : s.clock.subsec - 32768000 = n) (h : ¬ (s.clock.year = 2099 ∧ s.clock.month = 12 ∧ s.clock.day = 31 ∧ s.clock.hour = 23
    ∧ s.clock.minute = 59 ∧ s.clock.second = 59)) : s.advanceClock
      = ({ s with clock := Clock.advance { s.clock with subsec := n } } : State).raiseBoundary := by
  rw [State.advanceClock, secondTaken_eq hn]
  exact if_neg ((atEnd_withSubsec_iff s.clock n).not.mpr h)

/-- The last second of the range (R154, R155). -/
theorem advanceClock_atEnd {s : State} {n : Nat} (hn : s.clock.subsec - 32768000 = n) (h : s.clock.year = 2099 ∧ s.clock.month = 12 ∧ s.clock.day = 31 ∧ s.clock.hour = 23
    ∧ s.clock.minute = 59 ∧ s.clock.second = 59) : s.advanceClock = State.latch .clockInvalid
      { (if s.clock.valid then s.clearAccumulators else s) with clock := { s.clock with
        subsec := n, year := 2000, month := 1, day := 1, hour := 0, minute := 0, second := 0, weekday := 5
        valid := false } } := by
  rw [State.advanceClock, secondTaken_eq hn]
  refine (if_pos ((atEnd_withSubsec_iff s.clock n).mpr h)).trans ?_
  unfold State.invalidateClock
  cases hv : s.clock.valid
  · simp [State.modClock, hv]
  · simp [State.modClock, hv, State.clearAccumulators]

theorem raiseBoundary_eq (s : State) : s.raiseBoundary
    = if s.clock.valid = true ∧ s.clock.second = 0 ∧ (s.clock.minute = 0 ∨ s.clock.minute = 30) then
      s.boundary ((s.clock.bin + 47) % 48) else s := by
  simp only [State.raiseBoundary, Bool.and_eq_true, decide_eq_true_eq, and_assoc]

/-- A stop of the crystal (R155, R156). -/
theorem oscillatorStop_of_running {s : State} (h : s.clock.stopped = false) : exec .oscillatorStop s = .next (State.latch .clockInvalid
    { (if s.clock.valid then s.clearAccumulators else s) with clock := { s.clock with stopped := true, valid := false } }) := by
  change Host.Outcome.next (if s.clock.stopped then s else _) = _
  rw [h]
  unfold State.invalidateClock
  cases hv : s.clock.valid
  · simp [State.modClock, hv]
  · simp [State.modClock, hv, State.clearAccumulators]

/-- Settles O55: the second's advance by the field that it carries into. -/
theorem theClockIsSetAndAdvances : Obligations.TheClockIsSetAndAdvances := by
  intro tag r s
  generalize hn : s.clock.subsec - 32768000 = n
  refine ⟨rfl, ?set, ?stopped, ?second, ?minute, ?hour, ?midnight, oscillatorStop_of_running, rfl⟩
  case set =>
    intro hr hy1 hy2 hm1 hm2 hd1 hd2 hh hmin hs c
    exact exec_of_passes_ok hr rfl rfl (passes_cons (setClockInRange_iff.mpr ⟨hy1, hy2, hm1, hm2, hd1, hd2, hh, hmin, hs⟩) passes_nil)
  case stopped =>
    intro h
    refine ⟨?_, ?_⟩
    · change Host.Outcome.next (if s.clock.stopped then s else _) = _
      rw [h]; rfl
    · change Host.Outcome.next (if s.clock.stopped then s else _) = _
      rw [h]; rfl
  case second =>
    intro hrun hs
    rw [clockSecondAdvance_of_running hrun, advanceClock_within hn (by omega), raiseBoundary_eq]
    have next : Clock.advance { s.clock with subsec := n }
        = { s.clock with subsec := n, second := s.clock.second + 1 } := by
      simp only [Clock.advance, hs, if_true]
    rw [next, if_neg fun e => Nat.succ_ne_zero _ e.2.1]
  case minute =>
    intro hrun hs hm hh
    refine ⟨_, rfl, ?_⟩
    have next : Clock.advance { s.clock with subsec := n }
        = { s.clock with subsec := n, second := 0, minute := s.clock.minute + 1 } := by
      simp only [Clock.advance, hs, hm, lt_irrefl, if_true, if_false]
    rw [clockSecondAdvance_of_running hrun, advanceClock_within hn (by omega), next, raiseBoundary_eq]
    refine congrArg Host.Outcome.next (ite_congr (propext ⟨fun e => ⟨e.1, ?_⟩, fun e => ⟨e.1, rfl, Or.inr ?_⟩⟩) (fun e => ?_) fun _ => rfl)
    · have := e.2.2
      dsimp only at this
      omega
    · dsimp only
      omega
    · refine congrArg (State.boundary · _) ?_
      simp only [Clock.bin, Clock.minuteOfDay]
      omega
  case hour =>
    intro hrun hs hm hh
    refine ⟨_, rfl, ?_⟩
    have next : Clock.advance { s.clock with subsec := n }
        = { s.clock with subsec := n, second := 0, minute := 0, hour := s.clock.hour + 1 } := by
      simp only [Clock.advance, hs, hm, hh, lt_irrefl, if_true, if_false]
    rw [clockSecondAdvance_of_running hrun, advanceClock_within hn (by omega), next, raiseBoundary_eq]
    refine congrArg Host.Outcome.next (ite_congr (propext ⟨fun e => e.1, fun e => ⟨e, rfl, Or.inl rfl⟩⟩) (fun e => ?_) fun _ => rfl)
    refine congrArg (State.boundary · _) ?_
    simp only [Clock.bin, Clock.minuteOfDay]
    omega
  case midnight =>
    intro hrun hs hm hh hmonth hday c
    rw [clockSecondAdvance_of_running hrun]
    by_cases last : s.clock.year = 2099 ∧ s.clock.month = 12 ∧ s.clock.day = 31
    · have month : daysInMonth s.clock.year s.clock.month = 31 := by rw [last.1, last.2.1]; rfl
      rw [advanceClock_atEnd hn ⟨last.1, last.2.1, last.2.2, hh, hm, hs⟩, if_pos last]
      have short : ¬ s.clock.day < daysInMonth s.clock.year s.clock.month := by omega
      simp only [c, short, if_false, if_pos last.2.1]
    · have next : Clock.advance { s.clock with subsec := n } = c := by
        simp only [Clock.advance, hs, hm, hh, lt_irrefl, if_false, Clock.nextDay, c]
        by_cases day : s.clock.day < daysInMonth s.clock.year s.clock.month
        · simp only [day, if_true, Nat.ne_of_lt day, false_and, if_false]
        · have full : s.clock.day = daysInMonth s.clock.year s.clock.month := by omega
          by_cases month : s.clock.month < 12
          · simp only [day, month, Nat.ne_of_lt month, if_true, and_false, if_false]
          · have december : s.clock.month = 12 := by omega
            rw [if_neg day, if_neg month, if_neg day, if_neg day, if_pos december, if_pos ⟨full, december⟩]
      rw [advanceClock_within hn (fun e => last ⟨e.1, e.2.1, e.2.2.1⟩), next, raiseBoundary_eq, if_neg last]
      refine congrArg Host.Outcome.next (ite_congr (propext ⟨fun e => e.1, fun e => ⟨e, rfl, Or.inl rfl⟩⟩) (fun e => ?_) fun _ => rfl)
      refine congrArg (State.boundary · _) ?_
      simp only [Clock.bin, Clock.minuteOfDay, c]

/-! ### The occupancy inputs (R164, R165) -/

/-- A change of an entry that the list has is a new entry there. -/
theorem modify_eq_set_of_get {α : Type} {l : List α} {i : Nat} {x : α} (h : l[i]? = some x) (f : α → α) : l.modify i f = l.set i (f x) := by
  rw [List.modify_eq_set_getElem?, h]
  rfl

theorem getD_of_get {α : Type} {l : List α} {i : Nat} {x : α} (h : l[i]? = some x) (d : α) : l.getD i d = x := by
  rw [List.getD_eq_getElem?_getD, h]
  rfl

theorem occInput_of_get {s : State} {i : Nat} {o : OccInput} (h : s.occ[i]? = some o) : s.occInput i = o := getD_of_get h _

theorem modOcc_of_get {s : State} {i : Nat} {o : OccInput} (h : s.occ[i]? = some o) (f : OccInput → OccInput) :
    s.modOcc i f = { s with occ := s.occ.set i (f o) } := by rw [State.modOcc, modify_eq_set_of_get h]

/-- What a debounced level makes of a zone that names its input (R165). -/
theorem takeOcc_eq (active : Bool) (timer : Timer) (x : Zone) : x.takeOcc active timer
    = if active = true then { x with occupancy := .occupied, vacancy := none }
      else if x.occupancy = .occupied then { x with occupancy := .vacancyPending, vacancy := some timer } else x := by
  cases active with
  | true => rfl
  | false => cases h : x.occupancy <;> simp [Zone.takeOcc, h]

/-- Settles O56. -/
theorem occupancyFollowsItsInput : Obligations.OccupancyFollowsItsInput := by
  intro i level z s o ho
  have here := occInput_of_get ho
  have expiry : exec (.occDebounceExpiry i) s = .next (if o.debounce.isSome then s.takeOccLevel i else s) := by rw [← here]; rfl
  refine ⟨?change, ?idle, ?held, ?vacancy⟩
  case change =>
    change Host.Outcome.next _ = _
    rw [here, modOcc_of_get ho]
    simp only [eq_comm]
    rfl
  case idle =>
    intro h
    rw [expiry, h]
    rfl
  case held =>
    intro h
    rw [expiry, if_pos h, State.takeOccLevel, here, modOcc_of_get ho]
    simp only [takeOcc_eq, ite_not]
    rfl
  case vacancy =>
    intro x hx
    change Host.Outcome.next (s.modZone z _) = _
    rw [State.modZone_eq hx]
    cases hv : x.vacancy with
    | none => simp only [Option.isSome_none, Bool.false_eq_true, if_false, if_true, set_entryAt_self hx]
    | some t => simp

/-! ### The snapshot (R174) -/

/-- Settles O57. -/
theorem snapshotCopiesAndClears : Obligations.SnapshotCopiesAndClears := by
  intro tag clear s hr hc
  obtain rfl | rfl : clear = 0 ∨ clear = 1 := by omega
  · exact ⟨s.takeSnapshot false, exec_of_passes_ok hr rfl rfl passes_nil, fun _ => rfl, rfl, rfl, rfl, fun _ => rfl, rfl, rfl⟩
  · exact ⟨s.takeSnapshot true, exec_of_passes_ok hr rfl rfl passes_nil, fun _ => rfl, rfl, rfl, rfl, get_zero, rfl, rfl⟩

end Sys2Proof.Machine
end

section
/-! PROOFS. Chapter 1: sensors, segments and zones stored, made and deleted (R4 to R15). -/

namespace Sys2Proof.Machine

open Sys2Proof.Safety

set_option Elab.async false

/-! ### Sensors (R5 to R8) -/

/-- Two lists of zones in ascending index of the same property are one. -/
theorem eq_of_zonesInOrder {s : State} {p : Zone → Prop} {q : Zone → Bool} {l : List Nat} (h : ZonesInOrder s p l)
    (hq : ∀ x, q x = true ↔ p x) : l = s.zonesWhere q := by
  obtain ⟨hsorted, hmem⟩ := h
  have sorted : (s.zonesWhere q).Pairwise (· < ·) := List.pairwise_lt_range.filter _
  refine List.Perm.eq_of_pairwise (fun a b _ _ hab hba => absurd hab (Nat.lt_asymm hba)) hsorted sorted ?_
  refine (List.perm_ext_iff_of_nodup (hsorted.imp Nat.ne_of_lt) (sorted.imp Nat.ne_of_lt)).mpr fun i => ?_
  rw [hmem, State.mem_zonesWhere]
  simp only [hq]

/-- The zones of a sensor, resolved in ascending index (R7, R34). -/
theorem namersResolved (i : Nat) (s : State) : NamersResolved i s (s.resolveZonesOf i) := by
  refine ⟨fun zones h => ?_, ?_⟩
  · rw [eq_of_zonesInOrder h (q := fun x => decide (x.cfg.controlSensor = some i)) fun x => decide_eq_true_iff]
    rfl
  · have moved := resolves_forEach (s.zonesWhere fun x => decide (x.cfg.controlSensor = some i)) s
    have named (z : Nat) : z ∈ (s.zonesWhere fun x => decide (x.cfg.controlSensor = some i)) ↔ Names s i z := by
      simp only [State.mem_zonesWhere, decide_eq_true_eq]
      rfl
    simp only [named] at moved
    exact moved

theorem sensors_resolveZonesOf (i : Nat) (s : State) : (s.resolveZonesOf i).sensors = s.sensors := by
  rw [(namersResolved i s).moves.rest]

/-- A kept sensor entry's runtime follows a change of enabled (R7). -/
theorem redefine_kept {x new : Sensor} (h : x.sameIdentity new = true) :
    Sensor.redefine (some x) new = keptSensor x new.enabled new.scale new.fallCoeff new.riseCoeff := by
  rw [Sensor.redefine, h, keptSensor]
  cases x.enabled <;> cases new.enabled <;> rfl

theorem sameIdentity_iff {x new : Sensor} :
    x.sameIdentity new = true ↔ x.kind = new.kind ∧ x.line = new.line ∧ x.address = new.address := by
  simp only [Sensor.sameIdentity, Bool.and_eq_true, decide_eq_true_eq, and_assoc]

/-- A definition that replaces an entry (R7). -/
theorem storeSensor_of_some {s : State} {i : Nat} {x : Sensor} (h : s.sensor i = some x) (new : Sensor) :
    let u := { s with
      sensors := s.sensors.set i (some (Sensor.redefine (some x) new))
      sensorLines := if !x.sameIdentity new || (x.enabled && !new.enabled) then discarding i s.sensorLines else s.sensorLines }
    s.storeSensor i new = if !x.sameIdentity new || decide (x.enabled ≠ new.enabled) then u.resolveZonesOf i else u := by
  unfold State.storeSensor
  simp only [h]
  cases hd : (!x.sameIdentity new || (x.enabled && !new.enabled)) <;> rfl

theorem storeSensor_of_none {s : State} {i : Nat} (h : s.sensor i = none) (new : Sensor) :
    s.storeSensor i new = { s with sensors := s.sensors.set i (some new) } := by
  unfold State.storeSensor
  simp only [h]
  rfl

theorem sensor_set_same {s : State} {i : Nat} (h : i < s.sensors.length) (y : Sensor) (lines : List SensorLine) :
    ({ s with sensors := s.sensors.set i (some y), sensorLines := lines } : State).sensor i = some y :=
  (entryAt_set ..).trans (if_pos ⟨rfl, h⟩)

/-- What the storing of a sensor leaves, and the entry that the reply names. -/
theorem storeSensor_entry {s : State} {i : Nat} (hi : i < s.sensors.length) (new : Sensor) :
    (s.storeSensor i new).sensor i = some (Sensor.redefine (s.sensor i) new) := by
  cases h : s.sensor i with
  | none =>
    rw [storeSensor_of_none h]
    exact sensor_set_same hi new s.sensorLines
  | some x =>
    rw [storeSensor_of_some h]
    split
    · rw [State.sensor, sensors_resolveZonesOf]
      exact sensor_set_same hi _ s.sensorLines
    · exact sensor_set_same hi _ _

/-- Settles O17: a new entry, a changed identity, and a kept one. -/
theorem sensorsAreDefinedAndSet : Obligations.SensorsAreDefinedAndSet := by
  refine ⟨?define, ?set⟩
  case define =>
    intro tag r s kind hs hlen hi hk hl ha1 ha2 hne hon hscale haddr hkind hroom on scale fall rise old kept y drops u
    have quiet := State.quiet_of_undisturbed hs
    have place : (decide (r.line < 2) && sensorAddressOk r.line r.address && sensorFieldsOk r.enabled r.scale) = true := by
      simp only [Bool.and_eq_true, decide_eq_true_eq, sensorAddressOk_iff, sensorFieldsOk_iff]
      exact ⟨⟨hl, ha1, ha2, hne⟩, fun v hv => ⟨Nat.zero_le v, hon v hv⟩, hscale⟩
    have free := Bool.and_eq_true_iff.mpr ⟨address_free_iff.mpr haddr, hkind⟩
    have room : decide ((s.othersOnLine r.index r.line).length < Config.maxSensorsPerLine) = true := by
      rw [othersOnLine_eq]; exact decide_eq_true hroom
    have requested : requestedSensor r = some (newSensor kind r.line r.address on scale fall rise) := by
      simp only [requestedSensor, hk, Option.map_some, clampOr_eq (by omega : 1 ≤ 16), flagOr_eq fun v hv => ⟨Nat.zero_le v, hon v hv⟩]
      rfl
    have answer := exec_of_passes (k := .defineSensor) (tag := tag) (c := .defineSensor tag r) hs.1 rfl
      (by simp only [serveDefineSensor, requested]; rfl)
      (passes_cons quiet (passes_cons (decide_eq_true hi) (passes_cons place (passes_cons free (passes_cons room passes_nil)))))
    rw [sensorReply_of_some (storeSensor_entry (hlen ▸ hi) _), coeffsClamped, clamps_eq (by omega), clamps_eq (by omega)] at answer
    suffices h : Sensor.redefine old (newSensor kind r.line r.address on scale fall rise) = y
        ∧ if (old.isNone || kept.any fun x => decide (x.enabled = on)) = true then
            s.storeSensor r.index (newSensor kind r.line r.address on scale fall rise) = u
          else NamersResolved r.index u (s.storeSensor r.index (newSensor kind r.line r.address on scale fall rise)) by
      exact ⟨_, answer.trans (by rw [h.1]), h.2⟩
    cases hold : s.sensor r.index with
    | none =>
      have hkept : kept = none := by simp only [kept, old, hold]; rfl
      simp only [old, hold, u, y, drops, hkept, storeSensor_of_none hold]
      exact ⟨rfl, rfl⟩
    | some x =>
      rw [storeSensor_of_some hold]
      by_cases same : x.kind = kind ∧ x.line = r.line ∧ x.address = r.address
      · have hkept : kept = some x := by simp only [kept, old, hold, Option.filter, same, and_self, decide_true, if_true]
        have hid : x.sameIdentity (newSensor kind r.line r.address on scale fall rise) = true := sameIdentity_iff.mpr same
        simp only [old, hold, u, y, drops, hkept, redefine_kept hid, hid]
        refine ⟨rfl, ?_⟩
        by_cases he : x.enabled = on
        · change if decide (x.enabled = on) = true then (if decide (x.enabled ≠ on) = true then _ else _) = _ else NamersResolved ..
          rw [decide_eq_true he, decide_eq_false (p := x.enabled ≠ on) fun e => e he]
          rfl
        · change if decide (x.enabled = on) = true then _ else NamersResolved _ _ (if decide (x.enabled ≠ on) = true then _ else _)
          rw [decide_eq_false he, decide_eq_true (p := x.enabled ≠ on) he]
          exact namersResolved ..
      · have hkept : kept = none := by simp only [kept, old, hold, Option.filter, same, decide_false]; rfl
        have hid : x.sameIdentity (newSensor kind r.line r.address on scale fall rise) = false :=
          Bool.eq_false_iff.mpr fun e => same (sameIdentity_iff.mp e)
        simp only [old, hold, u, y, drops, hkept, Sensor.redefine, hid]
        exact ⟨rfl, namersResolved ..⟩
  case set =>
    intro tag r s x hs hi hx hon hscale on y u
    have quiet := State.quiet_of_undisturbed hs
    have fields : sensorFieldsOk r.enabled r.scale = true :=
      sensorFieldsOk_iff.mpr ⟨fun v hv => ⟨Nat.zero_le v, hon v hv⟩, hscale⟩
    have requested : x.withFields r = { x with
        enabled := on, scale := r.scale.getD x.scale, fallCoeff := clampGiven 1 16 x.fallCoeff r.fallCoeff
        riseCoeff := clampGiven 1 16 x.riseCoeff r.riseCoeff } := by
      simp only [Sensor.withFields, clampOr_eq (by omega : 1 ≤ 16), flagOr_eq fun v hv => ⟨Nat.zero_le v, hon v hv⟩]
      rfl
    have answer := exec_of_passes (k := .setSensor) (tag := tag) (c := .setSensor tag r) hs.1 rfl
      (by simp only [serveSetSensor, hx, requested]; rfl)
      (passes_cons quiet (passes_cons (decide_eq_true hi) (passes_cons (Option.isSome_of_eq_some hx) (passes_cons fields passes_nil))))
    have hid : x.sameIdentity { x with
        enabled := on, scale := r.scale.getD x.scale, fallCoeff := clampGiven 1 16 x.fallCoeff r.fallCoeff
        riseCoeff := clampGiven 1 16 x.riseCoeff r.riseCoeff } = true := sameIdentity_iff.mpr ⟨rfl, rfl, rfl⟩
    rw [sensorReply_of_some (storeSensor_entry (entryAt_lt hx) _), hx, redefine_kept hid, coeffsClamped, clamps_eq (by omega),
      clamps_eq (by omega), storeSensor_of_some hx, redefine_kept hid, hid] at answer
    refine ⟨_, answer, ?_⟩
    by_cases he : on = x.enabled
    · rw [if_pos he, if_neg (fun e => by simp [he] at e)]
      rfl
    · rw [if_neg he, if_pos (by simpa using Ne.symm he)]
      exact namersResolved ..

end Sys2Proof.Machine
end

section
/-! PROOFS. Chapter 1: one change of each listed entry of a table, segments, and zones made and deleted (R9 to R15). -/

namespace Sys2Proof.Machine

open Sys2Proof.Safety

set_option Elab.async false

/-! ### One change of every entry of a list of indices -/

theorem getElem?_foldl_modify {α : Type} (f : α → α) {l : List Nat} (hl : l.Nodup) (t : List α) (k : Nat) :
    (l.foldl (fun t i => t.modify i f) t)[k]? = if k ∈ l then t[k]?.map f else t[k]? := by
  induction l generalizing t with
  | nil => simp
  | cons i l ih =>
    obtain ⟨hi, hl⟩ := List.nodup_cons.mp hl
    rw [List.foldl_cons, ih hl, List.getElem?_modify]
    by_cases hk : i = k
    · subst hk
      simp [hi]
    · simp [hk, Ne.symm hk]

/-- A change of the listed entries of a table is a change of the table (the entries that a condition names). -/
theorem foldl_modify_where {α : Type} (t : List (Option α)) (q : α → Bool) (f : α → α) :
    (indicesWhere t.length fun i => (entryAt t i).any q).foldl (fun t i => t.modify i (Option.map f)) t
      = t.map (Option.map fun x => if q x then f x else x) := by
  refine List.ext_getElem? fun k => ?_
  have nodup : (indicesWhere t.length fun i => (entryAt t i).any q).Nodup := List.nodup_range.filter _
  rw [getElem?_foldl_modify _ nodup, List.getElem?_map]
  cases hk : t[k]? with
  | none => simp
  | some o =>
    have hlt : k < t.length := (List.getElem?_eq_some_iff.mp hk).1
    cases o with
    | none => simp
    | some x =>
      have here : entryAt t k = some x := by rw [entryAt, hk]; rfl
      have listed : (k ∈ indicesWhere t.length fun i => (entryAt t i).any q) ↔ q x = true := by
        rw [mem_indicesWhere, here]
        exact and_iff_right hlt
      by_cases hq : q x = true
      · rw [if_pos (listed.mpr hq), Option.map_some, Option.map_some, Option.map_some, Option.map_some, if_pos hq]
      · rw [if_neg (listed.not.mpr hq), Option.map_some, Option.map_some, if_neg hq]

theorem forEach_modZone (l : List Nat) (f : Zone → Zone) (s : State) : forEach l (fun z s => s.modZone z f) s
    = { s with zones := l.foldl (fun t i => t.modify i (Option.map f)) s.zones } := by
  induction l generalizing s with
  | nil => rfl
  | cons i l ih => rw [forEach_cons, ih]; rfl

theorem forEach_modGear (l : List Nat) (f : Gear → Gear) (s : State) : forEach l (fun i s => s.modGear i f) s
    = { s with gear := l.foldl (fun t i => t.modify i (Option.map f)) s.gear } := by
  induction l generalizing s with
  | nil => rfl
  | cons i l ih => rw [forEach_cons, ih]; rfl

/-- A change of the zones that a condition names. -/
theorem forEach_zonesWhere (s : State) (q : Zone → Bool) (f : Zone → Zone) : forEach (s.zonesWhere q) (fun z s => s.modZone z f) s
    = { s with zones := s.zones.map (Option.map fun x => if q x then f x else x) } := by
  rw [forEach_modZone]
  exact congrArg (fun t => { s with zones := t }) (foldl_modify_where s.zones q f)

/-- A change of the gear that a condition names. -/
theorem forEach_gearWhere (s : State) (q : Gear → Bool) (f : Gear → Gear) : forEach (s.gearWhere q) (fun i s => s.modGear i f) s
    = { s with gear := s.gear.map (Option.map fun g => if q g then f g else g) } := by
  rw [forEach_modGear]
  exact congrArg (fun t => { s with gear := t }) (foldl_modify_where s.gear q f)

/-! ### Segments (R14, R15) -/

/-- Settles O21. -/
theorem defineSegmentStoresTheEntry : Obligations.DefineSegmentStoresTheEntry := by
  intro tag r s hs hi d hg1 hg2 hr1 hr2 hgd1 hgd2 hrd1 hrd2 hgp hop hset ht1 ht2 hretry hwin
  have eqd : requestedSegment r = d := requestedSegment_eq r
  have ranges : (requestedSegment r).inRange = true := by
    rw [eqd]
    exact segment_inRange_iff.mp ⟨fun i hm => (hwin i hm).1, ⟨hg1, hg2, hr1, hr2⟩, ⟨hgd1, hgd2, hrd1, hrd2⟩, ⟨hgp, hop⟩,
      ⟨hset, ht1, ht2, hretry⟩⟩
  have named : ((requestedSegment r).windowSensor.all fun i => (s.sensor i).isSome) = true := by
    rw [eqd, option_all_iff]
    intro i hm
    obtain ⟨-, c, hc, -⟩ := hwin i hm
    exact Option.isSome_of_eq_some hc
  have window : ((requestedSegment r).windowSensor.all fun i => (s.sensor i).all fun x => decide (x.kind = .window)) = true := by
    rw [eqd, option_all_iff]
    intro i hm
    obtain ⟨-, c, hc, hk⟩ := hwin i hm
    rw [hc]
    exact decide_eq_true hk
  have answer := exec_of_passes_ok (k := .defineSegment) (tag := tag) (c := .defineSegment tag r) hs.1 rfl rfl
    (passes_cons (State.quiet_of_undisturbed hs) (passes_cons (decide_eq_true hi) (passes_cons ranges (passes_cons named
      (passes_cons window passes_nil)))))
  rw [eqd] at answer
  rw [answer, State.storeSegment]
  split
  · rfl
  · refine congrArg (fun u => Host.Outcome.next (answered _ _ _ _ u)) ((forEach_zonesWhere
      (s.modSegment r.index fun g => { g.stopGlare with cfg := d, phase := .clear })
      (fun x => decide (x.cfg.segment = r.index)) (fun x => { x with learned := x.learned.forgetRatio })).trans ?_)
    simp only [decide_eq_true_eq]
    rfl

end Sys2Proof.Machine
end

section
/-! PROOFS. Chapter 1: zones made and deleted (R9 to R13). -/

namespace Sys2Proof.Machine

open Sys2Proof.Safety

set_option Elab.async false

/-! ### A deleted zone (R13, R91, R172) -/

theorem deleteZone_eq {s : State} {z : Nat} {x : Zone} (h : s.zone z = some x) : s.deleteZone z = { s with
    zones := s.zones.set z none
    sensors := s.sensors.map (Option.map fun c => { c with contrib := c.contrib.filter fun k => k.zone != z })
    calResults := s.calResults.set z CalResult.empty
    flags := (s.accrueOverride z none).flags, live := (s.accrueOverride z none).live } := by
  have rest := ((ZoneBecomes.refl h).accrueOverride none).rest
  rw [State.deleteZone, rest]
  simp only [State.setZone, State.removeFromLists, State.setCalResult, removeZone, List.set_set]

/-! ### A new zone (R11) -/

/-- A new zone's record with its occupancy, before its resolution (R11, R165). -/
def newZone (s : State) (d : ZoneDef) : Zone :=
  { Zone.fresh d (s.shading d.segment) with
    vacancy := none
    occupancy := match d.occInput with
      | none => .occupied
      | some i => if (s.occInput i).active then .occupied else .vacant }

theorem derive_new {s : State} {z : Nat} (hz : z < s.zones.length) (d : ZoneDef) :
    (s.setZone z (some (Zone.fresh d (s.shading d.segment)))).deriveOccupancy z
      = { s with zones := s.zones.set z (some (newZone s d)) } := by
  have here : (s.setZone z (some (Zone.fresh d (s.shading d.segment)))).zone z = some (Zone.fresh d (s.shading d.segment)) :=
    (entryAt_set ..).trans (if_pos ⟨rfl, hz⟩)
  rw [State.deriveOccupancy, State.modZone_eq here, State.setZone]
  simp only [List.set_set]
  rfl

/-- The resolution of a new zone: it leaves no flag and no count (R11, R63 to R66). -/
theorem resolveHeld_new {s : State} {z : Nat} {x : Zone} (h : s.zone z = some x) (hx : x.state = .disabled) :
    s.resolveHeld z = { s with zones := s.zones.set z (some (resolvedZone s z (s.resolved z x) x)) } := by
  obtain ⟨live, flags⟩ := resolveHeld_counts h
  have quiet (n : ZoneState) (b : Bool) : (b && latchesFallback .disabled n) = false := by cases b <;> cases n <;> rfl
  rw [if_neg (fun e => by rw [hx] at e; exact absurd e.2 (by decide))] at live flags
  rw [hx, quiet] at flags
  have rest := (zoneBecomes_resolveHeld h).rest
  rw [live, flags] at rest
  exact rest

theorem ownGainOf_congr {s t : State} (hs : t.sensors = s.sensors) (z : Nat) {x y : Zone} (hc : y.cfg = x.cfg) :
    ownGainOf t z y = ownGainOf s z x := by
  have sensor : t.sensor = s.sensor := by funext i; rw [State.sensor, State.sensor, hs]
  rw [ownGainOf, ownGainOf, sensor, hc]

/-- The record that a resolution makes of a new zone in a state that it enters (R65, R66). -/
theorem resolvedZone_newZone (s t : State) (z : Nat) (d : ZoneDef) {n : ZoneState} (hn : n ≠ .override) :
    resolvedZone t z n (newZone s d) = { newZone s d with
      state := n
      fallbackReason := if n = .fallback then
          (if d.controlSensor = none then .noSensor else if ownGainOf t z (newZone s d) = none then .noGain else .sensorFailed)
        else .noSensor } := by
  cases n with
  | override => exact absurd rfl hn
  | _ => rfl

/-- A new zone as its resolution leaves it (R11). -/
theorem resolvedZone_new {s t : State} {z : Nat} {d : ZoneDef} (hs : t.sensors = s.sensors) (hw : t.sweep = s.sweep) :
    let x := resolvedZone t z (t.resolved z (newZone s d)) (newZone s d)
    x = { newZone s d with
      state := s.resolved z x
      fallbackReason := if s.resolved z x = .fallback then s.fallbackReasonOf z x else .noSensor } := by
  intro x
  obtain ⟨hcfg, hactive, -, -, hshade, hcal⟩ := resolvedZone_kept t z (t.resolved z (newZone s d)) (newZone s d)
  have same : s.resolved z x = t.resolved z (newZone s d) := resolved_congr hs.symm hw.symm hcfg hactive hshade hcal
  have other : t.resolved z (newZone s d) ≠ .override := by
    rw [resolved_eq]
    exact stateByOrder_ne_override _ _ _ rfl
  have reason : s.fallbackReasonOf z x = if d.controlSensor = none then .noSensor
      else if ownGainOf t z (newZone s d) = none then .noGain else .sensorFailed := by
    rw [fallbackReason_eq, hcfg, ownGainOf_congr hs.symm z hcfg]
    rfl
  rw [same, reason]
  exact resolvedZone_newZone s t z d other

/-- An accepted DEFINE_ZONE of a new zone (R11). -/
theorem storeNewZone_eq {s : State} {z : Nat} (hz : z < s.zones.length) (d : ZoneDef) : ∃ x,
    s.storeNewZone z d = State.handLevel z { s with zones := s.zones.set z (some x) }
      ∧ x = { newZone s d with
        state := s.resolved z x
        fallbackReason := if s.resolved z x = .fallback then s.fallbackReasonOf z x else .noSensor } := by
  have here : ({ s with zones := s.zones.set z (some (newZone s d)) } : State).zone z = some (newZone s d) :=
    (entryAt_set ..).trans (if_pos ⟨rfl, hz⟩)
  refine ⟨_, ?_, resolvedZone_new (t := { s with zones := s.zones.set z (some (newZone s d)) }) rfl rfl⟩
  rw [State.storeNewZone, derive_new hz, resolveHeld_new here rfl]
  simp only [List.set_set]

/-! ### The requests on zones (R9 to R13) -/

theorem withFields_eq {f : ZoneFields} (hf : ZoneFieldsInRange f) (d : ZoneDef) : d.withFields f = zoneGiven d f := by
  simp only [ZoneDef.withFields, clampOr_eq (Nat.zero_le 15), clampOr_eq (Nat.zero_le 200), refOr_eq,
    flagOr_eq fun v hv => ⟨Nat.zero_le v, hf.enabled v hv⟩]
  rfl

theorem zoneAdjusted_eq (f : ZoneFields) (old new : ZoneDef) : okOrAdjusted (zoneAdjusted f old new) = zoneResult f old new := by
  rw [zoneResult, zoneAdjusted, clamps_eq (Nat.zero_le 15), clamps_eq (Nat.zero_le 15), clamps_eq (Nat.zero_le 200)]

theorem control_defined {s : State} {z : Nat} {f : ZoneFields} (h : ZoneRefsFree s z f) :
    ((namedSensor f.controlSensor).all fun i => (s.sensor i).isSome) = true := by
  refine option_all_iff.mpr fun i hi => ?_
  obtain ⟨hi, hne⟩ := mem_bind_refOf.mp hi
  obtain ⟨c, hc, -⟩ := h.sensor i hi hne
  exact Option.isSome_of_eq_some hc

theorem control_ceiling {s : State} {z : Nat} {f : ZoneFields} (h : ZoneRefsFree s z f) :
    ((namedSensor f.controlSensor).all fun i => (s.sensor i).all fun x => decide (x.kind = .ceiling)) = true := by
  refine option_all_iff.mpr fun i hi => ?_
  obtain ⟨hi, hne⟩ := mem_bind_refOf.mp hi
  obtain ⟨c, hc, hk⟩ := h.sensor i hi hne
  rw [hc]
  exact decide_eq_true hk

/-- DEFINE_ZONE's checks pass: the zone is stored, and its definition is the reply (R9, R10). -/
theorem exec_defineZone {s : State} {r : DefineZone} {band : Band} (tag : Byte) (hs : Undisturbed s) (hi : r.index < Config.nZones)
    (hb : Band.ofCode r.band = some band) (hseg : r.segment < Config.nSegments) (hf : ZoneFieldsInRange r.fields)
    (hrefs : ZoneRefsFree s r.index r.fields)
    (free : ∀ y w, s.zone y = some w → y ≠ r.index → ¬ (w.cfg.segment = r.segment ∧ w.cfg.band = band)) :
    let d := zoneGiven (zoneDefaults r.segment band) r.fields
    exec (.defineZone tag r) s = .next (answered .defineZone tag (zoneResult r.fields (zoneDefaults r.segment band) d)
      ((s.storeZone r.index d).zoneReply r.index) (s.storeZone r.index d)) := by
  intro d
  have fields : (decide (r.segment < Config.nSegments) && zoneFieldsOk r.fields) = true :=
    Bool.and_eq_true_iff.mpr ⟨decide_eq_true hseg, zoneFieldsOk_iff.mpr hf⟩
  have vacant : (!s.bandTaken r.index r.segment band) = true := by
    refine (band_free_iff hb).mpr fun y w hw hy e => free y w hw hy ⟨e.1, ?_⟩
    exact band_code_inj (e.2.trans (band_ofCode_eq_some.mp hb).symm)
  have answer := exec_of_passes (k := .defineZone) (tag := tag) (c := .defineZone tag r) hs.1 rfl
    (by simp only [serveDefineZone, hb, List.cons_append, List.nil_append]; rfl)
    (passes_cons (State.quiet_of_undisturbed hs) (passes_cons (decide_eq_true hi) (passes_cons fields
      (passes_cons (control_defined hrefs) (passes_cons (control_ceiling hrefs) (passes_cons vacant
        (passes_cons (groupsFree_iff.mp hrefs.groups) passes_nil)))))))
  rw [withFields_eq hf, zoneAdjusted_eq] at answer
  exact answer

/-- SET_ZONE's checks pass (R9, R10). -/
theorem exec_setZone {s : State} {r : SetZone} {x : Zone} (tag : Byte) (hs : Undisturbed s) (hi : r.index < Config.nZones)
    (hx : s.zone r.index = some x) (hf : ZoneFieldsInRange r.fields) (hrefs : ZoneRefsFree s r.index r.fields) :
    let d := zoneGiven x.cfg r.fields
    exec (.setZone tag r) s = .next (answered .setZone tag (zoneResult r.fields x.cfg d)
      ((s.storeZone r.index d).zoneReply r.index) (s.storeZone r.index d)) := by
  intro d
  have answer := exec_of_passes (k := .setZone) (tag := tag) (c := .setZone tag r) hs.1 rfl
    (by simp only [serveSetZone, hx, List.cons_append, List.nil_append]; rfl)
    (passes_cons (State.quiet_of_undisturbed hs) (passes_cons (decide_eq_true hi) (passes_cons rfl (passes_cons (zoneFieldsOk_iff.mpr hf)
      (passes_cons (control_defined hrefs) (passes_cons (control_ceiling hrefs)
        (passes_cons (groupsFree_iff.mp hrefs.groups) passes_nil)))))))
  rw [withFields_eq hf, zoneAdjusted_eq] at answer
  exact answer

/-- Settles O19: a new zone by its resolution from DISABLED, a deleted one by the override time it had. -/
theorem zonesAreMadeAndDeleted : Obligations.ZonesAreMadeAndDeleted := by
  refine ⟨?made, ?deleted⟩
  case made =>
    intro tag r s band hs hlen hi hnew hb hseg hf hrefs free d level
    have answer : exec (.defineZone tag r) s = .next (answered .defineZone tag (zoneResult r.fields (zoneDefaults r.segment band) d)
        ((s.storeZone r.index d).zoneReply r.index) (s.storeZone r.index d)) :=
      exec_defineZone tag hs hi hb hseg hf hrefs fun y w hw _ => free y w hw
    have place : r.index < s.zones.length := hlen ▸ hi
    obtain ⟨x, stored, record⟩ := storeNewZone_eq place d
    have shown : ({ s with zones := s.zones.set r.index (some x) } : State).zone r.index = some x :=
      (entryAt_set ..).trans (if_pos ⟨rfl, place⟩)
    have new : s.storeZone r.index d = s.storeNewZone r.index d := by rw [State.storeZone, hnew]
    have cfg : x.cfg = d := by rw [record]; rfl
    refine ⟨x, ?_, record⟩
    rw [answer, new, stored, zoneReply_of_some ((zone_handLevel _ _ _).trans shown), cfg]
  case deleted =>
    intro tag z s x hs hz hx hlen free
    have unused : (s.gearWhere (Gear.drives z)).isEmpty = true := drivers_free_iff.mpr free
    have answer := exec_of_passes_ok (k := .deleteZone) (tag := tag) (c := .deleteZone tag z) hs.1 rfl rfl
      (passes_cons (State.quiet_of_undisturbed hs) (passes_cons (decide_eq_true hz)
        (passes_cons (Option.isSome_of_eq_some hx) (passes_cons unused passes_nil))))
    refine ⟨_, answer, by rw [deleteZone_eq hx], fun hm => ?_, fun m hm => ?_⟩
    · rw [deleteZone_eq hx, accrueOverride_of_unmarked hx hm]
      exact ⟨rfl, rfl⟩
    · rw [deleteZone_eq hx]
      exact ⟨flagsGrow_accrueOverride s z none, fun k hk => get_accrueOverride_ne s z none hk,
        get_accrueOverride_same hx hm hlen none⟩

end Sys2Proof.Machine
end

section
/-! PROOFS. The gear layer: lines and gear looked up and changed, setup marks, value marks, and OUTPUT_LOST recomputed (R87, R128). -/

namespace Sys2Proof.Machine

open Sys2Proof.Safety

set_option Elab.async false

/-! ### Entries that are there -/

theorem gearLine_of_get {s : State} {l : Nat} {x : GearLine} (h : s.gearLines[l]? = some x) : s.gearLine l = x := getD_of_get h _

theorem modGearLine_of_get {s : State} {l : Nat} {x : GearLine} (h : s.gearLines[l]? = some x) (f : GearLine → GearLine) :
    s.modGearLine l f = { s with gearLines := s.gearLines.set l (f x) } := by rw [State.modGearLine, modify_eq_set_of_get h]

theorem modGear_of_gear {s : State} {i : Nat} {g : Gear} (h : s.gearAt i = some g) (f : Gear → Gear) :
    s.modGear i f = { s with gear := s.gear.set i (some (f g)) } := by rw [State.modGear, modify_eq_set h]

theorem isUp_eq (x : GearLine) : x.isUp = decide (x.state = .up) := rfl

theorem modify_modify {α : Type} (t : List α) (i : Nat) (f g : α → α) : (t.modify i f).modify i g = t.modify i fun x => g (f x) := by
  refine List.ext_getElem? fun k => ?_
  simp only [List.getElem?_modify]
  split <;> simp [Function.comp_def]

theorem modify_same {α : Type} (t : List α) (i : Nat) : (t.modify i fun x => x) = t := List.modify_id ..

/-! ### Setup marks (R128) -/

/-- The line without the value entries that wait for the gear that `p` holds of (R128). -/
def withoutValues (p : Nat → Bool) (x : GearLine) : GearLine := { x with queue := x.queue.filter fun e => !waitsWithValue p e }

theorem waitsWithValue_one (i : Nat) (e : Entry) : waitsWithValue (fun j => decide (j = i)) e
    = (!e.inFlight && decide (e.target = .gear i) && (decide (e.cmd = .setValue) || decide (e.cmd = .shadeGoto))) := by
  rw [waitsWithValue]
  cases e.target with
  | group k => simp
  | gear j =>
    simp only [Target.gear.injEq]
    rw [Bool.and_assoc, Bool.and_assoc, Bool.and_comm (decide (j = i))]

theorem waitsWithValue_or (p q : Nat → Bool) (e : Entry) :
    waitsWithValue (fun j => p j || q j) e = (waitsWithValue p e || waitsWithValue q e) := by
  rw [waitsWithValue, waitsWithValue, waitsWithValue]
  cases e.target with
  | group k => simp
  | gear j => rw [Bool.and_or_distrib_left]

theorem withoutValues_withoutValues (p q : Nat → Bool) (x : GearLine) :
    withoutValues q (withoutValues p x) = withoutValues (fun j => p j || q j) x := by
  simp only [withoutValues, List.filter_filter, waitsWithValue_or, Bool.not_or, Bool.and_comm]

theorem withoutValues_none (x : GearLine) : withoutValues (fun _ => false) x = x := by
  have none (e : Entry) : waitsWithValue (fun _ => false) e = false := by
    rw [waitsWithValue]
    cases e.target <;> simp
  simp only [withoutValues, none, Bool.not_false, List.filter_true]

/-- Marking with setup, in the statements' terms (R128). -/
theorem markSetup_eq (i : Nat) (s : State) : s.markSetup i = setupMarked i s := by
  unfold State.markSetup setupMarked
  cases h : s.gearAt i with
  | none => rfl
  | some g =>
    simp only [isUp_eq, Bool.and_eq_true, decide_eq_true_eq, modGear_of_gear h, State.dropEntries, State.modGearLine, waitsWithValue_one]

theorem markSetup_of_down {s : State} {i : Nat} (h : ∀ g, s.gearAt i = some g → (s.gearLine g.cfg.line).state ≠ .up) :
    s.markSetup i = s := by
  rw [markSetup_eq, setupMarked]
  cases hg : s.gearAt i with
  | none => rfl
  | some g => exact if_neg fun e => h g hg e.1

/-- A gear that setup marks reach is marked (R128). -/
def toSetup (g : Gear) : Gear := if g.state ≠ .silent then { g with dirty := .setup } else g

/-- A gear is there and not SILENT. -/
def answers (s : State) (i : Nat) : Bool := (s.gearAt i).any fun g => decide (g.state ≠ .silent)

theorem markSetup_of_up {s : State} {i l : Nat} {g : Gear} (h : s.gearAt i = some g) (hl : g.cfg.line = l)
    (hup : (s.gearLine l).state = .up) : s.markSetup i = { s with
      gear := s.gear.modify i (Option.map toSetup)
      gearLines := s.gearLines.modify l (withoutValues fun j => decide (j = i) && answers s j) } := by
  rw [markSetup_eq, setupMarked, h, modify_eq_set h]
  simp only [hl, hup, true_and, toSetup]
  by_cases hs : g.state = .silent
  · have nobody : (fun j => decide (j = i) && answers s j) = fun _ => false := by
      funext j
      by_cases hj : j = i
      · simp [hj, answers, h, hs]
      · simp [hj]
    have same : withoutValues (fun _ => false) = fun x => x := funext withoutValues_none
    rw [if_neg (not_not.mpr hs), if_neg (not_not.mpr hs), set_entryAt_self h, nobody, same, modify_same]
  · have only : (fun j => decide (j = i) && answers s j) = fun j => decide (j = i) := by
      funext j
      by_cases hj : j = i
      · simp [hj, answers, h, hs]
      · simp [hj]
    rw [if_pos hs, if_pos hs, only]
    rfl

/-- Setup marks for listed gear of one line (R11, R115, R128). -/
theorem forEach_markSetup {l : Nat} (is : List Nat) {s : State} (hup : (s.gearLine l).state = .up)
    (his : ∀ i ∈ is, ∃ g, s.gearAt i = some g ∧ g.cfg.line = l) : forEach is State.markSetup s = { s with
      gear := is.foldl (fun t i => t.modify i (Option.map toSetup)) s.gear
      gearLines := s.gearLines.modify l (withoutValues fun j => decide (j ∈ is) && answers s j) } := by
  induction is generalizing s with
  | nil =>
    have same : withoutValues (fun j => decide (j ∈ ([] : List Nat)) && answers s j) = fun x => x := by
      funext x
      simp only [List.not_mem_nil, decide_false, Bool.false_and]
      exact withoutValues_none x
    rw [same, modify_same]
    rfl
  | cons i is ih =>
    obtain ⟨g, hg, hl⟩ := his i (List.mem_cons_self ..)
    have others (j : Nat) : ({ s with
        gear := s.gear.modify i (Option.map toSetup)
        gearLines := s.gearLines.modify l (withoutValues fun j => decide (j = i) && answers s j) } : State).gearAt j
          = if i = j then (s.gearAt j).map toSetup else s.gearAt j := entryAt_modify ..
    have kept (g : Gear) : (toSetup g).cfg = g.cfg ∧ (toSetup g).state = g.state := by
      unfold toSetup
      split <;> exact ⟨rfl, rfl⟩
    have same (j : Nat) : answers ({ s with
        gear := s.gear.modify i (Option.map toSetup)
        gearLines := s.gearLines.modify l (withoutValues fun j => decide (j = i) && answers s j) } : State) j = answers s j := by
      rw [answers, answers, others]
      split
      · cases s.gearAt j with
        | none => rfl
        | some g => simp only [Option.map_some, Option.any_some, (kept g).2]
      · rfl
    have up : (({ s with
        gear := s.gear.modify i (Option.map toSetup)
        gearLines := s.gearLines.modify l (withoutValues fun j => decide (j = i) && answers s j) } : State).gearLine l).state = .up := by
      refine (congrArg GearLine.state (getD_modify ..)).trans ?_
      split
      · exact hup
      · exact hup
    rw [forEach_cons, markSetup_of_up hg hl hup, ih up]
    · simp only [same, modify_modify, withoutValues_withoutValues, List.foldl_cons, Bool.and_or_distrib_right,
        Bool.decide_or, List.mem_cons]
    · intro j hj
      obtain ⟨h, hh, hlh⟩ := his j (List.mem_cons_of_mem _ hj)
      rw [others, hh]
      split
      · exact ⟨toSetup h, rfl, (kept h).1 ▸ hlh⟩
      · exact ⟨h, rfl, hlh⟩

/-- Setup marks for the gear of a line that a condition names (R11, R115, R128). -/
theorem markSetups_eq {s : State} {l : Nat} (q : Gear → Bool) (hq : ∀ g, q g = true → g.cfg.line = l) :
    forEach (s.gearWhere q) State.markSetup s = if (s.gearLine l).state = .up then { s with
        gear := s.gear.map (Option.map fun g => if q g then toSetup g else g)
        gearLines := s.gearLines.modify l (withoutValues fun i => (s.gearAt i).any fun g => q g && decide (g.state ≠ .silent)) }
      else s := by
  have listed : ∀ i ∈ s.gearWhere q, ∃ g, s.gearAt i = some g ∧ g.cfg.line = l := fun i hi => by
    obtain ⟨g, hg, h⟩ := State.mem_gearWhere.mp hi
    exact ⟨g, hg, hq g h⟩
  split
  · next hup =>
    have named : (fun j => decide (j ∈ s.gearWhere q) && answers s j)
        = fun i => (s.gearAt i).any fun g => q g && decide (g.state ≠ .silent) := by
      funext i
      rw [answers]
      cases hi : s.gearAt i with
      | none => simp
      | some g =>
        have mem : i ∈ s.gearWhere q ↔ q g = true := by simp [State.mem_gearWhere, hi]
        simp only [mem, Bool.decide_eq_true, Option.any_some]
    have folded : (s.gearWhere q).foldl (fun t i => t.modify i (Option.map toSetup)) s.gear
        = s.gear.map (Option.map fun g => if q g then toSetup g else g) := foldl_modify_where s.gear q toSetup
    rw [forEach_markSetup _ hup listed, named, folded]
  · next hup =>
    have still (is : List Nat) (his : ∀ i ∈ is, ∃ g, s.gearAt i = some g ∧ g.cfg.line = l) : forEach is State.markSetup s = s := by
      induction is with
      | nil => rfl
      | cons i is ih =>
        have here : s.markSetup i = s := markSetup_of_down fun g hg => by
          obtain ⟨h, hh, hl⟩ := his i (List.mem_cons_self ..)
          rw [hg, Option.some.injEq] at hh
          rw [hh, hl]
          exact hup
        rw [forEach_cons, here]
        exact ih fun j hj => his j (List.mem_cons_of_mem _ hj)
    exact still _ listed

/-! ### Value marks (R128) -/

theorem markValue_of_gear {s : State} {i : Nat} {g : Gear} (h : s.gearAt i = some g) : s.markValue i
    = if (s.gearLine g.cfg.line).state = .up ∧ g.state ≠ .silent ∧ g.dirty = .clear then
        { s with gear := s.gear.set i (some { g with dirty := .value }) } else s := by
  unfold State.markValue
  simp only [h, isUp_eq, Bool.and_eq_true, decide_eq_true_eq, and_assoc, modGear_of_gear h]

theorem markValue_of_none {s : State} {i : Nat} (h : s.gearAt i = none) : s.markValue i = s := by
  unfold State.markValue
  simp only [h]

/-! ### OUTPUT_LOST recomputed (R87) -/

theorem outputIsLost_congr {s t : State} (hg : t.gear = s.gear) (hl : t.gearLines = s.gearLines) (z : Nat) :
    t.outputIsLost z = s.outputIsLost z := by
  have gear : t.gearAt = s.gearAt := by funext i; rw [State.gearAt, State.gearAt, hg]
  have line : t.gearLine = s.gearLine := by funext l; rw [State.gearLine, State.gearLine, hl]
  simp only [State.outputIsLost, State.gearWhere, gear, line, hg]

theorem refreshOutput_of_none {s : State} {z : Nat} (h : s.zone z = none) : s.refreshOutput z = s := by
  unfold State.refreshOutput
  simp only [h]

theorem refreshOutput_of_zone {s : State} {z : Nat} {x : Zone} (h : s.zone z = some x) : s.refreshOutput z
    = ({ s with zones := s.zones.set z (some { x with outputLost := s.outputIsLost z }) } : State).latchIf
      (s.outputIsLost z && !x.outputLost) .outputLost := by
  unfold State.refreshOutput
  simp only [h, State.modZone_eq h]

/-- The recomputation of one zone's OUTPUT_LOST (R87). -/
theorem outputs_one (z : Nat) (s : State) :
    s.refreshOutput z = { s with zones := (s.refreshOutput z).zones, flags := (s.refreshOutput z).flags }
      ∧ FlagsGrow [.outputLost] s (s.refreshOutput z)
      ∧ (∀ k, (s.refreshOutput z).zone k
        = if k = z then (s.zone k).map fun x => { x with outputLost := s.outputIsLost k } else s.zone k)
      ∧ (hasFlag (s.refreshOutput z).flags.latched .outputLost = true ↔ hasFlag s.flags.latched .outputLost = true
        ∨ ∃ x, s.zone z = some x ∧ x.outputLost = false ∧ s.outputIsLost z = true) := by
  cases h : s.zone z with
  | none =>
    rw [refreshOutput_of_none h]
    refine ⟨rfl, flagsGrow_refl _ s, fun k => ?_, by simp⟩
    split
    · next hk => rw [hk, h]; rfl
    · rfl
  | some x =>
    rw [refreshOutput_of_zone h]
    refine ⟨by rw [State.latchIf_eq], ?_, fun k => ?_, ?_⟩
    · exact FlagsGrow.trans (flagsGrow_of_flags rfl) (flagsGrow_latchIf _ _ (by simp))
    · rw [zone_latchIf]
      split
      · next hk => rw [hk, zone_set_same h, h]; rfl
      · next hk => exact zone_set_ne s hk _
    · rw [hasFlag_latchIf]
      simp [and_comm]

theorem zonesAndFlags_trans {s t u : State} (h : t = { s with zones := t.zones, flags := t.flags })
    (k : u = { t with zones := u.zones, flags := u.flags }) : u = { s with zones := u.zones, flags := u.flags } := by rw [k, h]

/-- A listed entry stands at an index of its table. -/
theorem some_mem_iff {α : Type} {l : List (Option α)} {x : α} : some x ∈ l ↔ ∃ i, entryAt l i = some x := by
  rw [List.mem_iff_getElem?]
  refine exists_congr fun i => ?_
  rw [entryAt, Option.join_eq_some_iff]

/-- What the recomputation of listed zones' OUTPUT_LOST leaves (R87). -/
theorem outputs_forEach (l : List Nat) (s : State) :
    forEach l State.refreshOutput s = { s with
        zones := (forEach l State.refreshOutput s).zones, flags := (forEach l State.refreshOutput s).flags }
      ∧ OutputsRecomputed (fun z => z ∈ l) s (forEach l State.refreshOutput s) := by
  induction l generalizing s with
  | nil => exact ⟨rfl, flagsGrow_refl _ s, fun _ _ => rfl, by simp, by simp [forEach]⟩
  | cons i l ih =>
    obtain ⟨rest1, flags1, zone1, latched1⟩ := outputs_one i s
    obtain ⟨rest2, flags2, others2, here2, latched2⟩ := ih (s.refreshOutput i)
    rw [forEach_cons]
    have lost (z : Nat) : (forEach l State.refreshOutput (s.refreshOutput i)).outputIsLost z = s.outputIsLost z :=
      outputIsLost_congr (by rw [rest2, rest1]) (by rw [rest2, rest1]) z
    refine ⟨zonesAndFlags_trans rest1 rest2, FlagsGrow.trans flags1 flags2, fun z (hz : z ∉ i :: l) => ?_,
      fun z (hz : z ∈ i :: l) => ?_, ?_⟩
    · rw [List.mem_cons, not_or] at hz
      rw [others2 z hz.2, zone1, if_neg hz.1]
    · by_cases hl : z ∈ l
      · rw [here2 z hl, zone1]
        split
        · rw [Option.map_map]; rfl
        · rfl
      · have hi : z = i := (List.mem_cons.mp hz).resolve_right hl
        rw [others2 z hl, zone1, if_pos hi, lost]
    · rw [latched2, latched1, or_assoc]
      refine or_congr_right ⟨?_, ?_⟩
      · rintro (⟨x, hx, hclear, hlost⟩ | ⟨z, x, hz, hx, hclear, hlost⟩)
        · exact ⟨i, x, List.mem_cons_self .., hx, hclear, (lost i).trans hlost⟩
        · rw [zone1] at hx
          split at hx
          · obtain ⟨y, -, rfl⟩ := Option.map_eq_some_iff.mp hx
            rw [lost] at hlost
            exact absurd (hlost.symm.trans hclear) (by decide)
          · exact ⟨z, x, List.mem_cons_of_mem _ hz, hx, hclear, hlost⟩
      · rintro ⟨z, x, hz, hx, hclear, hlost⟩
        by_cases hi : z = i
        · subst hi
          exact .inl ⟨x, hx, hclear, (lost z).symm.trans hlost⟩
        · exact .inr ⟨z, x, (List.mem_cons.mp hz).resolve_left hi, by rw [zone1, if_neg hi]; exact hx, hclear, hlost⟩

/-- The recomputation of the zones with a driver on a line (R116, R118). -/
theorem outputs_line (l : Nat) (s : State) :
    s.refreshLineOutput l = { s with zones := (s.refreshLineOutput l).zones, flags := (s.refreshLineOutput l).flags }
      ∧ OutputsRecomputed (DrivenOn s l) s (s.refreshLineOutput l) := by
  obtain ⟨rest, flags, others, here, latched⟩ := outputs_forEach (s.zonesOnLine l) s
  have mem (z : Nat) : z ∈ s.zonesOnLine l ↔ z < s.zones.length ∧ DrivenOn s l z := by
    rw [State.zonesOnLine, mem_indicesWhere]
    refine and_congr_right fun _ => ?_
    simp only [List.any_eq_true, Option.any_eq_true, Bool.and_eq_true, drives_iff, decide_eq_true_eq]
    constructor
    · rintro ⟨o, ho, g, rfl, hrole, hline⟩
      obtain ⟨i, hi⟩ := some_mem_iff.mp ho
      exact ⟨i, g, hi, hrole, hline⟩
    · rintro ⟨i, g, hi, hrole, hline⟩
      exact ⟨some g, some_mem_iff.mpr ⟨i, hi⟩, g, rfl, hrole, hline⟩
  have undefined {z : Nat} (hz : DrivenOn s l z) (hl : z ∉ s.zonesOnLine l) : s.zone z = none := by
    cases h : s.zone z with
    | none => rfl
    | some x => exact absurd ((mem z).mpr ⟨entryAt_lt h, hz⟩) hl
  refine ⟨rest, flags, fun z hz => others z fun hl => hz ((mem z).mp hl).2, fun z hz => ?_, ?_⟩
  · by_cases hl : z ∈ s.zonesOnLine l
    · exact here z hl
    · exact (others z hl).trans (by rw [undefined hz hl]; rfl)
  · refine latched.trans (or_congr_right ⟨?_, ?_⟩)
    · rintro ⟨z, x, hz, hx⟩
      exact ⟨z, x, ((mem z).mp hz).2, hx⟩
    · rintro ⟨z, x, hz, hx, hr⟩
      exact ⟨z, x, (mem z).mpr ⟨entryAt_lt hx, hz⟩, hx, hr⟩

theorem refreshGearOutput_of_driver {g : Gear} {z : Nat} (h : g.cfg.role = .driver z) (s : State) :
    s.refreshGearOutput g = s.refreshOutput z := by
  unfold State.refreshGearOutput Gear.zone?
  simp only [h]

theorem refreshGearOutput_of_shade {g : Gear} {seg : Nat} (h : g.cfg.role = .shade seg) (s : State) : s.refreshGearOutput g = s := by
  unfold State.refreshGearOutput Gear.zone?
  simp only [h]

theorem outputsRecomputed_none {driven : Nat → Prop} (h : ∀ z, ¬ driven z) (s : State) : OutputsRecomputed driven s s :=
  ⟨flagsGrow_refl _ s, fun _ _ => rfl, fun z hz => absurd hz (h z), by simp [h]⟩

/-- The recomputation of one zone (R87). -/
theorem outputsRecomputed_one (z : Nat) (s : State) : OutputsRecomputed (fun k => k = z) s (s.refreshOutput z) := by
  have one := (outputs_forEach [z] s).2
  simp only [List.mem_singleton] at one
  exact one

/-- The recomputation for the zone that a gear's role names (R87, R118). -/
theorem outputs_gear (g : Gear) (s : State) :
    s.refreshGearOutput g = { s with zones := (s.refreshGearOutput g).zones, flags := (s.refreshGearOutput g).flags }
      ∧ OutputRecomputed g.cfg.role s (s.refreshGearOutput g) := by
  cases h : g.cfg.role with
  | shade seg =>
    rw [refreshGearOutput_of_shade h]
    exact ⟨rfl, outputsRecomputed_none (fun _ => by simp) s⟩
  | driver z =>
    rw [refreshGearOutput_of_driver h, OutputRecomputed]
    simp only [GearRole.driver.injEq, eq_comm (a := z)]
    exact ⟨(outputs_one z s).1, outputsRecomputed_one z s⟩

end Sys2Proof.Machine
end

section
/-! PROOFS. Chapter 1: a defined zone redefined (R4, R9 to R12, R86). -/

namespace Sys2Proof.Machine

open Sys2Proof.Safety

set_option Elab.async false

/-! ### The stored record (R11, R12, R86) -/

/-- What a redefined zone keeps of what it has learned (R11, R12, R55). -/
theorem learned_redefined (m : Learned) (seen stays : Prop) [Decidable seen] [Decidable stays] :
    (let k := if ¬ stays ∨ ¬ seen then m.forgetRatio else m
     if ¬ seen then k.clearAcc else k) = { m with
        rho := if stays ∧ seen then m.rho else 0
        learnCount := if stays ∧ seen then m.learnCount else 0
        accSum := if seen then m.accSum else 0
        accCount := if seen then m.accCount else 0 } := by
  by_cases hm : seen <;> by_cases hc : stays <;> simp [hm, hc, Learned.forgetRatio, Learned.clearAcc]

/-- The record's part of a redefinition, with the occupancy of a changed input (R11, R12, R86, R165). -/
theorem redefine_eq (s : State) (x : Zone) (d : ZoneDef) :
    (let y := Zone.redefine d (s.shading d.segment) x
     if x.cfg.occInput ≠ d.occInput then { y with
        vacancy := none
        occupancy := match d.occInput with
          | none => .occupied
          | some i => if (s.occInput i).active then .occupied else .vacant }
     else y) = zoneStored s x d := by
  have learned := learned_redefined x.learned (x.cfg.controlSensor = d.controlSensor) (x.cfg.segment = d.segment)
  simp only [Zone.redefine, zoneStored, Bool.not_eq_true', decide_eq_true_eq, Bool.and_eq_true, Bool.or_eq_true, ne_eq, ite_not] at learned ⊢
  rw [learned]
  by_cases ho : x.cfg.occInput = d.occInput
  · simp only [ho, if_true]
    rfl
  · simp only [ho, if_false]
    rfl

/-- The stored record, before the drivers follow their groups (R11, R12). -/
theorem stored_eq {s : State} {z : Nat} {x : Zone} (h : s.zone z = some x) (d : ZoneDef) :
    (let t := s.modZone z (Zone.redefine d (s.shading d.segment))
     if x.cfg.occInput ≠ d.occInput then t.deriveOccupancy z else t)
      = { s with zones := s.zones.set z (some (zoneStored s x d)) } := by
  rw [← redefine_eq]
  have here := zone_set_same h (Zone.redefine d (s.shading d.segment) x)
  simp only [State.modZone_eq h, State.deriveOccupancy, State.modZone_eq here, List.set_set]
  split <;> rfl

/-! ### The drivers of a changed group (R11, R128) -/

/-- A driver of the zone on the line. -/
def drivesOn (z l : Nat) (g : Gear) : Bool := g.drives z && decide (g.cfg.line = l)

theorem drivesOn_iff {z l : Nat} {g : Gear} : drivesOn z l g = true ↔ g.cfg.role = .driver z ∧ g.cfg.line = l := by
  rw [drivesOn, Bool.and_eq_true, drives_iff, decide_eq_true_eq]

/-- A regrouped driver on a CONGESTED line loses trim_pending (R11). -/
def trimCleared (z l : Nat) (congested : Bool) (g : Gear) : Gear :=
  if drivesOn z l g then { g with trimPending := g.trimPending && !congested } else g

theorem drivesOn_trimCleared (z l : Nat) (c : Bool) (g : Gear) : drivesOn z l (trimCleared z l c g) = drivesOn z l g := by
  unfold trimCleared
  split <;> rfl

theorem state_trimCleared (z l : Nat) (c : Bool) (g : Gear) : (trimCleared z l c g).state = g.state := by
  unfold trimCleared
  split <;> rfl

/-- The marks of the regrouped drivers but for setup. -/
theorem trimsCleared_eq (z l : Nat) (s : State) :
    (if (s.gearLine l).congested then
      forEach (s.gearWhere (drivesOn z l)) (fun i s => s.modGear i fun g => { g with trimPending := false }) s else s)
      = { s with gear := s.gear.map (Option.map (trimCleared z l (s.gearLine l).congested)) } := by
  cases (s.gearLine l).congested with
  | true =>
    have lost : trimCleared z l true = fun g => if drivesOn z l g then { g with trimPending := false } else g := by
      funext g
      simp only [trimCleared, Bool.not_true, Bool.and_false]
    rw [if_pos rfl, forEach_gearWhere, lost]
  | false =>
    have same : trimCleared z l false = id := by
      funext g
      simp [trimCleared]
    rw [same, Option.map_id, List.map_id]
    rfl

/-- The regrouped drivers marked, and the line tended (R11, R128). -/
theorem regroupLine_eq (z l : Nat) (s : State) : s.regroupLine z l = State.tendLine l (regrouped z l s) := by
  have cleared := trimsCleared_eq z l s
  unfold State.regroupLine
  simp only [show (fun g : Gear => g.drives z && decide (g.cfg.line = l)) = drivesOn z l from rfl, cleared]
  have at' (i : Nat) : ({ s with gear := s.gear.map (Option.map (trimCleared z l (s.gearLine l).congested)) } : State).gearAt i
      = (s.gearAt i).map (trimCleared z l (s.gearLine l).congested) := entryAt_map ..
  have drivers : s.gearWhere (drivesOn z l) = State.gearWhere
      { s with gear := s.gear.map (Option.map (trimCleared z l (s.gearLine l).congested)) } (drivesOn z l) := by
    simp only [State.gearWhere, at', List.length_map, Option.any_map, drivesOn_trimCleared]
  rw [drivers, markSetups_eq (l := l) _ fun g h => (drivesOn_iff.mp h).2]
  refine congrArg (State.tendLine l) ?_
  have line : State.gearLine { s with gear := s.gear.map (Option.map (trimCleared z l (s.gearLine l).congested)) } l = s.gearLine l := rfl
  simp only [line, at', Option.any_map, drivesOn_trimCleared, state_trimCleared, List.map_map, Option.map_comp_map]
  by_cases hup : (s.gearLine l).state = .up
  · rw [if_pos hup, regrouped]
    have named : (fun i => (s.gearAt i).any fun g => drivesOn z l g && decide (g.state ≠ .silent)) = answersOn s z l := by
      funext i
      simp only [answersOn, drivesOn, Bool.decide_and, Bool.and_assoc, ← drives_iff, Bool.decide_eq_true]
    have marked : ((fun g => if drivesOn z l g = true then toSetup g else g) ∘ trimCleared z l (s.gearLine l).congested)
        = fun g => if g.cfg.role = .driver z ∧ g.cfg.line = l then { g with
            dirty := if g.state ≠ .silent then .setup else g.dirty, trimPending := g.trimPending && !(s.gearLine l).congested }
          else g := by
      funext g
      simp only [Function.comp_apply, drivesOn_trimCleared, ← drivesOn_iff]
      by_cases hd : drivesOn z l g = true
      · by_cases hs : g.state = .silent <;> simp [trimCleared, toSetup, hd, hs]
      · simp [trimCleared, hd]
    simp only [hup, true_and, if_true, named, marked]
    rfl
  · rw [if_neg hup, regrouped]
    have cleared : trimCleared z l (s.gearLine l).congested = fun g => if g.cfg.role = .driver z ∧ g.cfg.line = l then { g with
          trimPending := g.trimPending && !(s.gearLine l).congested } else g := by
      funext g
      simp only [trimCleared, drivesOn_iff]
    simp only [hup, false_and, if_false, cleared]

theorem groupsFollow_eq (z : Nat) (old new : ZoneDef) (s : State) :
    forEach (groupChanges old new) (State.regroupLine z) s = groupsFollow z old new s := by
  rw [forEach, groupChanges, indicesWhere, List.foldl_filter, groupsFollow]
  simp only [decide_eq_true_eq, ne_eq, ite_not, regroupLine_eq]
  rfl

/-! ### The redefinition (R11, R12, R86) -/

/-- The stored record with the drivers of changed groups marked. -/
def regroupedZone (s : State) (z : Nat) (x : Zone) (d : ZoneDef) : State :=
  groupsFollow z x.cfg d { s with zones := s.zones.set z (some (zoneStored s x d)) }

/-- The redefined zone, resolved where a change asks for it (R11; log 39), before its level is handed. -/
def redefinedZone (s : State) (z : Nat) (x : Zone) (d : ZoneDef) : State :=
  if x.cfg.enabled = d.enabled ∧ x.cfg.controlSensor = d.controlSensor ∧ x.cfg.segment = d.segment then regroupedZone s z x d
  else State.resolveHeld z (regroupedZone s z x d)

/-- The record of a redefined zone at the end. -/
def redefinedRecord (s : State) (z : Nat) (x : Zone) (d : ZoneDef) : Zone :=
  if x.cfg.enabled = d.enabled ∧ x.cfg.controlSensor = d.controlSensor ∧ x.cfg.segment = d.segment then zoneStored s x d
  else resolvedZone (regroupedZone s z x d) z (State.resolved (regroupedZone s z x d) z (zoneStored s x d)) (zoneStored s x d)

theorem storeZone_eq {s : State} {z : Nat} {x : Zone} (h : s.zone z = some x) (d : ZoneDef) :
    s.storeZone z d = if x.cfg.enabled = d.enabled ∧ (redefinedZone s z x d).levelOf z = x.level then redefinedZone s z x d
      else State.handLevel z (redefinedZone s z x d) := by
  have old : s.storeZone z d = s.storeOldZone z x d := by rw [State.storeZone, h]
  have stored := stored_eq h d
  rw [old]
  unfold State.storeOldZone
  simp only [stored, groupsFollow_eq]
  change (if x.cfg.enabled ≠ d.enabled then (regroupedZone s z x d).resolveAndHand z else _) = _
  unfold redefinedZone
  by_cases he : x.cfg.enabled = d.enabled
  · rw [if_neg (not_not.mpr he)]
    simp only [he, true_and]
    by_cases hc : x.cfg.controlSensor = d.controlSensor ∧ x.cfg.segment = d.segment
    · simp only [hc, not_true_eq_false, or_self, if_false, and_self, if_true, ne_eq]
      rfl
    · have changed : x.cfg.controlSensor ≠ d.controlSensor ∨ x.cfg.segment ≠ d.segment := not_and_or.mp hc
      simp only [changed, hc, if_true, if_false]
      rfl
  · rw [if_pos he]
    simp only [he, false_and, if_false]
    rfl

section

variable {s : State} {z : Nat} {x : Zone} {d : ZoneDef}

theorem moves_regroupedZone :
    Moves 0 { s with zones := s.zones.set z (some (zoneStored s x d)) } (regroupedZone s z x d) := by
  rw [regroupedZone, ← groupsFollow_eq]
  exact Moves.forEach _ _ (fun _ _ _ => Moves.regroupLine ..) _

theorem moves_redefinedZone :
    Moves 1 { s with zones := s.zones.set z (some (zoneStored s x d)) } (redefinedZone s z x d) := by
  refine (moves_regroupedZone.mono (by omega)).trans ?_
  rw [redefinedZone]
  exact Moves.ite (fun _ => .refl _) fun _ => Moves.resolveHeld (by omega) ..

theorem zone_regroupedZone (k : Nat) :
    (regroupedZone s z x d).zone k = State.zone { s with zones := s.zones.set z (some (zoneStored s x d)) } k := by
  rw [State.zone, moves_regroupedZone.zones_eq (by omega)]
  rfl

theorem zone_redefinedZone (h : s.zone z = some x) : (redefinedZone s z x d).zone z = some (redefinedRecord s z x d) := by
  have here : (regroupedZone s z x d).zone z = some (zoneStored s x d) := (zone_regroupedZone z).trans (zone_set_same h _)
  rw [redefinedZone, redefinedRecord]
  split
  · exact here
  · exact (zoneBecomes_resolveHeld here).here

theorem zone_redefinedZone_ne {k : Nat} (hk : k ≠ z) : (redefinedZone s z x d).zone k = s.zone k := by
  have other : (regroupedZone s z x d).zone k = s.zone k := (zone_regroupedZone k).trans (zone_set_ne s hk _)
  rw [redefinedZone]
  split
  · exact other
  · exact (zone_resolveHeld_ne hk).trans other

theorem moves_storeZone (h : s.zone z = some x) :
    Moves 1 { s with zones := s.zones.set z (some (zoneStored s x d)) } (s.storeZone z d) := by
  rw [storeZone_eq h]
  exact moves_redefinedZone.trans (Moves.ite (fun _ => .refl _) fun _ => Moves.handLevel ..)

theorem zone_storeZone (h : s.zone z = some x) (k : Nat) : (s.storeZone z d).zone k = (redefinedZone s z x d).zone k := by
  rw [storeZone_eq h]
  split
  · rfl
  · exact zone_handLevel ..

/-! ### The record of a redefined zone -/

theorem redefinedRecord_kept : (redefinedRecord s z x d).cfg = d ∧ (redefinedRecord s z x d).overrideActive = x.overrideActive
    ∧ (redefinedRecord s z x d).overrideExpiry = x.overrideExpiry := by
  rw [redefinedRecord]
  split
  · exact ⟨rfl, rfl, rfl⟩
  · obtain ⟨cfg, active, expiry, -⟩ := resolvedZone_kept (s := regroupedZone s z x d) (z := z)
      (n := (regroupedZone s z x d).resolved z (zoneStored s x d)) (x := zoneStored s x d)
    exact ⟨cfg, active, expiry⟩

/-- A change that resolves the zone leaves the record that its resolution leaves. -/
theorem redefinedRecord_resolved
    (h : ¬ (x.cfg.enabled = d.enabled ∧ x.cfg.controlSensor = d.controlSensor ∧ x.cfg.segment = d.segment)) :
    redefinedRecord s z x d = resolvedZone (regroupedZone s z x d) z
      (stateByOrder (regroupedZone s z x d) z (zoneStored s x d)) (zoneStored s x d) := by
  rw [redefinedRecord, if_neg h, resolved_eq]

/-- A resolved record stands in the state that the order gives it after the request (R63). -/
theorem state_redefinedRecord (h : s.zone z = some x)
    (hc : ¬ (x.cfg.enabled = d.enabled ∧ x.cfg.controlSensor = d.controlSensor ∧ x.cfg.segment = d.segment)) :
    (redefinedRecord s z x d).state = (s.storeZone z d).resolved z (redefinedRecord s z x d) := by
  have after := moves_storeZone (d := d) h
  have before := moves_regroupedZone (s := s) (z := z) (x := x) (d := d)
  have sensors := (after.sensors_eq (by omega)).trans (before.sensors_eq (by omega)).symm
  have sweep := (after.sweep_eq (by omega)).trans (before.sweep_eq (by omega)).symm
  rw [redefinedRecord, if_neg hc]
  obtain ⟨cfg, active, -, -, shade, cal⟩ := resolvedZone_kept (s := regroupedZone s z x d) (z := z)
    (n := (regroupedZone s z x d).resolved z (zoneStored s x d)) (x := zoneStored s x d)
  rw [resolvedZone_state, resolved_congr sensors sweep cfg active shade cal]

end

/-- An enabled, disabled or otherwise changed zone, the level that is handed, and all that stays (R11, R12, R86). -/
theorem zoneRedefined_storeZone {s : State} {z : Nat} {x : Zone} (h : s.zone z = some x) (d : ZoneDef) :
    ZoneRedefined s (s.storeZone z d) z x d (redefinedRecord s z x d) := by
  have moved := moves_storeZone (d := d) h
  obtain ⟨cfg, active, expiry⟩ := redefinedRecord_kept (s := s) (z := z) (x := x) (d := d)
  refine { exact := storeZone_eq h d, here := (zone_storeZone h z).trans (zone_redefinedZone h), static := cfg
           overriding := ⟨active, expiry⟩, resolved := fun hc => state_redefinedRecord h (by tauto)
           kept := fun he hs hg => if_pos ⟨he, hs, hg⟩, moved := fun hx hd hc => ?_, enabling := fun hx hd hs => ?_
           disabling := fun hx hd hs => ?_
           others := fun k hk => (zone_storeZone h k).trans (zone_redefinedZone_ne hk), rest := moved.rest1
           gear := moved.gearCore_eq (by omega), lines := moved.lineCore_eq (by omega)
           flags := moved.flagsGrow_list (by omega) (by intro f; cases f <;> simp [flagRank])
           counters := moved.countersGrow_of (by omega) (by intro k; cases k <;> simp [counterRank, isDeferralOrOverride]) }
  case refine_1 =>
    rw [redefinedRecord_resolved (by tauto)]
    have enabled : stateByOrder (regroupedZone s z x d) z (zoneStored s x d) ≠ .disabled := fun e =>
      absurd (((stateByOrder_eq_disabled ..).mp e).symm.trans hd) (by decide)
    have level : (zoneStored s x d).level = if x.cfg.lmin < d.lmin then raised d.lmin x.level else x.level := by
      simp [zoneStored, hx, hd]
    have state : (zoneStored s x d).state = x.state := rfl
    obtain ⟨-, -, -, override, -⟩ := resolvedZone_kept (s := regroupedZone s z x d) (z := z)
      (n := stateByOrder (regroupedZone s z x d) z (zoneStored s x d)) (x := zoneStored s x d)
    rw [resolvedZone_level, resolvedZone_state, override, level, state, if_neg enabled]
    generalize stateByOrder (regroupedZone s z x d) z (zoneStored s x d) = n
    by_cases same : n = x.state
    · subst same; simp
    · by_cases ho : n = .override
      · subst ho; simp [same, Ne.symm same]
      · simp [same, ho]
  case refine_2 =>
    rw [redefinedRecord_resolved (by rw [hx, hd]; tauto)]
    have enabled : stateByOrder (regroupedZone s z x d) z (zoneStored s x d) ≠ .disabled := fun e =>
      absurd (((stateByOrder_eq_disabled ..).mp e).symm.trans hd) (by decide)
    have state : (zoneStored s x d).state = .disabled := hs
    have level : (zoneStored s x d).level = d.fallbackLevel := by simp [zoneStored, hx, hd]
    have target : (zoneStored s x d).target = d.fallbackLevel := by simp [zoneStored, hx, hd]
    have last : (zoneStored s x d).lastEval = none := by simp [zoneStored, hx, hd]
    generalize zoneStored s x d = w at *
    generalize regroupedZone s z x d = v at *
    generalize stateByOrder v z w = n at *
    unfold resolvedZone
    rw [state, if_neg enabled]
    cases n <;> simp_all
  case refine_3 =>
    rw [redefinedRecord_resolved (by rw [hx, hd]; tauto)]
    have off : stateByOrder (regroupedZone s z x d) z (zoneStored s x d) = .disabled := (stateByOrder_eq_disabled ..).mpr hd
    have state : (zoneStored s x d).state ≠ .disabled := hs
    rw [off]
    generalize zoneStored s x d = w at *
    unfold resolvedZone
    rw [if_neg (Ne.symm state)]
    simp

/-- Settles O20: a stored zone, by the record, the drivers of changed groups, the resolution and the level. -/
theorem aDefinedZoneIsRedefined : Obligations.ADefinedZoneIsRedefined := by
  refine ⟨?set, ?define⟩
  case set =>
    intro tag r s x hs hi hx hf hrefs d
    have answer : exec (.setZone tag r) s = .next (answered .setZone tag (zoneResult r.fields x.cfg d)
        ((s.storeZone r.index d).zoneReply r.index) (s.storeZone r.index d)) := exec_setZone tag hs hi hx hf hrefs
    have redefined := zoneRedefined_storeZone hx d
    refine ⟨_, _, ?_, redefined⟩
    rw [answer, zoneReply_of_some redefined.here, redefined.static]
  case define =>
    intro tag r s band x hs hi hx hb hseg hf hrefs free d
    have answer : exec (.defineZone tag r) s = .next (answered .defineZone tag (zoneResult r.fields (zoneDefaults r.segment band) d)
        ((s.storeZone r.index d).zoneReply r.index) (s.storeZone r.index d)) := exec_defineZone tag hs hi hb hseg hf hrefs free
    have redefined := zoneRedefined_storeZone hx d
    refine ⟨_, _, ?_, redefined⟩
    rw [answer, zoneReply_of_some redefined.here, redefined.static]

end Sys2Proof.Machine
end

section
/-! PROOFS. Chapter 1: curves and gear (R16 to R19, R128, R145). -/

namespace Sys2Proof.Machine

open Sys2Proof.Safety

set_option Elab.async false

/-! ### A change of each listed gear that looks at the lines -/

theorem modify_of_none {α : Type} {t : List (Option α)} {i : Nat} (h : entryAt t i = none) (f : α → α) :
    t.modify i (Option.map f) = t := by
  refine List.ext_getElem? fun k => ?_
  rw [List.getElem?_modify]
  split
  · next hk =>
    subst hk
    rw [entryAt] at h
    cases ho : t[i]? with
    | none => rfl
    | some o =>
      rw [ho] at h
      cases o with
      | none => rfl
      | some x => cases h
  · simp

theorem modGear_of_none {s : State} {i : Nat} (h : s.gearAt i = none) (f : Gear → Gear) : s.modGear i f = s := by
  rw [State.modGear, modify_of_none h]

/-- A driver of a redefined curve, marked for its value where it is to follow the points (R19). -/
def remarked (lines : List GearLine) (g : Gear) : Gear :=
  let x := lines.getD g.cfg.line (GearLine.factory false)
  if x.state = .up ∧ g.state ≠ .silent ∧ g.dirty = .clear ∧ ¬ (x.congested = true ∧ g.trimPending = true) then
    { g with dirty := .value } else g

theorem remarkCurve_eq (i : Nat) (s : State) : s.remarkCurve i = s.modGear i (remarked s.gearLines) := by
  unfold State.remarkCurve
  cases h : s.gearAt i with
  | none => rw [modGear_of_none h]
  | some g =>
    have line : s.gearLines.getD g.cfg.line (GearLine.factory false) = s.gearLine g.cfg.line := rfl
    simp only [Bool.and_eq_true, markValue_of_gear h, modGear_of_gear h, remarked, line]
    by_cases waits : (s.gearLine g.cfg.line).congested = true ∧ g.trimPending = true
    · simp only [waits, not_true_eq_false, and_false, if_false, and_self, if_true, set_entryAt_self h]
    · simp only [waits, if_false, not_false_eq_true, and_true]
      split
      · rfl
      · rw [set_entryAt_self h]

theorem forEach_remarkCurve (l : List Nat) (s : State) : forEach l State.remarkCurve s
    = { s with gear := l.foldl (fun t i => t.modify i (Option.map (remarked s.gearLines))) s.gear } := by
  induction l generalizing s with
  | nil => rfl
  | cons i l ih => rw [forEach_cons, remarkCurve_eq, ih]; rfl

/-- Settles O25: each driver of the curve is marked, and the lines are tended. -/
theorem defineCurveStoresThePoints : Obligations.DefineCurveStoresThePoints := by
  intro tag c points s hs hc h9 hp hsorted
  have points_ok : curveOk points = true := curveOk_iff.mpr ⟨hp, hsorted⟩
  have answer := exec_of_passes_ok (k := .defineCurve) (tag := tag) (c := .defineCurve tag c points) hs.1
    (by simp only [exec, execDefineCurve, if_pos h9]) (f := serveDefineCurve c points) rfl
    (passes_cons (State.quiet_of_undisturbed hs) (passes_cons (decide_eq_true hc) (passes_cons points_ok passes_nil)))
  rw [answer]
  rw [State.storeCurve, forEach_remarkCurve]
  have folded := foldl_modify_where s.gear (fun g => g.isDriver && decide (g.cfg.curve = c)) (remarked s.gearLines)
  have marks : (fun g : Gear => if (g.isDriver && decide (g.cfg.curve = c)) = true then remarked s.gearLines g else g)
      = fun g => if g.isDriver ∧ g.cfg.curve = c ∧ (s.gearLine g.cfg.line).isUp ∧ g.state ≠ .silent ∧ g.dirty = .clear
          ∧ ¬ ((s.gearLine g.cfg.line).congested ∧ g.trimPending) then { g with dirty := .value } else g := by
    funext g
    have line : s.gearLines.getD g.cfg.line (GearLine.factory false) = s.gearLine g.cfg.line := rfl
    simp only [Bool.and_eq_true, decide_eq_true_eq, remarked, line, isUp_eq]
    by_cases named : g.isDriver = true ∧ g.cfg.curve = c
    · simp only [named, and_self, if_true, true_and]
    · rw [if_neg named, if_neg fun h => named ⟨h.1, h.2.1⟩]
  rw [← marks, ← folded]
  rfl

/-! ### What the tests of a group may leave different (R141, R143 to R145) -/

theorem CountersGrow.trans {p : Counter → Bool} {s t u : State} (h : CountersGrow p s t) (k : CountersGrow p t u)
    (range : CountersInRange s.live → CountersInRange t.live) : CountersGrow p s u :=
  fun c => ⟨fun hc => ((k c).1 hc).trans ((h c).1 hc), fun hr => ((h c).2 hr).trans ((k c).2 (range hr))⟩

theorem CountersGrow.mono {p q : Counter → Bool} {s t : State} (h : CountersGrow p s t) (hpq : ∀ c, q c = false → p c = false) :
    CountersGrow q s t :=
  fun c => ⟨fun hc => (h c).1 (hpq c hc), (h c).2⟩

theorem countersGrow_of_live {p : Counter → Bool} {s t : State} (h : t.live = s.live) : CountersGrow p s t :=
  fun c => by rw [h]; exact ⟨fun _ => rfl, fun _ => le_rfl⟩

/-- The group's travel and its zones change, and levels are handed; no gear but in its marks, no fault and no count of a group. -/
structure SettlesGroup (s t : State) : Prop where
  moves : Moves 2 s t
  gear : t.gear.map (Option.map gearCore) = s.gear.map (Option.map gearCore)
  flags : FlagsGrow [.counterSaturated, .zoneFallback] s t
  counters : CountersGrow isDeferralOrOverride s t

namespace SettlesGroup

variable {s t u : State}

theorem of_moves (h : Moves 1 s t) : SettlesGroup s t where
  moves := h.mono (by omega)
  gear := h.gearCore_eq (by omega)
  flags := h.flagsGrow_list (by omega) (by intro f; cases f <;> simp [flagRank])
  counters := h.countersGrow_of (by omega) (by intro k; cases k <;> simp [counterRank, isDeferralOrOverride])

theorem refl (s : State) : SettlesGroup s s := of_moves (.refl s)

theorem trans (h : SettlesGroup s t) (k : SettlesGroup t u) : SettlesGroup s u where
  moves := h.moves.trans k.moves
  gear := k.gear.trans h.gear
  flags := FlagsGrow.trans h.flags k.flags
  counters := CountersGrow.trans h.counters k.counters h.moves.inRange

theorem modSegment (s : State) (seg : Nat) (f : Segment → Segment) (h : ∀ g, (f g).cfg = g.cfg := by intro _; rfl) :
    SettlesGroup s (s.modSegment seg f) :=
  ⟨Moves.modSegment (by omega) (h := h) .., rfl, flagsGrow_of_flags rfl, countersGrow_of_live rfl⟩

theorem setShadeHolds (s : State) (seg : Nat) (h : Bool) : SettlesGroup s (s.setShadeHolds seg h) :=
  of_moves (Moves.setShadeHolds (by omega) ..)

theorem ite {c : Prop} [Decidable c] (ht : c → SettlesGroup s t) (hf : ¬ c → SettlesGroup s u) :
    SettlesGroup s (if c then t else u) := by
  split
  · next h => exact ht h
  · next h => exact hf h

theorem endTravel (s : State) (seg : Nat) (st : ShadeState) : SettlesGroup s (s.endTravel seg st) :=
  (modSegment ..).trans (setShadeHolds ..)

theorem endSettle (s : State) (seg : Nat) : SettlesGroup s (s.endSettle seg) := (modSegment ..).trans (setShadeHolds ..)

theorem enterSettling (s : State) (seg : Nat) : SettlesGroup s (s.enterSettling seg) := by
  unfold State.enterSettling
  exact (modSegment ..).trans (ite (fun _ => endSettle ..) fun _ => refl _)

theorem arrivalTest (s : State) (seg : Nat) : SettlesGroup s (s.arrivalTest seg) := by
  unfold State.arrivalTest
  exact ite (fun _ => enterSettling ..) fun _ => refl s

theorem faultTest (s : State) (seg : Nat) : SettlesGroup s (s.faultTest seg) := by
  unfold State.faultTest
  exact ite (fun _ => endTravel ..) fun _ => refl s

/-- A gear that leaves a group (R145). -/
theorem gearLeftGroup (s : State) (seg : Nat) : SettlesGroup s (s.gearLeftGroup seg) := by
  unfold State.gearLeftGroup
  exact ite (fun _ => endTravel ..) fun _ => (faultTest ..).trans (arrivalTest ..)

/-- A gear of the state after, but for its marks. -/
theorem gearAt (h : SettlesGroup s t) (j : Nat) : (t.gearAt j).map gearCore = (s.gearAt j).map gearCore := by
  rw [State.gearAt, State.gearAt, ← entryAt_map, ← entryAt_map, h.gear]

end SettlesGroup

/-! ### A gear deleted (R18) -/

/-- A gear's entry replaced, and its entries taken from a line's queue. -/
def regeared (i : Nat) (line : Nat) (o : Option Gear) (s : State) : State := { s with
  gear := s.gear.set i o
  gearLines := s.gearLines.modify line fun x => { x with queue := abandoned i x.queue } }

theorem gearAt_set_same {s : State} {i : Nat} {g : Gear} (h : s.gearAt i = some g) (o : Option Gear) :
    entryAt (s.gear.set i o) i = o := (entryAt_set ..).trans (if_pos ⟨rfl, entryAt_lt h⟩)

theorem gearAt_set_ne (s : State) {i j : Nat} (h : j ≠ i) (o : Option Gear) : entryAt (s.gear.set i o) j = s.gearAt j :=
  (entryAt_set ..).trans (if_neg fun e => h e.1.symm)

theorem lineCore_regeared (i line : Nat) (o : Option Gear) (s : State) :
    (regeared i line o s).gearLines.map lineCore = s.gearLines.map lineCore := by
  have kept (x : GearLine) : lineCore { x with queue := abandoned i x.queue } = lineCore x := rfl
  exact Moves.modify_map kept ..

theorem deleteGear_eq {s : State} {i : Nat} {g : Gear} (h : s.gearAt i = some g) : s.deleteGear i
    = State.tendLine g.cfg.line (State.regroupGear (some g) none (regeared i g.cfg.line none s)) := by
  unfold State.deleteGear
  simp only [h]
  rfl

/-- Settles O24: by the role of the gear that leaves. -/
theorem deleteGearRemovesTheGear : Obligations.DeleteGearRemovesTheGear := by
  have answer {tag : Byte} {i : Nat} {s : State} {g : Gear} (hs : Undisturbed s) (hi : i < Config.nGear)
      (hg : s.gearAt i = some g) : exec (.deleteGear tag i) s = .next (answered .deleteGear tag .ok [] (s.deleteGear i)) :=
    exec_of_passes_ok hs.1 rfl rfl (passes_cons (State.quiet_of_undisturbed hs) (passes_cons (decide_eq_true hi)
      (passes_cons (Option.isSome_of_eq_some hg) passes_nil)))
  refine ⟨?driver, ?shade⟩
  case driver =>
    intro tag i s g z hs hi hg hrole
    have left : State.regroupGear (some g) none (regeared i g.cfg.line none s)
        = State.refreshGearOutput g (regeared i g.cfg.line none s) := by
      simp only [State.regroupGear, Option.bind_some, Gear.segment?, hrole]
    obtain ⟨rest, outputs⟩ := outputs_gear g (regeared i g.cfg.line none s)
    rw [hrole] at outputs
    exact ⟨_, by rw [answer hs hi hg, deleteGear_eq hg, left], rest, outputs⟩
  case shade =>
    intro tag i s g seg hs hi hg hrole hseg
    have left : State.regroupGear (some g) none (regeared i g.cfg.line none s)
        = State.gearLeftGroup seg (regeared i g.cfg.line none s) := by
      simp only [State.regroupGear, refreshGearOutput_of_shade hrole, Option.bind_some, Option.bind_none, Gear.segment?, hrole,
        reduceCtorEq, if_false]
    have tended : Moves 0 (State.gearLeftGroup seg (regeared i g.cfg.line none s))
        (State.tendLine g.cfg.line (State.gearLeftGroup seg (regeared i g.cfg.line none s))) := Moves.tendLine ..
    have settles : SettlesGroup (regeared i g.cfg.line none s)
        (State.tendLine g.cfg.line (State.gearLeftGroup seg (regeared i g.cfg.line none s))) :=
      (SettlesGroup.gearLeftGroup ..).trans (.of_moves (tended.mono (by omega)))
    have stored : s.deleteGear i = State.tendLine g.cfg.line (State.gearLeftGroup seg (regeared i g.cfg.line none s)) := by
      rw [deleteGear_eq hg, left]
    rw [← stored] at tended settles
    have gone : (regeared i g.cfg.line none s).gearAt i = none := gearAt_set_same hg none
    have others {j : Nat} (hj : j ≠ i) : (regeared i g.cfg.line none s).gearAt j = s.gearAt j := gearAt_set_ne s hj none
    refine ⟨_, answer hs hi hg, stored, ?_, fun j hj => ?_, fun alone => ?_, ?_,
      settles.moves.zoneCfg_eq (by omega), settles.moves.segmentCfg_eq (by omega), ?_, settles.flags, settles.counters⟩
    · exact Option.map_eq_none_iff.mp ((settles.gearAt i).trans (congrArg _ gone))
    · exact (settles.gearAt j).trans (congrArg _ (others hj))
    · have empty : (State.groupGear (regeared i g.cfg.line none s) seg).isEmpty = true := by
        rw [List.isEmpty_iff, List.eq_nil_iff_forall_not_mem]
        intro j hj
        obtain ⟨h, hh, hin⟩ := State.mem_gearWhere.mp hj
        by_cases hji : j = i
        · subst hji
          rw [gone] at hh
          cases hh
        · exact alone j h ((others hji).symm.trans hh) hji (inGroup_iff.mp hin)
      rw [State.segment, tended.segments_eq (by omega), State.gearLeftGroup, if_pos empty, State.endTravel]
      have held : Moves 1 (State.modSegment seg (fun g => { g with state := .idle, travel := none, query := none, settle := none })
          (regeared i g.cfg.line none s)) _ := Moves.setShadeHolds (by omega) _ seg false
      rw [held.segments_eq (by omega)]
      refine (congrArg Segment.state (getD_modify ..)).trans ?_
      rw [if_pos ⟨rfl, hseg⟩]
    · exact (settles.moves.lineCore_eq (by omega)).trans (lineCore_regeared ..)
    · exact settles.moves.rest2

end Sys2Proof.Machine
end

section
/-! PROOFS. Chapter 1: gear defined (R16, R17, R128, R145). -/

namespace Sys2Proof.Machine

open Sys2Proof.Safety

set_option Elab.async false

/-! ### OUTPUT_LOST looks at the gear's roles and states alone (R87) -/

/-- A gear without output: it is SILENT or its line is not UP. -/
def Gear.dark (lines : List GearLine) (g : Gear) : Bool :=
  decide (g.state = .silent) || !(lines.getD g.cfg.line (GearLine.factory false)).isUp

theorem outputIsLost_eq (s : State) (z : Nat) : s.outputIsLost z
    = (!(s.gearWhere (Gear.drives z)).isEmpty
      && (s.gearWhere (Gear.drives z)).all fun i => (s.gearAt i).all fun g => g.dark s.gearLines) := rfl

theorem isUp_of_lineCore {l m : List GearLine} (h : m.map lineCore = l.map lineCore) (k : Nat) :
    (m.getD k (GearLine.factory false)).isUp = (l.getD k (GearLine.factory false)).isUp := by
  have there := congrArg (fun t : List GearLine => t[k]?) h
  simp only [List.getElem?_map] at there
  rw [List.getD_eq_getElem?_getD, List.getD_eq_getElem?_getD]
  cases hm : m[k]? <;> cases hl : l[k]? <;> rw [hm, hl] at there
  case none.some => cases there
  case some.none => cases there
  case some.some x y =>
    have core : lineCore x = lineCore y := Option.some.inj there
    have state : x.state = y.state := (congrArg GearLine.state core : (lineCore x).state = (lineCore y).state)
    simp only [Option.getD_some, isUp_eq, state]

theorem gearAt_of_gearCore {s t : State} (h : t.gear.map (Option.map gearCore) = s.gear.map (Option.map gearCore)) (j : Nat) :
    (t.gearAt j).map gearCore = (s.gearAt j).map gearCore := by
  rw [State.gearAt, State.gearAt, ← entryAt_map, ← entryAt_map, h]

/-- A condition on a gear that its marks do not matter to. -/
theorem any_of_gearCore {p : Gear → Bool} (hp : ∀ g, p (gearCore g) = p g) {o q : Option Gear} (h : o.map gearCore = q.map gearCore) :
    o.any p = q.any p := by
  have there := congrArg (Option.any p) h
  simpa only [Option.any_map, Function.comp_def, hp] using there

theorem all_of_gearCore {p : Gear → Bool} (hp : ∀ g, p (gearCore g) = p g) {o q : Option Gear} (h : o.map gearCore = q.map gearCore) :
    o.all p = q.all p := by
  have there := congrArg (Option.all p) h
  simpa only [Option.all_map, Function.comp_def, hp] using there

theorem gearWhere_of_gearCore {s t : State} (h : t.gear.map (Option.map gearCore) = s.gear.map (Option.map gearCore))
    {p : Gear → Bool} (hp : ∀ g, p (gearCore g) = p g) : t.gearWhere p = s.gearWhere p := by
  have size : t.gear.length = s.gear.length := by simpa using congrArg List.length h
  simp only [State.gearWhere, size, any_of_gearCore hp (gearAt_of_gearCore h _)]

/-- Marks, expected values and queues do not matter to OUTPUT_LOST. -/
theorem outputIsLost_of_cores {s t : State} (hg : t.gear.map (Option.map gearCore) = s.gear.map (Option.map gearCore))
    (hl : t.gearLines.map lineCore = s.gearLines.map lineCore) (z : Nat) : t.outputIsLost z = s.outputIsLost z := by
  have dark : Gear.dark t.gearLines = Gear.dark s.gearLines := by
    funext g
    rw [Gear.dark, Gear.dark, isUp_of_lineCore hl]
  have lost (i : Nat) : ((t.gearAt i).all fun g => g.dark s.gearLines) = (s.gearAt i).all fun g => g.dark s.gearLines :=
    all_of_gearCore (p := Gear.dark s.gearLines) (fun _ => rfl) (gearAt_of_gearCore hg i)
  rw [outputIsLost_eq, outputIsLost_eq, gearWhere_of_gearCore hg (p := Gear.drives z) (fun _ => rfl), dark]
  simp only [lost]

/-- A recomputation with marks and hand-overs after it that touch no zone and latch nothing (R87). -/
theorem outputsRecomputed_then {driven : Nat → Prop} {s t u : State} (h : OutputsRecomputed driven s t)
    (hz : u.zones = t.zones) (hf : u.flags = t.flags) (hlost : ∀ z, u.outputIsLost z = t.outputIsLost z) :
    OutputsRecomputed driven s u := by
  obtain ⟨flags, others, here, latched⟩ := h
  have zone (z : Nat) : u.zone z = t.zone z := by rw [State.zone, State.zone, hz]
  refine ⟨FlagsGrow.trans flags (flagsGrow_of_flags hf), fun z h => (zone z).trans (others z h), fun z h => ?_, ?_⟩
  · rw [zone, here z h, hlost]
  · simp only [hf, hlost]
    exact latched

/-! ### The zones of a gear before and after (R17, R118) -/

theorem refreshGearOutput_eq (g : Gear) (s : State) : s.refreshGearOutput g = forEach g.zone?.toList State.refreshOutput s := by
  unfold State.refreshGearOutput
  cases g.zone? <;> rfl

theorem zone?_eq_some {g : Gear} {z : Nat} : g.zone? = some z ↔ g.cfg.role = .driver z := by
  rw [Gear.zone?]
  cases g.cfg.role <;> simp

theorem forEach_append (l m : List Nat) (f : Nat → State → State) (s : State) :
    forEach (l ++ m) f s = forEach m f (forEach l f s) := List.foldl_append ..

/-- OUTPUT_LOST of the zones that a gear left and joined (R17, R118). -/
theorem outputs_gears (g h : Gear) (s : State) :
    let u := State.refreshGearOutput h (State.refreshGearOutput g s)
    u = { s with zones := u.zones, flags := u.flags }
      ∧ OutputsRecomputed (fun z => g.cfg.role = .driver z ∨ h.cfg.role = .driver z) s u := by
  have both : State.refreshGearOutput h (State.refreshGearOutput g s)
      = forEach (g.zone?.toList ++ h.zone?.toList) State.refreshOutput s := by
    rw [refreshGearOutput_eq, refreshGearOutput_eq, forEach_append]
  have mem : (fun z => z ∈ g.zone?.toList ++ h.zone?.toList)
      = fun z => g.cfg.role = .driver z ∨ h.cfg.role = .driver z := by
    funext z
    rw [List.mem_append, Option.mem_toList, Option.mem_toList, zone?_eq_some, zone?_eq_some]
  rw [both, ← mem]
  exact outputs_forEach ..

/-! ### DEFINE_GEAR accepted (R16) -/

theorem exec_defineGear {r : DefineGear} {s : State} (tag : Byte) (hs : Undisturbed s) (hf : GearFieldsInRange r)
    (hrefs : GearRefsFree s r) : exec (.defineGear tag r) s = .next (answered .defineGear tag .ok
      (encGearDef (gearGiven r (roleGiven r.kind r.owner))) (s.storeGear r.index (gearGiven r (roleGiven r.kind r.owner)))) := by
  obtain ⟨index, ranges⟩ := (gear_inRange_iff hf.kind).mp hf
  have room : s.shadeRoom r.index (gearGiven r (roleGiven r.kind r.owner)) = true :=
    (shadeRoom_iff hf.kind).mpr (by rw [← groupGear_beside_eq]; exact hrefs.room)
  exact exec_of_passes_ok (k := .defineGear) (tag := tag) (c := .defineGear tag r) hs.1 rfl
    (by simp only [serveDefineGear, requestedGear_eq hf.kind]; rfl)
    (passes_cons (State.quiet_of_undisturbed hs) (passes_cons (decide_eq_true index) (passes_cons ranges
      (passes_cons (gearZoneDefined_iff.mpr hrefs.zone)
        (passes_cons ((gear_address_free_iff (d := gearGiven r _)).mpr hrefs.address) (passes_cons room passes_nil))))))

/-! ### A new gear, and one that keeps its identity (R17) -/

/-- A gear's entry replaced. -/
def withGear (i : Nat) (g : Gear) (s : State) : State := { s with gear := s.gear.set i (some g) }

theorem storeNewGear_eq {s : State} {i : Nat} (h : s.gearAt i = none) (d : GearDef) : s.storeGear i d
    = State.tendLine d.line (setupMarked i (State.refreshGearOutput (newGear d) (withGear i (newGear d) s))) := by
  unfold State.storeGear
  simp only [h, markSetup_eq, State.regroupGear, Option.bind_none]
  rfl

/-- Setup marks after a recomputation of OUTPUT_LOST leave what it gave (R87, R128). -/
theorem outputsRecomputed_setupMarked {driven : Nat → Prop} {s t : State} (i : Nat) (h : OutputsRecomputed driven s t) :
    OutputsRecomputed driven s (setupMarked i t) := by
  have marked : Moves 0 t (setupMarked i t) := by
    rw [← markSetup_eq]
    exact Moves.markSetup ..
  refine outputsRecomputed_then h (marked.zones_eq (by omega)) ?_ fun z =>
    outputIsLost_of_cores (marked.gearCore_eq (by omega)) (marked.lineCore_eq (by omega)) z
  rw [setupMarked]
  split
  · rfl
  · split <;> rfl

theorem outputsRecomputed_markValue {driven : Nat → Prop} {s t : State} (i : Nat) (h : OutputsRecomputed driven s t) :
    OutputsRecomputed driven s (t.markValue i) := by
  have marked : Moves 0 t (t.markValue i) := Moves.markValue ..
  refine outputsRecomputed_then h (marked.zones_eq (by omega)) ?_ fun z =>
    outputIsLost_of_cores (marked.gearCore_eq (by omega)) (marked.lineCore_eq (by omega)) z
  unfold State.markValue
  split
  · rfl
  · split <;> rfl

/-- The gear of another gear's place, and its line, in a state whose zones and flags may differ. -/
theorem gearAt_withGear {s u : State} {i : Nat} {g : Gear} (hi : i < s.gear.length)
    (h : u = { withGear i g s with zones := u.zones, flags := u.flags }) : u.gearAt i = some g := by
  rw [h]
  exact (entryAt_set ..).trans (if_pos ⟨rfl, hi⟩)

/-- The setup mark of a stored gear (R128). -/
theorem setupMarked_withGear {s u : State} {i : Nat} {g : Gear} (hi : i < s.gear.length)
    (h : u = { withGear i g s with zones := u.zones, flags := u.flags }) :
    let marks := (s.gearLine g.cfg.line).isUp && decide (g.state ≠ .silent)
    setupMarked i u = { s with
      gear := s.gear.set i (some { g with dirty := if marks then .setup else g.dirty })
      gearLines := if marks then s.gearLines.modify g.cfg.line fun x => { x with
          queue := x.queue.filter fun e => !(!e.inFlight && decide (e.target = .gear i)
            && (decide (e.cmd = .setValue) || decide (e.cmd = .shadeGoto))) }
        else s.gearLines
      zones := u.zones, flags := u.flags } := by
  intro marks
  have line (l : Nat) : u.gearLine l = s.gearLine l := by rw [h]; rfl
  have gear : u.gear = s.gear.set i (some g) := by rw [h]; rfl
  have lines : u.gearLines = s.gearLines := by rw [h]; rfl
  have same : marks = true ↔ (s.gearLine g.cfg.line).state = .up ∧ g.state ≠ .silent := by
    simp only [marks, isUp_eq, Bool.and_eq_true, decide_eq_true_eq]
  rw [setupMarked, gearAt_withGear hi h]
  simp only [line, waitsWithValue_one, ← same, gear, lines, List.set_set]
  split
  · rw [h]
    rfl
  · exact h

/-- The value mark of a stored gear (R128). -/
theorem markValue_withGear {s u : State} {i : Nat} {g : Gear} (hi : i < s.gear.length)
    (h : u = { withGear i g s with zones := u.zones, flags := u.flags }) :
    let marks := (s.gearLine g.cfg.line).isUp && decide (g.state ≠ .silent) && decide (g.dirty = .clear)
    State.markValue i u = { s with
      gear := s.gear.set i (some { g with dirty := if marks then .value else g.dirty }), zones := u.zones, flags := u.flags } := by
  intro marks
  have line (l : Nat) : u.gearLine l = s.gearLine l := by rw [h]; rfl
  have gear : u.gear = s.gear.set i (some g) := by rw [h]; rfl
  have same : marks = true ↔ (s.gearLine g.cfg.line).state = .up ∧ g.state ≠ .silent ∧ g.dirty = .clear := by
    simp only [marks, isUp_eq, Bool.and_eq_true, decide_eq_true_eq, and_assoc]
  rw [markValue_of_gear (gearAt_withGear hi h)]
  simp only [line, ← same, gear, List.set_set]
  split
  · rw [h]
    rfl
  · exact h

/-- The group that a gear leaves is tested after OUTPUT_LOST of its zones (R118, R145). -/
def leftGroup (g : Gear) (role : GearRole) (u : State) : State :=
  match g.cfg.role with
  | .shade a => if role = .shade a then u else State.gearLeftGroup a u
  | .driver _ => u

theorem segment?_eq_some {g : Gear} {a : Nat} : g.segment? = some a ↔ g.cfg.role = .shade a := by
  rw [Gear.segment?]
  cases g.cfg.role <;> simp

theorem regroupGear_eq (g h : Gear) (s : State) : State.regroupGear (some g) (some h) s
    = leftGroup g h.cfg.role (State.refreshGearOutput h (State.refreshGearOutput g s)) := by
  simp only [State.regroupGear, Option.bind_some, leftGroup]
  cases hg : g.cfg.role with
  | driver z => simp only [Gear.segment?, hg]
  | shade a =>
    have here : g.segment? = some a := segment?_eq_some.mpr hg
    simp only [here, segment?_eq_some]

theorem settles_leftGroup (g : Gear) (role : GearRole) (u : State) : SettlesGroup u (leftGroup g role u) := by
  unfold leftGroup
  split
  · exact SettlesGroup.ite (fun _ => .refl u) fun _ => .gearLeftGroup ..
  · exact .refl u

theorem rekind_same {g : Gear} {d : GearDef} (h : g.cfg.role = d.role) (moving : Bool) : g.rekind d moving = { g with cfg := d } := by
  have shade : g.isShade = Gear.isShade { g with cfg := d } := by rw [Gear.isShade, Gear.isShade, Gear.isDriver, Gear.isDriver, h]
  have segment : g.segment? = Gear.segment? { g with cfg := d } := by rw [Gear.segment?, Gear.segment?, h]
  rw [Gear.rekind, if_neg (not_not.mpr shade), if_neg (not_not.mpr segment)]

/-- Settles O22: by the mark that the stored gear gets. -/
theorem defineGearMakesAGearOrKeepsItsRuntime : Obligations.DefineGearMakesAGearOrKeepsItsRuntime := by
  refine ⟨?new, ?kept⟩
  case new =>
    intro tag r s hs hlen hg hf hrefs d up
    have hi : r.index < s.gear.length := hlen ▸ hf.index
    obtain ⟨rest, outputs⟩ := outputs_gear (newGear d) (withGear r.index (newGear d) s)
    refine ⟨_, by rw [exec_defineGear tag hs hf hrefs, storeNewGear_eq hg]; rfl, ?_, outputsRecomputed_setupMarked r.index outputs⟩
    have marked := setupMarked_withGear hi rest
    have unknown : ((s.gearLine (newGear d).cfg.line).isUp && decide ((newGear d).state ≠ .silent)) = up := Bool.and_true _
    simp only [unknown] at marked
    rw [marked]
    rfl
  case kept =>
    intro tag r s g hs hg hf hrefs d hline haddress hrole marks setup mark
    have hi : r.index < s.gear.length := entryAt_lt hg
    have stored : s.storeGear r.index d = s.storeSameGear r.index g d := by
      unfold State.storeGear
      simp only [hg, hline, haddress, and_self, if_true]
    obtain ⟨rest, outputs⟩ := outputs_gears g { g with cfg := d } (withGear r.index { g with cfg := d } s)
    rw [hrole] at outputs
    simp only [or_self] at outputs
    have left : State.regroupGear (some g) (some { g with cfg := d }) (withGear r.index { g with cfg := d } s)
        = State.refreshGearOutput { g with cfg := d } (State.refreshGearOutput g (withGear r.index { g with cfg := d } s)) := by
      rw [regroupGear_eq, leftGroup]
      split
      · next a ha => exact if_pos (hrole.symm.trans ha)
      · rfl
    have same : s.storeSameGear r.index g d = (
        let u := State.refreshGearOutput { g with cfg := d } (State.refreshGearOutput g (withGear r.index { g with cfg := d } s))
        if g.cfg.lossLevel ≠ d.lossLevel then State.tendLine d.line (setupMarked r.index u)
        else if g.cfg ≠ d then State.tendLine d.line (State.markValue r.index u) else u) := by
      unfold State.storeSameGear
      simp only [rekind_same hrole, ← markSetup_eq, hrole, ne_eq, not_true_eq_false, false_or, ← left]
      rfl
    generalize State.refreshGearOutput { g with cfg := d } (State.refreshGearOutput g (withGear r.index { g with cfg := d } s)) = u
      at rest outputs left same
    have answer {v : State} (h : s.storeGear r.index d = v) :
        exec (.defineGear tag r) s = .next (answered .defineGear tag .ok (encGearDef d) v) := by
      rw [exec_defineGear tag hs hf hrefs, ← h]
    by_cases loss : g.cfg.lossLevel = d.lossLevel
    · have quiet : setup = false := by simp [setup, loss]
      by_cases cfg : g.cfg = d
      · have mark_eq : mark = g.dirty := by simp [mark, quiet, cfg]
        refine ⟨u, answer ((stored.trans same).trans ((if_neg (not_not.mpr loss)).trans ((if_neg (not_not.mpr cfg)).trans
          (if_pos cfg).symm))), ?_, outputs⟩
        rw [quiet, mark_eq]
        exact rest
      · have mark_eq : mark = if (s.gearLine d.line).isUp && decide (g.state ≠ .silent) && decide (g.dirty = .clear) then .value
            else g.dirty := by
          have changed : decide (g.cfg ≠ d) = true := decide_eq_true cfg
          simp only [mark, quiet, marks, changed, Bool.false_eq_true, if_false, Bool.and_true]
          rfl
        refine ⟨State.markValue r.index u, answer ((stored.trans same).trans ((if_neg (not_not.mpr loss)).trans ((if_pos cfg).trans
          (if_neg cfg).symm))), ?_, outputsRecomputed_markValue r.index outputs⟩
        have marked := markValue_withGear hi rest
        rw [quiet, mark_eq, marked]
        rfl
    · have loud : setup = marks := by simp [setup, loss]
      have cfg : g.cfg ≠ d := fun e => loss (by rw [e])
      have unmarked : marks = false → (if marks && decide (g.cfg ≠ d) && decide (g.dirty = .clear) then Dirty.value else g.dirty)
          = g.dirty := fun e => by simp [e]
      have mark_eq : mark = if marks then .setup else g.dirty := by
        simp only [mark, loud]
        split
        · rfl
        · next h => exact unmarked (by simpa using h)
      refine ⟨setupMarked r.index u, answer ((stored.trans same).trans ((if_pos loss).trans (if_neg cfg).symm)), ?_, outputsRecomputed_setupMarked r.index outputs⟩
      have marked := setupMarked_withGear hi rest
      rw [loud, mark_eq, marked]
      rfl

end Sys2Proof.Machine
end

section
/-! PROOFS. Chapter 1: a defined gear redefined (R17, R128, R145). -/

namespace Sys2Proof.Machine

open Sys2Proof.Safety

set_option Elab.async false

/-- The record of a gear that keeps its line and address (R17): by the roles before and after. -/
theorem rekind_eq (s : State) (g : Gear) (d : GearDef) : g.rekind d (s.joinsMoving d)
    = match g.cfg.role, d.role with
      | .driver _, .driver _ => { g with cfg := d }
      | .shade a, .shade b =>
        if a = b then { g with cfg := d }
        else { g with
          cfg := d, unreported := decide ((s.segment b).state = .moving), unchanged := 0, retriesUsed := 0, shadeFaulted := false }
      | _, _ => { g with
          cfg := d, position := none, atLimit := false, unreported := false, unchanged := 0, retriesUsed := 0
          shadeFaulted := false } := by
  cases before : g.cfg.role with
  | driver y =>
    cases after : d.role with
    | driver z => simp [Gear.rekind, Gear.isShade, Gear.isDriver, Gear.segment?, before, after]
    | shade b => simp [Gear.rekind, Gear.isShade, Gear.isDriver, before, after]
  | shade a =>
    cases after : d.role with
    | driver z => simp [Gear.rekind, Gear.isShade, Gear.isDriver, before, after]
    | shade b =>
      by_cases stays : a = b
      · simp [Gear.rekind, Gear.isShade, Gear.isDriver, Gear.segment?, before, after, stays]
      · simp [Gear.rekind, Gear.isShade, Gear.isDriver, Gear.segment?, before, after, stays, State.joinsMoving, State.moving,
          State.shadeState] <;> rfl

/-- What follows the tests of the group that the gear left: its mark, and the lines' service (R17, R128). -/
def gearMarked (i : Nat) (g : Gear) (d : GearDef) (same : Bool) (left : State) : State :=
  if same = false then State.tendLine d.line (State.tendLine g.cfg.line (setupMarked i left))
  else if g.cfg.role ≠ d.role ∨ g.cfg.lossLevel ≠ d.lossLevel then State.tendLine d.line (setupMarked i left)
  else if g.cfg ≠ d then State.tendLine d.line (State.markValue i left)
  else left

theorem moves_setupMarked (i : Nat) (s : State) : Moves 0 s (setupMarked i s) := by
  rw [← markSetup_eq]
  exact Moves.markSetup ..

theorem moves_gearMarked (i : Nat) (g : Gear) (d : GearDef) (same : Bool) (left : State) :
    Moves 0 left (gearMarked i g d same left) := by
  unfold gearMarked
  exact Moves.ite (fun _ => ((moves_setupMarked i left).trans (Moves.tendLine ..)).trans (Moves.tendLine ..)) fun _ =>
    Moves.ite (fun _ => (moves_setupMarked i left).trans (Moves.tendLine ..)) fun _ =>
    Moves.ite (fun _ => (Moves.markValue left i).trans (Moves.tendLine ..)) fun _ => .refl left

/-- A redefined gear's record (R17). -/
def redefinedGear (s : State) (g : Gear) (d : GearDef) (same : Bool) : Gear :=
  if same then g.rekind d (s.joinsMoving d) else newGear d

theorem redefinedGear_cfg (s : State) (g : Gear) (d : GearDef) (same : Bool) : (redefinedGear s g d same).cfg = d := by
  rw [redefinedGear]
  split
  · rw [Gear.rekind]
    split
    · rfl
    · split <;> rfl
  · rfl

/-- The state with the redefined gear's record, and its entries taken from its old line where its identity changes. -/
def gearStored (s : State) (i : Nat) (g : Gear) (d : GearDef) (same : Bool) : State := { s with
  gear := s.gear.set i (some (redefinedGear s g d same))
  gearLines := if same then s.gearLines
    else s.gearLines.modify g.cfg.line fun x => { x with queue := abandoned i x.queue } }

theorem lineCore_gearStored (s : State) (i : Nat) (g : Gear) (d : GearDef) (same : Bool) :
    (gearStored s i g d same).gearLines.map lineCore = s.gearLines.map lineCore := by
  cases same with
  | true => rfl
  | false => exact lineCore_regeared i g.cfg.line none s

/-- OUTPUT_LOST of the zones that the gear left and joined. -/
def gearShown (s : State) (i : Nat) (g : Gear) (d : GearDef) (same : Bool) : State :=
  State.refreshGearOutput (redefinedGear s g d same) (State.refreshGearOutput g (gearStored s i g d same))

/-- A redefined gear, in one expression (R17, R128, R145). -/
theorem storeGear_eq {s : State} {i : Nat} {g : Gear} (h : s.gearAt i = some g) (d : GearDef) :
    let same := decide (g.cfg.line = d.line ∧ g.cfg.address = d.address)
    s.storeGear i d = gearMarked i g d same (leftGroup g d.role (gearShown s i g d same)) := by
  intro same
  have group (new : Gear) (hcfg : new.cfg = d) (t : State) : State.regroupGear (some g) (some new) t
      = leftGroup g d.role (State.refreshGearOutput new (State.refreshGearOutput g t)) := by
    rw [regroupGear_eq, hcfg]
  unfold State.storeGear
  by_cases identity : g.cfg.line = d.line ∧ g.cfg.address = d.address
  · have kept : same = true := decide_eq_true identity
    have cfg : (g.rekind d (s.joinsMoving d)).cfg = d := redefinedGear_cfg s g d true
    simp only [h, identity, and_self, if_true, kept]
    unfold State.storeSameGear
    simp only [group _ cfg, markSetup_eq, gearMarked, Bool.true_eq_false, if_false]
    rfl
  · have fresh : same = false := decide_eq_false identity
    simp only [h, identity, if_false, fresh, group (Gear.fresh d) rfl, markSetup_eq, gearMarked, if_true]
    rfl

/-- Settles O23: by the stored record, the group that is left, and the marks. -/
theorem defineGearReplacesTheStaticFields : Obligations.DefineGearReplacesTheStaticFields := by
  intro tag r s g hs hg hf hrefs d same shape stored
  have hi : r.index < s.gear.length := entryAt_lt hg
  have record : (if same then shape else newGear d) = redefinedGear s g d same := by
    rw [redefinedGear, rekind_eq] <;> rfl
  have kept : stored = gearStored s r.index g d same := by
    rw [gearStored, ← record]
  obtain ⟨rest, outputs⟩ : gearShown s r.index g d same = { gearStored s r.index g d same with
        zones := (gearShown s r.index g d same).zones, flags := (gearShown s r.index g d same).flags } ∧ _ :=
    outputs_gears g (redefinedGear s g d same) (gearStored s r.index g d same)
  rw [redefinedGear_cfg] at outputs
  have shown : Moves 5 (gearStored s r.index g d same) (gearShown s r.index g d same) :=
    (Moves.refreshGearOutput (by omega) ..).trans (Moves.refreshGearOutput (by omega) ..)
  have answer : exec (.defineGear tag r) s = .next (answered .defineGear tag .ok (encGearDef d)
      (gearMarked r.index g d same (leftGroup g d.role (gearShown s r.index g d same)))) := by
    rw [exec_defineGear tag hs hf hrefs, storeGear_eq hg]
  rw [kept, record]
  have settles : SettlesGroup (gearShown s r.index g d same)
      (gearMarked r.index g d same (leftGroup g d.role (gearShown s r.index g d same))) :=
    (settles_leftGroup ..).trans (.of_moves ((moves_gearMarked ..).mono (by omega)))
  have gear : (gearShown s r.index g d same).gearAt = (gearStored s r.index g d same).gearAt := by
    rw [rest]
    rfl
  have lines : (gearShown s r.index g d same).gearLines = (gearStored s r.index g d same).gearLines := by rw [rest]
  have live : (gearShown s r.index g d same).live = s.live := by
    rw [rest]
    rfl
  refine ⟨_, gearShown s r.index g d same, answer, rest, outputs, rfl, ?_, fun j hj => ?_, ?_, ?_, ?_, ?_, ?_, ?_⟩
  · rw [settles.gearAt, gear]
    exact congrArg _ (gearAt_set_same hg _)
  · rw [settles.gearAt, gear]
    exact congrArg _ (gearAt_set_ne s hj _)
  · rw [settles.moves.lineCore_eq (by omega), lines, lineCore_gearStored]
  · exact (settles.moves.zoneCfg_eq (by omega)).trans (shown.zoneCfg_eq (by omega))
  · exact (settles.moves.segmentCfg_eq (by omega)).trans (shown.segmentCfg_eq (by omega))
  · generalize gearMarked r.index g d same (leftGroup g d.role (gearShown s r.index g d same)) = t at settles
    exact settles.moves.rest2.trans (by rw [rest]; rfl)
  · refine FlagsGrow.trans (FlagsGrow.mono outputs.1 ?_) (FlagsGrow.mono settles.flags ?_) <;> simp
  · exact CountersGrow.trans (countersGrow_of_live live) settles.counters (fun h => by rw [live]; exact h)

end Sys2Proof.Machine
end

section
/-! PROOFS. Chapter 6: a started line, the audit's visits, a line's parameters, and the forward frames (R111, R115, R121, R133). -/

namespace Sys2Proof.Machine

open Sys2Proof.Safety

set_option Elab.async false

/-! ### A gear line's record replaced -/

theorem get_set_same {α : Type} {t : List α} {i : Nat} {x : α} (h : t[i]? = some x) (y : α) : (t.set i y)[i]? = some y :=
  List.getElem?_set_self (List.getElem?_eq_some_iff.mp h).1

/-- A line without entries has none to take. -/
theorem withoutValues_empty {x : GearLine} (h : x.queue = []) (p : Nat → Bool) : withoutValues p x = x := by
  rw [withoutValues, h, List.filter_nil, ← h]

theorem drivenOn_of_gearCore {s t : State} (h : t.gear.map (Option.map gearCore) = s.gear.map (Option.map gearCore)) (l : Nat) :
    DrivenOn t l = DrivenOn s l := by
  have driven (u : State) (z : Nat) : DrivenOn u l z ↔ ∃ i, (u.gearAt i).any fun g =>
      decide (g.cfg.role = .driver z ∧ g.cfg.line = l) := by
    simp only [DrivenOn, Option.any_eq_true, decide_eq_true_eq]
  funext z
  refine propext ((driven t z).trans (Iff.trans ?_ (driven s z).symm))
  refine exists_congr fun i => ?_
  rw [any_of_gearCore (p := fun g => decide (g.cfg.role = .driver z ∧ g.cfg.line = l)) (fun _ => rfl) (gearAt_of_gearCore h i)]

/-! ### START_SETTLE_EXPIRY (R115) -/

/-- The line is UP, before its gear are marked (R115, R133). -/
def lineRisen (l : Nat) (x : GearLine) (s : State) : State := { s with gearLines := s.gearLines.set l { x with
  state := .up, congested := false, settle := none
  audit := if x.auditInterval = 0 then none else some { start := s.tick, len := x.auditInterval * 1000 } } }

/-- The gear of the line, marked with setup. -/
def lineMarked (l : Nat) (s : State) : State := { s with
  gear := s.gear.map (Option.map fun g => if g.cfg.line = l ∧ g.state ≠ .silent then { g with dirty := .setup } else g) }

theorem lineUp_eq {s : State} {l : Nat} {x : GearLine} (h : s.gearLines[l]? = some x) (hq : x.queue = []) :
    s.lineUp l = State.tendLine l (State.refreshLineOutput l (lineMarked l (lineRisen l x s))) := by
  have risen : (lineRisen l x s).gearLines[l]? = some _ := get_set_same h _
  have up : ((lineRisen l x s).gearLine l).state = .up := congrArg GearLine.state (gearLine_of_get risen)
  have marked := markSetups_eq (s := lineRisen l x s) (l := l) (fun g => decide (g.cfg.line = l)) fun g h => of_decide_eq_true h
  have empty (p : Nat → Bool) : (lineRisen l x s).gearLines.modify l (withoutValues p) = (lineRisen l x s).gearLines := by
    rw [modify_eq_set_of_get risen, withoutValues_empty (by exact hq)]
    exact List.set_set ..
  have setup : (fun g : Gear => if decide (g.cfg.line = l) = true then toSetup g else g)
      = fun g => if g.cfg.line = l ∧ g.state ≠ .silent then { g with dirty := .setup } else g := by
    funext g
    by_cases hl : g.cfg.line = l <;> simp [hl, toSetup]
  rw [if_pos up, empty, setup] at marked
  unfold State.lineUp
  rw [modGearLine_of_get h]
  exact congrArg (fun t => State.tendLine l (State.refreshLineOutput l t)) marked

/-- Settles O46: a line that is STARTING, and any other. -/
theorem aStartedLineIsSetUp : Obligations.AStartedLineIsSetUp := by
  intro l s x h hq
  have line : s.gearLine l = x := gearLine_of_get h
  refine ⟨fun hs => ?_, fun hs hset => ?_⟩
  · have idle : ((s.gearLine l).settle.isSome && decide ((s.gearLine l).state = .starting)) = false := by simp [line, hs]
    simp only [exec, execStartSettleExpiry, idle, Bool.false_eq_true, if_false]
  · have due : ((s.gearLine l).settle.isSome && decide ((s.gearLine l).state = .starting)) = true := by simp [line, hs, hset]
    obtain ⟨rest, outputs⟩ := outputs_line l (lineMarked l (lineRisen l x s))
    have driven : DrivenOn (lineMarked l (lineRisen l x s)) l = DrivenOn s l := drivenOn_of_gearCore
      (Moves.map_optMap (p := gearCore) (fun g => by split <;> rfl) s.gear) l
    rw [driven] at outputs
    refine ⟨_, ?_, rest, outputs⟩
    simp only [exec, execStartSettleExpiry, due, if_true, lineUp_eq h hq]

/-! ### AUDIT_TIMER_EXPIRY (R133) -/

theorem find?_of_least {l : List Nat} (hl : l.Pairwise (· < ·)) {p : Nat → Bool} {i : Nat} (hi : i ∈ l) (hp : p i = true)
    (least : ∀ j ∈ l, p j = true → i ≤ j) : l.find? p = some i := by
  induction l with
  | nil => cases hi
  | cons k l ih =>
    obtain ⟨first, hl⟩ := List.pairwise_cons.mp hl
    rw [List.find?_cons]
    cases hk : p k with
    | true =>
      have below : i ≤ k := least k (List.mem_cons_self ..) hk
      rcases List.mem_cons.mp hi with rfl | hi
      · rfl
      · exact absurd (first i hi) (by omega)
    | false =>
      have there : i ∈ l := (List.mem_cons.mp hi).resolve_left fun e => by rw [e, hk] at hp; cases hp
      exact ih hl there fun j hj => least j (List.mem_cons_of_mem _ hj)

theorem head?_of_least {l : List Nat} (hl : l.Pairwise (· < ·)) {i : Nat} (hi : i ∈ l) (least : ∀ j ∈ l, i ≤ j) :
    l.head? = some i := by
  cases l with
  | nil => cases hi
  | cons k l =>
    rcases List.mem_cons.mp hi with rfl | there
    · rfl
    · have below := least k (List.mem_cons_self ..)
      exact absurd ((List.pairwise_cons.mp hl).1 i there) (by omega)

theorem gearWhere_ascending (s : State) (p : Gear → Bool) : (s.gearWhere p).Pairwise (· < ·) := List.pairwise_lt_range.filter _

/-- The visit after a position: the next gear of the line, or the lowest of all (R133). -/
theorem auditNext_eq {s : State} {l i : Nat} {g : Gear} (h : s.gearAt i = some g) (hl : g.cfg.line = l)
    (next : (∃ p, (s.gearLine l).auditPos = some p ∧ p < i ∧ ∀ j, (∃ g, s.gearAt j = some g ∧ g.cfg.line = l) → p < j → i ≤ j)
      ∨ ((∀ p j, (s.gearLine l).auditPos = some p → (∃ g, s.gearAt j = some g ∧ g.cfg.line = l) → j ≤ p)
        ∧ ∀ j, (∃ g, s.gearAt j = some g ∧ g.cfg.line = l) → i ≤ j)) : s.auditNext l = some i := by
  have mem (j : Nat) : j ∈ s.gearWhere (fun g => decide (g.cfg.line = l)) ↔ ∃ g, s.gearAt j = some g ∧ g.cfg.line = l := by
    simp only [State.mem_gearWhere, decide_eq_true_eq]
  have sorted := gearWhere_ascending s fun g => decide (g.cfg.line = l)
  have here := (mem i).mpr ⟨g, h, hl⟩
  simp only [← mem] at next
  unfold State.auditNext
  rcases next with ⟨p, pos, above, least⟩ | ⟨past, least⟩
  · simp only [pos, find?_of_least (p := fun i => decide (p < i)) sorted here (decide_eq_true above) fun j hj hp =>
      least j hj (of_decide_eq_true hp), Option.some_or]
  · have head := head?_of_least sorted here least
    cases pos : (s.gearLine l).auditPos with
    | none => exact head
    | some p =>
      have none : (s.gearWhere fun g => decide (g.cfg.line = l)).find? (fun i => decide (p < i)) = none := by
        refine List.find?_eq_none.mpr fun j hj => ?_
        have := past p j pos hj
        simpa using this
      simp only [none, Option.none_or, head]

theorem auditNext_none {s : State} {l : Nat} (h : ∀ i, ¬ ∃ g, s.gearAt i = some g ∧ g.cfg.line = l) : s.auditNext l = none := by
  have empty : s.gearWhere (fun g => decide (g.cfg.line = l)) = [] := by
    refine List.eq_nil_iff_forall_not_mem.mpr fun i hi => h i ?_
    obtain ⟨g, hg, hl⟩ := State.mem_gearWhere.mp hi
    exact ⟨g, hg, of_decide_eq_true hl⟩
  unfold State.auditNext
  simp only [empty]
  split <;> rfl

theorem auditQuery_eq (g : Gear) : g.auditQuery
    = if g.state ≠ .present then .queryStatus else if g.isDriver then .queryValue else .shadeQuery := by
  unfold Gear.auditQuery Gear.isDriver
  cases g.state <;> cases g.cfg.role <;> rfl

theorem auditVisit_of_next {s : State} {l i : Nat} {g : Gear} (h : s.auditNext l = some i) (hg : s.gearAt i = some g) :
    s.auditVisit l = (s.modGearLine l fun x => { x with auditPos := some i }).offer l false
      (.arrival (.gear i) g.auditQuery 0 none .audit) := by
  unfold State.auditVisit
  simp only [h, hg]

/-- Settles O50: no visit, and the visit of the next gear. -/
theorem theAuditVisitsTheNextGear : Obligations.TheAuditVisitsTheNextGear := by
  intro l s x h timer here
  have line : s.gearLine l = x := gearLine_of_get h
  have restarted : s.modGearLine l (fun x => { x with audit := s.auditTimer x.auditInterval })
      = { s with gearLines := s.gearLines.set l { x with audit := timer } } := modGearLine_of_get h _
  have answer (hup : x.state = .up) (ha : x.audit.isSome = true) : exec (.auditTimerExpiry l) s
      = .next (if x.congested then { s with gearLines := s.gearLines.set l { x with audit := timer } }
        else State.auditVisit l { s with gearLines := s.gearLines.set l { x with audit := timer } }) := by
    simp only [exec, execAuditTimerExpiry, line, isUp_eq, hup, decide_true, ha, Bool.and_self, if_true, restarted]
  refine ⟨fun quiet => ?_, fun hup ha quiet => ?_, fun i g hup ha hc hg hl next => ?_⟩
  · have idle : (x.isUp && x.audit.isSome) = false := by
      rcases quiet with hup | ha
      · simp [isUp_eq, hup]
      · simp [ha]
    simp only [exec, execAuditTimerExpiry, line, idle, Bool.false_eq_true, if_false]
  · rw [answer hup ha]
    by_cases hc : x.congested = true
    · rw [if_pos hc]
    · have none := auditNext_none (s := { s with gearLines := s.gearLines.set l { x with audit := timer } }) (l := l)
        (quiet.resolve_left hc)
      rw [if_neg hc, State.auditVisit, none]
  · have visited := gearLine_of_get (s := { s with gearLines := s.gearLines.set l { x with audit := timer } }) (get_set_same h _)
    have nexts := auditNext_eq (s := { s with gearLines := s.gearLines.set l { x with audit := timer } }) (l := l) hg hl
      (by rw [visited]; exact next)
    have gear : State.gearAt { s with gearLines := s.gearLines.set l { x with audit := timer } } i = some g := hg
    rw [answer hup ha, if_neg (by simp [hc]), auditVisit_of_next nexts gear, modGearLine_of_get (get_set_same h _), auditQuery_eq]
    simp only [List.set_set]
    rfl

/-! ### SET_GEAR_LINE (R111, R130) -/

theorem storedRateCode_eq {v : Nat} (h : v ≤ 7) : storedRateCode v = rateStored v := by
  interval_cases v <;> rfl

theorem newHigh_eq (r : SetGearLine) (x : GearLine) : newHigh r x = clampGiven 8 31 x.highWatermark r.highWatermark :=
  clampOr_eq (by omega) ..

/-- The high watermark stays above the least low one (R111). -/
theorem eight_le_newHigh {x : GearLine} (h : 8 ≤ x.highWatermark) (r : SetGearLine) :
    8 ≤ clampGiven 8 31 x.highWatermark r.highWatermark := by
  cases r.highWatermark with
  | none => exact h
  | some v => exact le_max_left _ _

/-- Settles O43. -/
theorem setGearLineStoresTheParameters : Obligations.SetGearLineStoresTheParameters := by
  intro tag r s x hs hl h hrate hlimit haudit hhigh high low interval y t
  have line : s.gearLine r.line = x := gearLine_of_get h
  have rate : r.rateCode.map storedRateCode = r.rateCode.map rateStored := by
    cases hc : r.rateCode with
    | none => rfl
    | some v => exact congrArg some (storedRateCode_eq (hrate v hc))
  have code : (r.rateCode.any fun v => decide (storedRateCode v ≠ v)) = r.rateCode.any fun v => decide (rateStored v ≠ v) := by
    cases hc : r.rateCode with
    | none => rfl
    | some v => simp only [Option.any_some, storedRateCode_eq (hrate v hc)]
  have highs : newHigh r x = high := newHigh_eq r x
  have eight : 8 ≤ high := eight_le_newHigh hhigh r
  have lows : newLow r x = low := by
    rw [newLow, highs]
    exact clamp_eq_max_min (by omega) _
  have timer : s.newAudit x.auditInterval (x.takeParams r) = if interval = 0 then none
      else if x.auditInterval = 0 ∧ x.state = .up then some { start := s.tick, len := interval * 1000 } else x.audit := by
    by_cases off : interval = 0
    · rw [if_pos off]
      exact if_pos off
    · rw [if_neg off]
      have runs : s.auditTimer interval = some { start := s.tick, len := interval * 1000 } := if_neg off
      rw [← runs]
      exact if_neg off
  have stored : s.setGearLineParams r = t := by
    unfold State.setGearLineParams State.highCheck
    dsimp only
    rw [modGearLine_of_get h, modGearLine_of_get (get_set_same h _)]
    simp only [List.set_set, line, timer]
    simp only [GearLine.takeParams, rate, highs, lows]
    rfl
  have adjusted : gearLineAdjusted r (s.gearLine r.line) = (r.rateCode.any (fun v => decide (rateStored v ≠ v))
      || outside 8 31 r.highWatermark || decide (low ≠ r.lowWatermark.getD x.lowWatermark)) := by
    rw [line, gearLineAdjusted, code, clamps_eq (by omega), lows]
  have fields : (optBetween 0 7 r.rateCode && optBetween 1 7 r.attemptLimit && optBetween 0 60 r.auditInterval) = true := by
    simp only [Bool.and_eq_true, optBetween_iff]
    exact ⟨⟨fun v hv => ⟨Nat.zero_le v, hrate v hv⟩, hlimit⟩, fun v hv => ⟨Nat.zero_le v, haudit v hv⟩⟩
  have answer := exec_of_passes (k := .setGearLine) (tag := tag) (c := .setGearLine tag r) hs.1 rfl rfl
    (passes_cons (State.quiet_of_undisturbed hs) (passes_cons (decide_eq_true hl) (passes_cons fields passes_nil)))
  have tended : Moves 0 { s with gearLines := s.gearLines.set r.line y } t := Moves.tendLine ..
  have core : lineCore (t.gearLine r.line) = lineCore y := by
    have there := congrArg (fun l : List GearLine => l[r.line]?) (tended.lineCore_eq (by omega))
    simp only [List.getElem?_map, get_set_same h y, Option.map_some] at there
    obtain ⟨z, hz, hcore⟩ := Option.map_eq_some_iff.mp there
    rw [gearLine_of_get hz, hcore]
  have reply : flag8 (t.gearLine r.line).enabled ++ encGearLine (t.gearLine r.line) ++ u8 (t.gearLine r.line).state.code
      = flag8 y.enabled ++ encGearLine y ++ u8 y.state.code :=
    (congrArg (fun x : GearLine => flag8 x.enabled ++ encGearLine x ++ u8 x.state.code) core :
      (fun x : GearLine => flag8 x.enabled ++ encGearLine x ++ u8 x.state.code) (lineCore (t.gearLine r.line)) = _)
  rw [stored, adjusted, reply] at answer
  exact answer

/-! ### FORWARD_FRAME_START and GROUP_FRAME_SENT (R121, R125, R202) -/

theorem inFlight_of_head {s : State} {l : Nat} {x : GearLine} {e : Entry} {rest : List Entry} (h : s.gearLines[l]? = some x)
    (hq : x.queue = e :: rest) (ha : e.attempting = true) : s.inFlight l = some e := by
  rw [State.inFlight, gearLine_of_get h, GearLine.head?, hq, List.head?_cons, Option.filter_some, if_pos ha]

/-- The bytes of a forward frame (R202). -/
theorem forwardFrame_eq (s : State) (e : Entry) : s.forwardFrame e =
    (let address := match e.target with
      | .gear i => (match s.gearAt i with
        | some g => BitVec.ofNat 8 g.cfg.address
        | none => 0)
      | .group k => BitVec.ofNat 8 (0x40 + k)
    let value := match e.cmd with
      | .setValue | .setLossLevel | .shadeGoto => e.value
      | .setGroup => e.group.getD 0xFF
      | _ => 0
    let bytes := [address, BitVec.ofNat 8 e.cmd.wire, BitVec.ofNat 8 value]
    bytes ++ [gearCheck bytes]) := by
  have address : BitVec.ofNat 8 (s.frameAddress e) = match e.target with
      | .gear i => (match s.gearAt i with
        | some g => BitVec.ofNat 8 g.cfg.address
        | none => 0)
      | .group k => BitVec.ofNat 8 (0x40 + k) := by
    unfold State.frameAddress
    cases e.target with
    | group k => rfl
    | gear i => cases hg : s.gearAt i <;> simp only [hg] <;> rfl
  have value : e.wireValue = match e.cmd with
      | .setValue | .setLossLevel | .shadeGoto => e.value
      | .setGroup => e.group.getD 0xFF
      | _ => 0 := by
    unfold Entry.wireValue
    cases e.cmd <;> rfl
  simp only [State.forwardFrame, u8, address, value]
  rfl

/-- The counts of a forward frame (R121, R173). -/
theorem countFrame_eq (s : State) (l : Nat) (e : Entry) : s.countFrame l e =
    (let v := s.countBy (.frames l) 1
    let w := match e.target with
      | .group _ => v.countBy (.groupFrames l) 1
      | .gear _ => v
    if e.attempts = 0 then w else w.countBy (.retries l) 1) := by
  unfold State.countFrame State.count
  by_cases h : e.attempts = 0
  · rw [if_pos h]
    cases e.target <;> simp only [h, lt_irrefl, if_false, Target.isGroup, if_true, Bool.false_eq_true]
  · rw [if_neg h]
    cases e.target <;> simp only [Nat.pos_of_ne_zero h, if_true, Target.isGroup, if_false, Bool.false_eq_true]

theorem gearLines_countFrame (s : State) (l : Nat) (e : Entry) : (s.countFrame l e).gearLines = s.gearLines := by
  unfold State.countFrame
  dsimp only
  split <;> split <;> simp only [State.count_gearLines]

/-- Settles O47: nothing to send, the frame of the head, and the end of a group's frame. -/
theorem theHeadEntryIsSent : Obligations.TheHeadEntryIsSent := by
  intro l s x h
  have line : s.gearLine l = x := gearLine_of_get h
  refine ⟨fun quiet => ?_, fun e rest hq hup ha => ?_, fun e rest k hq ha hk => ?_⟩
  · simp only [exec, execForwardFrameStart, line, GearLine.head?]
    cases hq : x.queue with
    | nil => rfl
    | cons e rest =>
      have idle : (x.isUp && !e.attempting) = false := by
        rcases quiet with hup | hq' | ⟨f, r, hq', ha⟩
        · simp [isUp_eq, hup]
        · rw [hq] at hq'; cases hq'
        · rw [hq, List.cons.injEq] at hq'
          simp [hq'.1, ha]
      simp only [List.head?_cons, idle, Bool.false_eq_true, if_false]
  · intro address value bytes u v w t
    have frame : s.forwardFrame e = bytes ++ [gearCheck bytes] := forwardFrame_eq s e
    have sent : ((s.modHead l fun e => { e with inFlight := true, attempting := true }).modGearLine l fun x =>
        { x with frameOut := bytes ++ [gearCheck bytes], frameRate := x.rateCode }) = u := by
      rw [State.modHead, modGearLine_of_get h, modGearLine_of_get (get_set_same h _)]
      simp only [List.set_set, hq, List.modifyHead_cons]
      rfl
    have counted : u.countFrame l e = t := countFrame_eq u l e
    refine ⟨?_, ?_⟩
    · simp only [exec, execForwardFrameStart, line, GearLine.head?, hq, List.head?_cons, isUp_eq, hup, decide_true, ha, Bool.not_false,
        Bool.and_self, if_true, frame, sent, counted]
    · have lines : t.gearLines = u.gearLines := by rw [← counted, gearLines_countFrame]
      have head : (t.gearLine l) = _ := gearLine_of_get (by rw [lines]; exact get_set_same h _)
      rw [head, GearLine.output]
      simp only [hup, List.head?_cons, Option.any_some, if_true, frameLevels_eq, gearRate_eq]
  · have attempt := inFlight_of_head h hq ha
    have popped : s.popHead l = { s with gearLines := s.gearLines.set l { x with queue := rest } } := by
      rw [State.popHead, modGearLine_of_get h, hq]
      rfl
    simp only [exec, execGroupFrameSent, attempt, hk, Target.isGroup, if_true, popped]
    rfl

end Sys2Proof.Machine
end

section
/-! PROOFS. Chapter 6: how levels and values reach the transmit queues (R119, R120, R126 to R132). -/

namespace Sys2Proof.Machine

open Sys2Proof.Safety

set_option Elab.async false

/-! ### Arrivals (R126, R130) -/

theorem waits_iff {a f : Entry} : Entry.waits a.target a.cmd.cls f = true ↔ WaitsLike a f := by
  simp only [Entry.waits, Entry.sameSlot, Bool.and_eq_true, Bool.not_eq_true', decide_eq_true_eq, WaitsLike, and_assoc]

theorem dropsArrival_iff {s : State} {l : Nat} {x : GearLine} (h : s.gearLines[l]? = some x) (d : Bool) (a : Entry) :
    s.dropsArrival l d a = true ↔ DropsArrival s x d a := by
  unfold State.dropsArrival DropsArrival
  rw [gearLine_of_get h, Bool.or_eq_true]
  refine or_congr (by simp [isUp_eq]) ?_
  cases a.target with
  | group k => simp
  | gear i =>
    simp only [Option.any_eq_true, Bool.or_eq_true, Bool.and_eq_true, decide_eq_true_eq, Bool.not_eq_true', Target.gear.injEq,
      ne_eq, and_assoc]
    constructor
    · rintro ⟨g, hg, hd⟩
      exact ⟨i, g, rfl, hg, hd⟩
    · rintro ⟨j, g, rfl, hg, hd⟩
      exact ⟨g, hg, hd⟩

theorem noteExpected_eq (a : Entry) (s : State) : s.noteExpected a = expecting a s := by
  unfold State.noteExpected expecting
  cases a.target with
  | group k => cases a.cmd <;> rfl
  | gear i => cases a.cmd <;> rfl

theorem modifyFirst_append {α : Type} {p : α → Bool} (f : α → α) {pre : List α} {e : α} (post : List α)
    (hpre : ∀ x ∈ pre, p x = false) (he : p e = true) : modifyFirst p f (pre ++ e :: post) = pre ++ f e :: post := by
  induction pre with
  | nil => simp [modifyFirst, he]
  | cons x pre ih =>
    rw [List.cons_append, modifyFirst, hpre x (List.mem_cons_self ..)]
    simp only [Bool.false_eq_true, if_false, List.cons_append]
    rw [ih fun y hy => hpre y (List.mem_cons_of_mem _ hy)]

theorem coalesce_eq (a e : Entry) : a.coalesce e
    = if a.cmd.cls = .query then e else { e with cmd := a.cmd, value := a.value, group := a.group } := by
  unfold Entry.coalesce
  cases a.cmd.cls <;> rfl

section

variable {s : State} {l : Nat} {x : GearLine} {d : Bool} {a : Entry}

theorem offer_dropped (h : s.gearLines[l]? = some x) (hd : DropsArrival s x d a) : State.offer l d a s = s := by
  rw [State.offer, if_pos ((dropsArrival_iff h d a).mpr hd)]

theorem not_dropsArrival (h : s.gearLines[l]? = some x) (hd : ¬ DropsArrival s x d a) : ¬ s.dropsArrival l d a = true :=
  fun e => hd ((dropsArrival_iff h d a).mp e)

theorem any_waits_iff {q : List Entry} : q.any (Entry.waits a.target a.cmd.cls) = true ↔ ∃ f ∈ q, WaitsLike a f := by
  rw [List.any_eq_true]
  exact exists_congr fun f => and_congr_right fun _ => waits_iff

theorem offer_coalesced (h : s.gearLines[l]? = some x) (hd : ¬ DropsArrival s x d a) {pre post : List Entry} {e : Entry}
    (hq : x.queue = pre ++ e :: post) (hpre : ∀ f ∈ pre, ¬ WaitsLike a f) (he : WaitsLike a e) :
    State.offer l d a s = expecting a { s with gearLines := s.gearLines.set l { x with queue := pre ++
      (if a.cmd.cls = .query then e else { e with cmd := a.cmd, value := a.value, group := a.group }) :: post } } := by
  have some : (s.gearLine l).queue.any (Entry.waits a.target a.cmd.cls) = true := by
    rw [gearLine_of_get h, hq]
    exact any_waits_iff.mpr ⟨e, by simp, he⟩
  have first : modifyFirst (Entry.waits a.target a.cmd.cls) a.coalesce x.queue = pre ++ a.coalesce e :: post := by
    rw [hq]
    exact modifyFirst_append _ _ (fun f hf => Bool.eq_false_iff.mpr fun w => hpre f hf (waits_iff.mp w)) (waits_iff.mpr he)
  rw [State.offer, if_neg (not_dropsArrival h hd), if_pos some, noteExpected_eq, modGearLine_of_get h, first, coalesce_eq]

theorem highCheck_expecting (a : Entry) (l : Nat) (t : State) :
    State.highCheck l (expecting a t) = expecting a (State.highCheck l t) := by
  unfold expecting
  cases a.target with
  | group k => rfl
  | gear i =>
    dsimp only
    split <;> rfl

theorem offer_appended (h : s.gearLines[l]? = some x) (hd : ¬ DropsArrival s x d a) (none : ∀ f ∈ x.queue, ¬ WaitsLike a f)
    (room : x.queue.length < 32) : State.offer l d a s = expecting a { s with gearLines := s.gearLines.set l { x with
      queue := x.queue ++ [a], congested := x.congested || decide (x.highWatermark ≤ x.queue.length + 1) } } := by
  have up : x.state = .up := by
    by_contra down
    exact hd (.inl down)
  have nobody : ¬ (s.gearLine l).queue.any (Entry.waits a.target a.cmd.cls) = true := by
    rw [gearLine_of_get h, any_waits_iff]
    rintro ⟨f, hf, hw⟩
    exact none f hf hw
  have fits : (s.gearLine l).queue.length < Config.txQueueCap := by
    rw [gearLine_of_get h]
    exact room
  rw [State.offer, if_neg (not_dropsArrival h hd), if_neg nobody, if_pos fits, noteExpected_eq, highCheck_expecting,
    modGearLine_of_get h, State.highCheck, modGearLine_of_get (get_set_same h _)]
  simp only [List.set_set, isUp_eq, up, decide_true, Bool.true_and, List.length_append, List.length_singleton]

theorem offer_deferred (h : s.gearLines[l]? = some x) (hd : ¬ DropsArrival s x d a) (none : ∀ f ∈ x.queue, ¬ WaitsLike a f)
    (full : 32 ≤ x.queue.length) : State.offer l d a s = match a.target with
      | .group _ => s
      | .gear i => if a.cmd.cls = .level ∨ a.cmd.cls = .position then (State.markValue i s).countBy (.deferrals l) 1 else s := by
  have nobody : ¬ (s.gearLine l).queue.any (Entry.waits a.target a.cmd.cls) = true := by
    rw [gearLine_of_get h, any_waits_iff]
    rintro ⟨f, hf, hw⟩
    exact none f hf hw
  have over32 : ¬ (s.gearLine l).queue.length < Config.txQueueCap := by
    rw [gearLine_of_get h]
    exact not_lt.mpr full
  rw [State.offer, if_neg (not_dropsArrival h hd), if_neg nobody, if_neg over32, State.deferred]
  cases a.target with
  | group k => rfl
  | gear i => cases a.cmd.cls <;> rfl

end

/-! ### Service of the dirty set (R128) -/

theorem serveGear_eq {s : State} {i : Nat} {g : Gear} (h : s.gearAt i = some g) :
    let group := match g.cfg.role with
      | .driver z => (s.zone z).bind fun x => x.cfg.groups.on g.cfg.line
      | .shade _ => none
    let u := if g.dirty = .setup then
        State.offer g.cfg.line true (arriving (.gear i) .setLossLevel g.cfg.lossLevel group .setup) s else s
    let v := match g.cfg.role with
      | .driver z => State.offer g.cfg.line true (arriving (.gear i) .setValue
          (levelValue (s.curve g.cfg.curve) g.cfg.trim g.cfg.minValue (s.levelOf z)) none .zone) u
      | .shade seg => match (s.segment seg).target with
        | some p => State.offer g.cfg.line true (arriving (.gear i) .shadeGoto p none .shade) u
        | none => u
    State.serveGear i s = { v with gear := v.gear.modify i (Option.map fun g => { g with dirty := .clear }) } := by
  intro group u v
  have setup : s.setupGroup g = group := by
    unfold State.setupGroup
    cases hr : g.cfg.role <;> simp only [group, hr]
  have marked : (if g.dirty = .setup then
      State.offer g.cfg.line true (Entry.arrival (.gear i) .setLossLevel g.cfg.lossLevel (s.setupGroup g) .setup) s else s) = u := by
    rw [setup]
    rfl
  have moved : Moves 0 s u := Moves.ite (fun _ => Moves.offer _ _ _ rfl rfl rfl) fun _ => .refl s
  have value : (match State.valueArrival i g u with
      | some a => State.offer g.cfg.line true a u
      | none => u) = v := by
    have curve (k : Nat) : u.curve k = s.curve k := by rw [State.curve, State.curve, moved.curves_eq (by omega)]
    have level (z : Nat) : u.levelOf z = s.levelOf z := by
      rw [State.levelOf, State.levelOf, State.zone, State.zone, moved.zones_eq (by omega)]
    have segment (k : Nat) : u.segment k = s.segment k := by
      rw [State.segment, State.segment, moved.segments_eq (by omega)]
    unfold State.valueArrival State.ownValue
    cases hr : g.cfg.role with
    | driver z =>
      simp only [v, hr, curve, level]
      rfl
    | shade seg =>
      simp only [v, hr, segment]
      cases ht : (s.segment seg).target <;> rfl
  unfold State.serveGear
  simp only [h, marked]
  exact congrArg (State.modGear i fun g => { g with dirty := .clear }) value

/-- The dirty set in a statement's order (R128). -/
theorem serveDirty_eq {s : State} {l : Nat} {dirty : List Nat}
    (h : GearInOrder s (fun g => g.cfg.line = l ∧ g.dirty ≠ .clear) dirty) : State.serveDirty l s = dirty.foldl (fun u i =>
      if (u.gearLine l).queue.length < (u.gearLine l).highWatermark then State.serveGear i u else u) s := by
  have listed : dirty = s.dirtySet l := eq_of_gearInOrder h fun g => by simp only [Bool.and_eq_true, decide_eq_true_eq]
  rw [listed]
  rfl

/-! ### A line leaves CONGESTED (R130, R132) -/

/-- A trim-pending gear of a line that leaves CONGESTED (R132). -/
def restored (s : State) (g : Gear) : Gear := { g with
  trimPending := false
  dirty := if (s.gearLine g.cfg.line).state = .up ∧ g.state ≠ .silent ∧ g.dirty = .clear ∧ ownDiffers s g then .value else g.dirty }

theorem needsRestoring_eq (s : State) (g : Gear) : s.needsRestoring g = ownDiffers s g := by
  unfold State.needsRestoring ownDiffers
  cases g.cfg.role with
  | shade seg => rfl
  | driver z =>
    dsimp only
    congr 1
    funext x
    simp only [Bool.decide_or, Bool.or_assoc]

theorem restoreGear_eq (i : Nat) (s : State) : s.restoreGear i = s.modGear i (restored s) := by
  unfold State.restoreGear
  cases h : s.gearAt i with
  | none =>
    simp only [Option.any_none, Bool.false_eq_true, if_false, modGear_of_none h]
  | some g =>
    simp only [Option.any_some, needsRestoring_eq, markValue_of_gear h, modGear_of_gear h, restored]
    by_cases differs : ownDiffers s g = true
    · simp only [differs, if_true, and_true]
      split
      · next marks =>
        have shown : State.gearAt { s with gear := s.gear.set i (some { g with dirty := .value }) } i = some { g with dirty := .value } :=
          gearAt_set_same h _
        rw [modGear_of_gear shown]
        simp only [List.set_set]
      · rw [modGear_of_gear h]
    · simp only [differs, if_false, and_false, modGear_of_gear h, Bool.false_eq_true]

theorem restored_congr {s t : State} (hz : t.zones = s.zones) (hc : t.curves = s.curves) (hl : t.gearLines = s.gearLines) :
    restored t = restored s := by
  have zone : t.zone = s.zone := by funext z; rw [State.zone, State.zone, hz]
  have curve : t.curve = s.curve := by funext c; rw [State.curve, State.curve, hc]
  have line : t.gearLine = s.gearLine := by funext l; rw [State.gearLine, State.gearLine, hl]
  funext g
  simp only [restored, ownDiffers, zone, curve, line]
  rfl

theorem forEach_restoreGear (is : List Nat) (s : State) : forEach is State.restoreGear s
    = { s with gear := is.foldl (fun t i => t.modify i (Option.map (restored s))) s.gear } := by
  induction is generalizing s with
  | nil => rfl
  | cons i is ih =>
    have same : restored (s.modGear i (restored s)) = restored s := restored_congr rfl rfl rfl
    rw [forEach_cons, restoreGear_eq, ih, same]
    rfl

theorem tendLine_eq {s : State} {l : Nat} {x : GearLine} (h : s.gearLines[l]? = some x) :
    State.tendLine l s = State.serveDirty l (if x.congested = true ∧ x.queue.length ≤ x.lowWatermark then
        { s with
          gearLines := s.gearLines.set l { x with congested := false }
          gear := s.gear.map (Option.map fun g => if g.cfg.line = l ∧ g.trimPending = true then
              { g with
                trimPending := false
                dirty := if x.state = .up ∧ g.state ≠ .silent ∧ g.dirty = .clear ∧ ownDiffers s g then .value else g.dirty }
            else g) }
        else s) := by
  rw [State.tendLine]
  refine congrArg (State.serveDirty l) ?_
  unfold State.lowCheck
  simp only [gearLine_of_get h, Bool.and_eq_true, decide_eq_true_eq]
  refine ite_congr rfl (fun _ => ?_) fun _ => rfl
  rw [forEach_restoreGear, modGearLine_of_get h]
  have line := gearLine_of_get (s := { s with gearLines := s.gearLines.set l { x with congested := false } }) (get_set_same h _)
  have folded := foldl_modify_where s.gear (fun g => decide (g.cfg.line = l) && g.trimPending)
    (restored { s with gearLines := s.gearLines.set l { x with congested := false } })
  refine congrArg (fun t => { s with gearLines := s.gearLines.set l { x with congested := false }, gear := t }) (folded.trans ?_)
  refine congrArg (fun f => s.gear.map (Option.map f)) (funext fun g => ?_)
  simp only [Bool.and_eq_true, decide_eq_true_eq]
  refine ite_congr rfl (fun here => ?_) fun _ => rfl
  rw [restored, here.1, line]
  rfl

/-! ### A zone's level on one line (R129, R131) -/

/-- One driver is offered its own value (R129). -/
def ownOffered (l z : Nat) (u : State) (i : Nat) : State :=
  match u.gearAt i with
  | some g => State.offer l false (arriving (.gear i) .setValue
      (levelValue (u.curve g.cfg.curve) g.cfg.trim g.cfg.minValue (u.levelOf z)) none .zone) u
  | none => u

theorem handGear_eq (l z i : Nat) (u : State) : u.handGear l z i = ownOffered l z u i := by
  unfold State.handGear ownOffered
  cases u.gearAt i <;> rfl

theorem forEach_handGear (l z : Nat) (is : List Nat) (u : State) :
    forEach is (State.handGear l z) u = is.foldl (ownOffered l z) u := by
  have each : (fun u i => State.handGear l z i u) = ownOffered l z := by
    funext u i
    exact handGear_eq l z i u
  rw [forEach, each]

theorem readyForGroup_eq {s : State} {l : Nat} {y : GearLine} (h : s.gearLines[l]? = some y) (i : Nat) :
    s.groupReady l i = readyForGroup s y i := by
  rw [State.groupReady, readyForGroup, gearLine_of_get h, GearLine.hasSetup]
  have line : (!y.queue.any (Entry.sameSlot (.gear i) .setup))
      = y.queue.all fun e => e.orphan || decide (e.target ≠ .gear i ∨ e.cmd.cls ≠ .setup) := by
    rw [List.not_any_eq_all_not]
    congr 1
    funext e
    simp [Entry.sameSlot, Bool.or_assoc]
  rw [← line]
  cases s.gearAt i with
  | none => rfl
  | some g => simp

/-- One change of each listed entry, as a change of the table by index. -/
theorem foldl_modify_mapIdx {α : Type} {is : List Nat} (h : is.Nodup) (t : List (Option α)) (f : α → α) :
    is.foldl (fun t i => t.modify i (Option.map f)) t = t.mapIdx fun i o => if i ∈ is then o.map f else o := by
  refine List.ext_getElem? fun k => ?_
  rw [getElem?_foldl_modify _ h, List.getElem?_mapIdx]
  split <;> cases t[k]? <;> rfl

/-- A driver that is ready for a group's frame, once its value stands there (R131). -/
def Gear.grouped (value : Nat) (g : Gear) : Gear := { g with dirty := .clear, trimPending := true, expected := some value }

/-- The values that do not wait for a ready driver of the group (R131). -/
def withoutReady (ready : List Nat) (q : List Entry) : List Entry :=
  q.filter fun e => !(!e.inFlight && decide (e.cmd = .setValue) && ready.any fun i => decide (e.target = .gear i))

/-- The line with the group's ready drivers taken out of its waiting values, and they with the group's value (R131). -/
def groupHeld (l value : Nat) (y : GearLine) (ready : List Nat) (s : State) : State := { s with
  gearLines := s.gearLines.set l { y with queue := withoutReady ready y.queue }
  gear := s.gear.mapIdx fun i o => if i ∈ ready then o.map (Gear.grouped value) else o }

theorem groupHeld_eq {s : State} {l : Nat} {y : GearLine} (h : s.gearLines[l]? = some y) {ready : List Nat} (hr : ready.Nodup)
    (value : Nat) : forEach ready (fun i s => s.modGear i (Gear.grouped value)) (s.dropEntries l fun e =>
      !e.inFlight && decide (e.cmd = .setValue) && ready.any fun i => decide (e.target = .gear i))
      = groupHeld l value y ready s := by
  rw [forEach_modGear, foldl_modify_mapIdx hr, State.dropEntries, modGearLine_of_get h]
  rfl

/-- A driver of a group that found the queue full (R131; log 41). -/
def Gear.ungrouped (lines : List GearLine) (g : Gear) : Gear :=
  if (lines.getD g.cfg.line (GearLine.factory false)).state = .up ∧ g.state ≠ .silent ∧ g.dirty = .clear then
    { g with trimPending := false, dirty := .value } else { g with trimPending := false }

theorem forEach_ungrouped (is : List Nat) (s : State) :
    forEach is (fun i s => (s.modGear i fun x => { x with trimPending := false }).markValue i) s
      = { s with gear := is.foldl (fun t i => t.modify i (Option.map (Gear.ungrouped s.gearLines))) s.gear } := by
  have one (i : Nat) (s : State) : (s.modGear i fun x => { x with trimPending := false }).markValue i
      = s.modGear i (Gear.ungrouped s.gearLines) := by
    cases h : s.gearAt i with
    | none => rw [modGear_of_none h, modGear_of_none h, markValue_of_none h]
    | some g =>
      have shown : State.gearAt { s with gear := s.gear.set i (some { g with trimPending := false }) } i
          = some { g with trimPending := false } := gearAt_set_same h _
      rw [modGear_of_gear h, modGear_of_gear h, markValue_of_gear shown]
      by_cases marks : (s.gearLine g.cfg.line).state = .up ∧ g.state ≠ .silent ∧ g.dirty = .clear
      · have marked : Gear.ungrouped s.gearLines g = { g with trimPending := false, dirty := .value } := if_pos marks
        rw [marked]
        refine (if_pos marks).trans ?_
        simp only [List.set_set]
      · have plain : Gear.ungrouped s.gearLines g = { g with trimPending := false } := if_neg marks
        rw [plain]
        exact if_neg marks
  induction is generalizing s with
  | nil => rfl
  | cons i is ih => rw [forEach_cons, one, ih]; rfl

/-- A group that found the queue full: its drivers are dirty, with the group's value expected (R131; log 41). -/
theorem ungrouped_groupHeld {s : State} {l : Nat} {y : GearLine} (h : s.gearLines[l]? = some y) (hup : y.state = .up)
    {ready : List Nat} (hr : ready.Nodup) (value : Nat)
    (answer : ∀ i ∈ ready, ∃ g, s.gearAt i = some g ∧ g.cfg.line = l ∧ g.state ≠ .silent) :
    forEach ready (fun i s => (s.modGear i fun x => { x with trimPending := false }).markValue i) (groupHeld l value y ready s)
      = { groupHeld l value y ready s with gear := s.gear.mapIdx (fun i o => if i ∈ ready then
          o.map fun g => { g with dirty := .value, trimPending := false, expected := some value } else o) } := by
  rw [forEach_ungrouped, foldl_modify_mapIdx hr]
  refine congrArg (fun t => { groupHeld l value y ready s with gear := t }) ?_
  refine List.ext_getElem? fun k => ?_
  rw [List.getElem?_mapIdx, List.getElem?_mapIdx, groupHeld, List.getElem?_mapIdx]
  by_cases hk : k ∈ ready
  · obtain ⟨g, hg, hl, hs⟩ := answer k hk
    have here : s.gear[k]? = some (some g) := by
      rw [State.gearAt, entryAt, Option.join_eq_some_iff] at hg
      exact hg
    have line : ((groupHeld l value y ready s).gearLines.getD l (GearLine.factory false)).state = .up := by
      have there : (groupHeld l value y ready s).gearLines[l]? = some _ := get_set_same h _
      rw [getD_of_get there]
      exact hup
    have marked : Gear.ungrouped (groupHeld l value y ready s).gearLines (g.grouped value)
        = { g with dirty := .value, trimPending := false, expected := some value } :=
      if_pos ⟨by rw [← line, ← hl]; rfl, hs, rfl⟩
    simp only [here, Option.map_some, hk, if_true]
    exact congrArg (fun g => some (some g)) marked
  · simp only [hk, if_false, Option.map_map]
    cases s.gear[k]? <;> rfl

section

variable {s : State} {z l : Nat} {x : Zone} {y : GearLine} {drivers : List Nat}

/-- The drivers that serve in a group's frame, in ascending index. -/
theorem mem_ready {i : Nat} (hd : GearInOrder s (fun g => g.cfg.role = .driver z ∧ g.cfg.line = l) drivers)
    (hi : i ∈ drivers.filter (readyForGroup s y)) : ∃ g, s.gearAt i = some g ∧ g.cfg.line = l ∧ g.state ≠ .silent := by
  obtain ⟨hi, ready⟩ := List.mem_filter.mp hi
  obtain ⟨g, hg, -, hl⟩ := (hd.2 i).mp hi
  rw [readyForGroup, hg] at ready
  simp only [Option.any_some, Bool.and_eq_true, decide_eq_true_eq] at ready
  exact ⟨g, hg, hl, ready.1.1⟩

/-- The hand-over on a line, with the drivers and the ready ones named (R129). -/
theorem handOnLine_eq (h : s.gearLines[l]? = some y)
    (hd : GearInOrder s (fun g => g.cfg.role = .driver z ∧ g.cfg.line = l) drivers) :
    let grouped := if y.congested then x.cfg.groups.on l else none
    let ready := if grouped.isSome then drivers.filter (readyForGroup s y) else []
    State.handOnLine z x l s = State.tendLine l ((drivers.filter fun i => !ready.contains i).foldl (ownOffered l z) (match grouped with
      | some g => if ready.isEmpty then s else State.handGroup l g (s.groupValue x) ready s
      | none => s)) := by
  intro grouped ready
  have listed : drivers = s.gearWhere fun g => g.drives z && decide (g.cfg.line = l) :=
    eq_of_gearInOrder hd fun g => by rw [Bool.and_eq_true, drives_iff, decide_eq_true_eq]
  have named : (fun i => s.groupReady l i) = readyForGroup s y := funext (readyForGroup_eq h)
  unfold State.handOnLine
  simp only [← listed, named, gearLine_of_get h, forEach_handGear]
  rfl

theorem handOnLine_own (h : s.gearLines[l]? = some y)
    (hd : GearInOrder s (fun g => g.cfg.role = .driver z ∧ g.cfg.line = l) drivers)
    (alone : y.congested = false ∨ x.cfg.groups.on l = none ∨ drivers.filter (readyForGroup s y) = []) :
    State.handOnLine z x l s = State.tendLine l (drivers.foldl (ownOffered l z) s) := by
  have all : (drivers.filter fun i => !([] : List Nat).contains i) = drivers := by simp
  rw [handOnLine_eq h hd]
  cases hg : (if y.congested then x.cfg.groups.on l else none) with
  | none => simp only [Option.isSome_none, Bool.false_eq_true, if_false, all]
  | some g =>
    have none : drivers.filter (readyForGroup s y) = [] := by
      rcases alone with hc | hn | hr
      · simp [hc] at hg
      · simp [hn] at hg
      · exact hr
    simp only [Option.isSome_some, if_true, none, List.isEmpty_nil, all]

/-- The drivers that are not ready are offered their own values (R131). -/
theorem filter_notReady (p : Nat → Bool) (l : List Nat) : (l.filter fun i => !(l.filter p).contains i) = l.filter fun i => !p i := by
  refine List.filter_congr fun i hi => ?_
  simp [hi]

theorem handOnLine_grouped (h : s.gearLines[l]? = some y)
    (hd : GearInOrder s (fun g => g.cfg.role = .driver z ∧ g.cfg.line = l) drivers) (hc : y.congested = true) {k : Nat}
    (hk : x.cfg.groups.on l = some k) (some : drivers.filter (readyForGroup s y) ≠ []) : State.handOnLine z x l s
      = State.tendLine l ((drivers.filter fun i => !readyForGroup s y i).foldl (ownOffered l z)
        (State.handGroup l k (s.groupValue x) (drivers.filter (readyForGroup s y)) s)) := by
  have there : (drivers.filter (readyForGroup s y)).isEmpty = false := List.isEmpty_eq_false_iff.mpr some
  rw [handOnLine_eq h hd]
  simp only [hc, if_true, hk, Option.isSome_some, there, Bool.false_eq_true, if_false, filter_notReady]

/-- The group's frame has no place in a full queue in which none waits (R131). -/
theorem group_placed_iff (q : List Entry) (k value : Nat) :
    (q.any (Entry.waits (.group k) .level) || decide (q.length < Config.txQueueCap)) = true
      ↔ q.length < 32 ∨ ∃ f ∈ q, WaitsLike (arriving (.group k) .setValue value none .zone) f := by
  rw [Bool.or_eq_true, decide_eq_true_eq, or_comm]
  exact or_congr Iff.rfl (any_waits_iff (a := arriving (.group k) .setValue value none .zone))

/-- The group step of a congested line (R131). -/
theorem handGroup_eq (h : s.gearLines[l]? = some y) {ready : List Nat} (hr : ready.Nodup) (k value : Nat) :
    let q := withoutReady ready y.queue
    State.handGroup l k value ready s = if q.any (Entry.waits (.group k) .level) || decide (q.length < Config.txQueueCap) then
        State.offer l false (arriving (.group k) .setValue value none .zone) (groupHeld l value y ready s)
      else (forEach ready (fun i s => (s.modGear i fun x => { x with trimPending := false }).markValue i)
        (groupHeld l value y ready s)).countBy (.deferrals l) 1 := by
  intro q
  have held := groupHeld_eq h hr value
  have there : (groupHeld l value y ready s).gearLines[l]? = some { y with queue := q } := get_set_same h _
  have line : ((groupHeld l value y ready s).gearLine l).queue = q := by rw [gearLine_of_get there]
  rw [← line, ← held]
  rfl

end

/-- Settles O42. -/
theorem levelsReachTheTransmitQueues : Obligations.LevelsReachTheTransmitQueues := by
  refine ⟨fun s l d a x h => ⟨offer_dropped h, fun hd => ⟨fun pre e post hq hpre he => offer_coalesced h hd hq hpre he,
      offer_appended h hd, offer_deferred h hd⟩⟩,
    fun s i g h => ⟨markValue_of_gear h, serveGear_eq h⟩, fun s l dirty h => serveDirty_eq h, fun s l x h => tendLine_eq h,
    fun s z x h => ?zone, fun s z l x y drivers h hd => ?line⟩
  case zone =>
    unfold State.handLevel
    rw [h]
    rfl
  case line =>
    intro own ready value q u
    have sorted : ready.Nodup := (hd.1.imp Nat.ne_of_lt).filter _
    have offered : own = ownOffered l z := rfl
    have placed := group_placed_iff (withoutReady ready y.queue)
    refine ⟨fun alone => handOnLine_own h hd alone, fun k hup hc hk some => ⟨fun room => ?_, fun full nobody => ?_⟩⟩
    · rw [handOnLine_grouped h hd hc hk some, handGroup_eq h sorted, if_pos ((placed k value).mpr room), offered]
      rfl
    · have neither : ¬ (q.length < 32 ∨ ∃ f ∈ q, WaitsLike (arriving (.group k) .setValue value none .zone) f) := by
        rintro (room | ⟨f, hf, hw⟩)
        · omega
        · exact nobody f hf hw
      rw [handOnLine_grouped h hd hc hk some, handGroup_eq h sorted, if_neg ((placed k value).not.mpr neither),
        ungrouped_groupHeld h hup sorted _ fun i hi => mem_ready hd hi, offered]
      rfl

end Sys2Proof.Machine
end

section
/-! PROOFS. Chapter 6: a line out of service takes nothing (R112, R116, R126), and the lines' states (R106, R113 to R116). -/

namespace Sys2Proof.Machine

open Sys2Proof.Safety

set_option Elab.async false

/-! ### What the offers to the queues keep (R126, R128 to R131) -/

theorem gearLines_markValue (s : State) (i : Nat) : (s.markValue i).gearLines = s.gearLines := by
  cases h : s.gearAt i with
  | none => rw [markValue_of_none h]
  | some g =>
    rw [markValue_of_gear h]
    split <;> rfl

theorem gearLines_noteExpected (s : State) (a : Entry) : (s.noteExpected a).gearLines = s.gearLines := by
  unfold State.noteExpected
  split <;> rfl

theorem gearLines_deferred (s : State) (l : Nat) (a : Entry) : (s.deferred l a).gearLines = s.gearLines := by
  unfold State.deferred
  split
  · rw [State.count_gearLines, gearLines_markValue]
  · rw [State.count_gearLines, gearLines_markValue]
  · rfl

/-- A relation between states that an offer to a queue keeps, and so does all that the levels and the shade groups make of offers:
entries that wait may leave, and a line may leave CONGESTED. -/
structure OfferRule (R : State → State → Prop) : Prop where
  refl : ∀ s, R s s
  trans : ∀ {s t u}, R s t → R t u → R s u
  of_gearLines : ∀ {s t : State}, t.gearLines = s.gearLines → R s t
  offer : ∀ (s : State) (l : Nat) (fromDirty : Bool) (a : Entry), R s (s.offer l fromDirty a)
  dropEntries : ∀ (s : State) (l : Nat) (p : Entry → Bool), (∀ e, p e = true → e.inFlight = false) → R s (s.dropEntries l p)
  uncongest : ∀ (s : State) (l : Nat), R s (s.modGearLine l fun x => { x with congested := false })

namespace OfferRule

variable {R : State → State → Prop} {s t u : State}

theorem after (r : OfferRule R) (k : R t u) (h : R s t) : R s u := r.trans h k

theorem ite (_ : OfferRule R) {c : Prop} [Decidable c] (ht : c → R s t) (hf : ¬ c → R s u) : R s (if c then t else u) := by
  split
  · next h => exact ht h
  · next h => exact hf h

theorem forEach (r : OfferRule R) (is : List Nat) (f : Nat → State → State) (h : ∀ i s, R s (f i s)) (s : State) :
    R s (Machine.forEach is f s) := by
  induction is generalizing s with
  | nil => exact r.refl s
  | cons i is ih => exact r.trans (h i s) (ih (f i s))

theorem modGear (r : OfferRule R) (s : State) (i : Nat) (f : Gear → Gear) : R s (s.modGear i f) := r.of_gearLines rfl

theorem countBy (r : OfferRule R) (s : State) (k : Counter) (n : Nat) : R s (s.countBy k n) :=
  r.of_gearLines (State.countBy_gearLines ..)

theorem markValue (r : OfferRule R) (s : State) (i : Nat) : R s (s.markValue i) := r.of_gearLines (gearLines_markValue ..)

theorem offerSome (r : OfferRule R) (s : State) (k : Nat) (d : Bool) (o : Option Entry) : R s (match o with
    | some a => s.offer k d a
    | none => s) := by
  split
  · exact r.offer ..
  · exact r.refl s

theorem serveGear (r : OfferRule R) (s : State) (i : Nat) : R s (s.serveGear i) := by
  unfold State.serveGear
  split
  · exact r.refl s
  · exact r.after (r.modGear ..) (r.after (r.offerSome ..) (r.ite (fun _ => r.offer ..) fun _ => r.refl s))

theorem serveDirty (r : OfferRule R) (s : State) (k : Nat) : R s (s.serveDirty k) :=
  r.forEach _ _ (fun _ _ => r.ite (fun _ => r.serveGear ..) fun _ => r.refl _) s

theorem restoreGear (r : OfferRule R) (s : State) (i : Nat) : R s (s.restoreGear i) := by
  unfold State.restoreGear
  exact r.after (r.modGear ..) (r.ite (fun _ => r.markValue ..) fun _ => r.refl s)

theorem lowCheck (r : OfferRule R) (s : State) (k : Nat) : R s (s.lowCheck k) := by
  unfold State.lowCheck
  exact r.ite (fun _ => r.after (r.forEach _ _ (fun _ _ => r.restoreGear ..) _) (r.uncongest ..)) fun _ => r.refl s

theorem tendLine (r : OfferRule R) (s : State) (k : Nat) : R s (s.tendLine k) := r.trans (r.lowCheck ..) (r.serveDirty ..)

theorem handGroup (r : OfferRule R) (s : State) (k g v : Nat) (ready : List Nat) : R s (s.handGroup k g v ready) := by
  unfold State.handGroup
  dsimp only
  refine r.after (t := Machine.forEach ready (fun i s => s.modGear i fun x =>
    { x with dirty := .clear, trimPending := true, expected := some v }) (s.dropEntries k fun e =>
      !e.inFlight && decide (e.cmd = .setValue) && ready.any fun i => decide (e.target = .gear i))) ?_
    (r.after (r.forEach _ _ (fun _ _ => r.modGear ..) _) (r.dropEntries _ _ _ fun e he => ?_))
  · exact r.ite (fun _ => r.offer ..) fun _ => r.after (r.countBy ..)
      (r.forEach _ _ (fun _ _ => r.after (r.markValue ..) (r.modGear ..)) _)
  · simp only [Bool.and_eq_true, Bool.not_eq_true'] at he
    obtain ⟨⟨waits, _⟩, _⟩ := he
    exact waits

theorem handGear (r : OfferRule R) (s : State) (k z i : Nat) : R s (s.handGear k z i) := by
  unfold State.handGear
  split
  · exact r.refl s
  · exact r.offer ..

theorem handOnLine (r : OfferRule R) (s : State) (z : Nat) (x : Zone) (k : Nat) : R s (s.handOnLine z x k) := by
  unfold State.handOnLine
  dsimp only
  refine r.after (r.tendLine ..) (r.after (r.forEach _ _ (fun _ _ => r.handGear ..) _) ?_)
  split
  · exact r.ite (fun _ => r.refl s) fun _ => r.handGroup ..
  · exact r.refl s

theorem handLevel (r : OfferRule R) (s : State) (z : Nat) : R s (s.handLevel z) := by
  unfold State.handLevel
  split
  · exact r.refl s
  · exact r.forEach _ _ (fun _ _ => r.handOnLine ..) s

theorem handIfChanged (r : OfferRule R) (s : State) (z old : Nat) : R s (s.handIfChanged z old) :=
  r.ite (fun _ => r.refl s) fun _ => r.handLevel ..

theorem resolveHeld (r : OfferRule R) (s : State) (z : Nat) : R s (s.resolveHeld z) := by
  cases h : s.zone z with
  | none =>
    have same : s.resolveHeld z = s := by simp only [State.resolveHeld, h]
    rw [same]
    exact r.refl s
  | some x => exact r.of_gearLines (by rw [(zoneBecomes_resolveHeld h).rest])

theorem resolve (r : OfferRule R) (s : State) (z : Nat) : R s (s.resolve z) := r.trans (r.resolveHeld ..) (r.handIfChanged ..)

theorem setShadeHold (r : OfferRule R) (s : State) (z : Nat) (h : Bool) : R s (s.setShadeHold z h) := by
  unfold State.setShadeHold
  split
  · exact r.refl s
  · exact r.ite (fun _ => r.refl s) fun _ => r.after (r.resolve ..) (r.of_gearLines rfl)

theorem setCalHold (r : OfferRule R) (s : State) (z : Nat) (h : Bool) : R s (s.setCalHold z h) := by
  unfold State.setCalHold
  split
  · exact r.refl s
  · exact r.ite (fun _ => r.refl s) fun _ => r.after (r.resolve ..) (r.of_gearLines rfl)

theorem setShadeHolds (r : OfferRule R) (s : State) (seg : Nat) (h : Bool) : R s (s.setShadeHolds seg h) :=
  r.forEach _ _ (fun _ _ => r.setShadeHold ..) s

theorem recomputeGlare (r : OfferRule R) (s : State) (seg : Nat) : R s (s.recomputeGlare seg) := by
  unfold State.recomputeGlare
  dsimp only
  split
  · exact r.ite (fun _ => r.of_gearLines rfl) fun _ => r.of_gearLines rfl
  · exact r.of_gearLines rfl

theorem releaseZones (r : OfferRule R) (s : State) : R s s.releaseZones := by
  unfold State.releaseZones
  dsimp only
  exact r.after (r.forEach _ _ (fun _ _ => r.recomputeGlare ..) _) (r.after (r.forEach _ _ (fun _ _ => r.setCalHold ..) _)
    (r.forEach _ _ (fun _ _ => r.resolve ..) s))

theorem settledCheck (r : OfferRule R) (s : State) : R s s.settledCheck := by
  unfold State.settledCheck
  split
  · exact r.ite (fun _ => r.of_gearLines rfl) fun _ => r.refl s
  · exact r.ite (fun _ => r.of_gearLines rfl) fun _ => r.refl s
  · exact r.ite (fun _ => r.of_gearLines rfl) fun _ => r.refl s
  · exact r.refl s

end OfferRule

/-! ### A line out of service takes nothing (R116, R126) -/

/-- A line that is not UP, with nothing in its queue and not CONGESTED, is afterwards as it was before. -/
structure LineStays (l : Nat) (s t : State) : Prop where
  kept : (s.gearLine l).state ≠ .up → (s.gearLine l).queue = [] → (s.gearLine l).congested = false → t.gearLine l = s.gearLine l

namespace LineStays

variable {l : Nat} {s t u : State}

theorem refl (s : State) : LineStays l s s := ⟨fun _ _ _ => rfl⟩

theorem trans (h : LineStays l s t) (k : LineStays l t u) : LineStays l s u := ⟨fun hup hq hc => by
  have same := h.kept hup hq hc
  rw [← same] at hup hq hc
  exact (k.kept hup hq hc).trans same⟩

theorem of_gearLines (h : t.gearLines = s.gearLines) : LineStays l s t :=
  ⟨fun _ _ _ => by rw [State.gearLine, State.gearLine, h]⟩

theorem modGearLine (s : State) (k : Nat) (f : GearLine → GearLine)
    (h : k = l → ∀ x : GearLine, x.state ≠ .up → x.queue = [] → x.congested = false → f x = x) : LineStays l s (s.modGearLine k f) :=
  ⟨fun hup hq hc => by
    rw [State.gearLine_modGearLine]
    split
    · next here => exact h here.1 _ hup hq hc
    · rfl⟩

theorem offer (s : State) (k : Nat) (d : Bool) (a : Entry) : LineStays l s (s.offer k d a) := by
  by_cases hk : k = l
  · refine ⟨fun hup _ _ => ?_⟩
    have drops : s.dropsArrival k d a = true := by simp [State.dropsArrival, hk, isUp_eq, hup]
    rw [State.offer, if_pos drops]
  · have other (s : State) (f : GearLine → GearLine) : LineStays l s (s.modGearLine k f) := modGearLine _ _ _ fun e => absurd e hk
    unfold State.offer
    dsimp only
    split
    · exact refl s
    · split
      · exact (other ..).trans (of_gearLines (gearLines_noteExpected ..))
      · split
        · exact ((other ..).trans (of_gearLines (gearLines_noteExpected ..))).trans (other ..)
        · exact of_gearLines (gearLines_deferred ..)

theorem rule (l : Nat) : OfferRule (LineStays l) where
  refl := refl
  trans := trans
  of_gearLines := of_gearLines
  offer := offer
  dropEntries s k _ _ := modGearLine s k _ fun _ x _ hq _ => by rw [hq, List.filter_nil, ← hq]
  uncongest s k := modGearLine s k _ fun _ x _ _ hc => by rw [← hc]

end LineStays

/-! ### The end of a sweep by a line (R106, R107) -/

/-- The records that an abort writes itself: the result of the zone in progress, and the sweep (R107). -/
def sweepAborted (c : AbortCause) (s : State) : State := { s with
  sweep := Sweep.ended .aborted c s.sweep
  calResults := match s.sweep.current with
    | some z => s.calResults.set z CalResult.aborted
    | none => s.calResults }

theorem abortSweep_eq (c : AbortCause) (s : State) : s.abortSweep c = (sweepAborted c s).releaseZones.latch .calFinished := by
  unfold State.abortSweep sweepAborted
  cases s.sweep.current <;> rfl

theorem settledCheck_rest (s : State) : s.settledCheck = { s with sweep := s.settledCheck.sweep } := by
  unfold State.settledCheck
  split
  · split <;> rfl
  · split <;> rfl
  · split <;> rfl
  · rfl

theorem settledCheck_of_idle {s : State} (h : s.sweep.state = .idle) : s.settledCheck = s := by
  unfold State.settledCheck
  rw [h]

/-- A sweep ends as ABORTED with its cause, and CAL_FINISHED is latched (R106, R107). -/
theorem abortSweep_ends (c : AbortCause) (s : State) :
    (s.abortSweep c).sweep.state = .idle ∧ (s.abortSweep c).sweep.lastOutcome = .aborted
      ∧ (s.abortSweep c).sweep.abortCause = c ∧ hasFlag (s.abortSweep c).flags.latched .calFinished = true := by
  have kept : (s.abortSweep c).sweep = Sweep.ended .aborted c s.sweep := by
    rw [abortSweep_eq]
    exact (Moves.releaseZones (n := 2) (by omega) (sweepAborted c s)).sweep_eq (by omega)
  rw [kept]
  refine ⟨rfl, rfl, rfl, ?_⟩
  rw [abortSweep_eq, hasFlag_latch]
  simp

theorem lineStays_abortSweep (l : Nat) (s : State) (c : AbortCause) : LineStays l s (s.abortSweep c) := by
  have written : LineStays l s (sweepAborted c s) := .of_gearLines rfl
  rw [abortSweep_eq]
  exact (written.trans ((LineStays.rule l).releaseZones _)).trans (.of_gearLines rfl)

/-! ### A line goes out of service (R106, R113, R114, R116) -/

theorem map_entryAt {α β : Type} (f : α → β) (l : List (Option α)) (i : Nat) :
    (entryAt l i).map f = entryAt (l.map (Option.map f)) i := by
  rw [entryAt, entryAt, List.getElem?_map]
  cases l[i]? <;> simp

theorem drivenOn_of_cfg {s t : State} (h : t.gear.map (Option.map Gear.cfg) = s.gear.map (Option.map Gear.cfg)) (l : Nat) :
    DrivenOn t l = DrivenOn s l := by
  have there (u : State) (i : Nat) (z : Nat) : (∃ g, u.gearAt i = some g ∧ g.cfg.role = .driver z ∧ g.cfg.line = l)
      ↔ ∃ d, (u.gearAt i).map Gear.cfg = some d ∧ d.role = .driver z ∧ d.line = l := by
    cases u.gearAt i <;> simp
  have same (i : Nat) : (t.gearAt i).map Gear.cfg = (s.gearAt i).map Gear.cfg := by
    rw [State.gearAt, State.gearAt, map_entryAt, map_entryAt, h]
  funext z
  refine propext (exists_congr fun i => ?_)
  rw [there, there, same]

theorem modLineGear_eq (l : Nat) (f : Gear → Gear) (s : State) : s.modLineGear l f = { s with gear := gearOn l f s.gear } := rfl

theorem cfg_gearOn (l : Nat) (f : Gear → Gear) (hf : ∀ g, (f g).cfg = g.cfg) (gear : List (Option Gear)) :
    (gearOn l f gear).map (Option.map Gear.cfg) = gear.map (Option.map Gear.cfg) :=
  Moves.map_optMap (p := Gear.cfg) (fun g => by split <;> simp [hf]) gear

/-- What a line's leaving clears, before OUTPUT_LOST (R116). -/
def lineCleared (l : Nat) (dest : LineState) (y : GearLine) (s : State) : State := { s with
  gearLines := s.gearLines.set l (outOfService dest y)
  gear := gearOn l (fun g => { g with dirty := .clear, trimPending := false }) s.gear }

theorem lineLeaves_eq {s : State} {l : Nat} {y : GearLine} (h : s.gearLines[l]? = some y) (dest : LineState) :
    s.lineLeaves l dest = State.refreshLineOutput l (lineCleared l dest y s) := by
  unfold State.lineLeaves
  rw [modGearLine_of_get h]
  rfl

/-- The counts of the SHADE gear of a line that leaves UP (R142). -/
def stallsCleared (l : Nat) (s : State) : State :=
  { s with gear := gearOn l (fun g => { g with unchanged := if g.isShade then 0 else g.unchanged }) s.gear }

theorem shadeLineLeft_eq (l : Nat) (s : State) : s.shadeLineLeft l = stallsCleared l s := by
  have same : (fun g : Gear => if g.isShade then { g with unchanged := 0 } else g)
      = fun g => { g with unchanged := if g.isShade then 0 else g.unchanged } := by
    funext g
    cases g.isShade <;> rfl
  rw [State.shadeLineLeft, modLineGear_eq, same]
  rfl

theorem servesSweep_of_cfg {s t : State} (h : t.gear.map (Option.map Gear.cfg) = s.gear.map (Option.map Gear.cfg))
    (hw : t.sweep = s.sweep) (l : Nat) : t.lineServes t.sweep.zones l = true ↔ ServesSweep s l := by
  have driven : (∃ z, DrivenOn t l z ∧ z ∈ t.sweep.zones) ↔ ∃ z, DrivenOn s l z ∧ z ∈ s.sweep.zones := by
    rw [drivenOn_of_cfg h, hw]
  rw [lineServes_iff]
  refine Iff.trans ?_ (driven.trans ?_)
  · constructor
    · rintro ⟨i, g, z, hg, hl, hr, hz⟩
      exact ⟨z, ⟨i, g, hg, hr, hl⟩, hz⟩
    · rintro ⟨z, ⟨i, g, hg, hr, hl⟩, hz⟩
      exact ⟨i, g, z, hg, hl, hr, hz⟩
  · constructor
    · rintro ⟨z, ⟨i, g, hg, hr, hl⟩, hz⟩
      exact ⟨i, g, z, hg, hl, hr, hz⟩
    · rintro ⟨i, g, z, hg, hl, hr, hz⟩
      exact ⟨z, ⟨i, g, hg, hr, hl⟩, hz⟩

/-- OUTPUT_LOST and LINE_DOWN at a line's leaving (R113, R116). -/
def lineShown (l : Nat) (dest : LineState) (y : GearLine) (s : State) : State :=
  (State.refreshLineOutput l (lineCleared l dest y s)).latchIf (decide (dest = .down)) .lineDown

/-- The counts of a line that leaves UP (R142). -/
def lineStilled (l : Nat) (dest : LineState) (y : GearLine) (s : State) : State :=
  if y.state = .up then stallsCleared l (lineShown l dest y s) else lineShown l dest y s

section

variable {s : State} {l : Nat} {x y : GearLine} {dest : LineState}

theorem lineCleared_set (y : GearLine) : lineCleared l dest y { s with gearLines := s.gearLines.set l y } = lineCleared l dest y s := by
  simp only [lineCleared, List.set_set]

theorem lineOut_eq (h : s.gearLines[l]? = some x) (y : GearLine) : State.lineOut l dest { s with gearLines := s.gearLines.set l y }
    = if y.state = .up then (lineStilled l dest y s).sweepLineLeft l else lineStilled l dest y s := by
  have there : ({ s with gearLines := s.gearLines.set l y } : State).gearLines[l]? = some y := get_set_same h y
  unfold State.lineOut
  simp only [lineLeaves_eq there, lineCleared_set, gearLine_of_get there, isUp_eq, decide_eq_true_eq, shadeLineLeft_eq, lineStilled,
    lineShown]
  by_cases hup : y.state = .up <;> simp only [hup, if_true, if_false]

theorem cfg_lineCleared : (lineCleared l dest y s).gear.map (Option.map Gear.cfg) = s.gear.map (Option.map Gear.cfg) :=
  cfg_gearOn l (fun g => { g with dirty := .clear, trimPending := false }) (fun _ => rfl) s.gear

/-- OUTPUT_LOST at a line's leaving (R116). -/
theorem outputs_lineCleared : State.refreshLineOutput l (lineCleared l dest y s) = { lineCleared l dest y s with
      zones := (State.refreshLineOutput l (lineCleared l dest y s)).zones
      flags := (State.refreshLineOutput l (lineCleared l dest y s)).flags }
    ∧ OutputsRecomputed (DrivenOn s l) (lineCleared l dest y s) (State.refreshLineOutput l (lineCleared l dest y s)) := by
  have outputs := outputs_line l (lineCleared l dest y s)
  rw [drivenOn_of_cfg cfg_lineCleared] at outputs
  exact outputs

/-- What a line's leaving has moved before the sweep's part. -/
theorem lineStilled_rest : lineStilled l dest y s = { lineCleared l dest y s with
    zones := (lineStilled l dest y s).zones, flags := (lineStilled l dest y s).flags, gear := (lineStilled l dest y s).gear } := by
  have shown : lineShown l dest y s = { lineCleared l dest y s with
      zones := (lineShown l dest y s).zones, flags := (lineShown l dest y s).flags } := by
    rw [lineShown, State.latchIf_eq, outputs_lineCleared.1]
  rw [lineStilled]
  split
  · rw [stallsCleared, shown]
  · rw [shown]

theorem cfg_lineStilled : (lineStilled l dest y s).gear.map (Option.map Gear.cfg) = s.gear.map (Option.map Gear.cfg) := by
  have shown : (lineShown l dest y s).gear = (lineCleared l dest y s).gear := by
    rw [lineShown, State.latchIf_gear, outputs_lineCleared.1]
  rw [lineStilled]
  split
  · refine (cfg_gearOn l (fun g => { g with unchanged := if g.isShade then 0 else g.unchanged }) (fun _ => rfl) _).trans ?_
    rw [shown, cfg_lineCleared]
  · rw [shown, cfg_lineCleared]

/-- A line goes out of service, with the sweep's part (R106, R113 to R116). -/
def lineGone (l : Nat) (dest : LineState) (y : GearLine) (s : State) : State :=
  (State.lineOut l dest { s with gearLines := s.gearLines.set l y }).settledCheck

theorem sweep_lineStilled : (lineStilled l dest y s).sweep = s.sweep := by
  rw [lineStilled_rest]
  rfl

theorem sweepLineLeft_iff : ((lineStilled l dest y s).sweeping
      && (lineStilled l dest y s).lineServes (lineStilled l dest y s).sweep.zones l) = true
    ↔ s.sweeping = true ∧ ServesSweep s l := by
  rw [Bool.and_eq_true, servesSweep_of_cfg cfg_lineStilled sweep_lineStilled, State.sweeping, sweep_lineStilled]
  rfl

/-- A line that leaves UP and serves the sweep aborts it (R106). -/
theorem lineGone_served (h : s.gearLines[l]? = some x) (hup : y.state = .up) (hs : s.sweeping = true) (hserves : ServesSweep s l) :
    lineGone l dest y s = State.settledCheck (State.abortSweep (.line l) (lineStilled l dest y s)) := by
  rw [lineGone, lineOut_eq h, if_pos hup, State.sweepLineLeft, if_pos (sweepLineLeft_iff.mpr ⟨hs, hserves⟩)]

theorem lineGone_quiet (h : s.gearLines[l]? = some x) (quiet : y.state ≠ .up ∨ s.sweeping = false ∨ ¬ ServesSweep s l) :
    lineGone l dest y s = State.settledCheck (lineStilled l dest y s) := by
  rw [lineGone, lineOut_eq h]
  by_cases hup : y.state = .up
  · rw [if_pos hup, State.sweepLineLeft, if_neg]
    rw [sweepLineLeft_iff]
    rintro ⟨hs, hserves⟩
    rcases quiet with down | idle | spared
    · exact down hup
    · rw [hs] at idle; cases idle
    · exact spared hserves
  · rw [if_neg hup]

theorem lineGone_cases (h : s.gearLines[l]? = some x) :
    lineGone l dest y s = State.settledCheck (State.abortSweep (.line l) (lineStilled l dest y s))
      ∨ lineGone l dest y s = State.settledCheck (lineStilled l dest y s) := by
  by_cases serves : y.state = .up ∧ s.sweeping = true ∧ ServesSweep s l
  · exact .inl (lineGone_served h serves.1 serves.2.1 serves.2.2)
  · refine .inr (lineGone_quiet h ?_)
    by_contra held
    simp only [not_or, not_not, Bool.not_eq_false] at held
    exact serves held

theorem lineGoesOut_lineGone (h : s.gearLines[l]? = some x) : LineGoesOut l dest y s (lineGone l dest y s) := by
  refine ⟨_, outputs_lineCleared.1, outputs_lineCleared.2, ?_⟩
  have down : (if dest = .down then State.latch .lineDown (State.refreshLineOutput l (lineCleared l dest y s))
      else State.refreshLineOutput l (lineCleared l dest y s)) = lineShown l dest y s := by
    rw [lineShown]
    by_cases hd : dest = .down
    · rw [if_pos hd, decide_eq_true hd]; rfl
    · rw [if_neg hd, decide_eq_false hd]; rfl
  intro v stalls w
  have stilled : w = lineStilled l dest y s := by rw [lineStilled, ← down]; rfl
  rw [stilled]
  exact ⟨lineGone_served h, lineGone_quiet h⟩

end

/-! ### What a change of a line's state may leave different (R106, R113 to R116, R118) -/

theorem lineMoved_trans {l : Nat} {s t u : State} (h : LineMoved l s t) (k : LineMoved l t u) : LineMoved l s u where
  rest := by rw [k.rest, h.rest]
  others := fun i hi => (k.others i hi).trans (h.others i hi)
  zones := k.zones.trans h.zones
  segments := k.segments.trans h.segments
  gear := k.gear.trans h.gear

theorem gearLine_of_lineCore {s t : State} (h : t.gearLines.map lineCore = s.gearLines.map lineCore) (k : Nat) :
    lineCore (t.gearLine k) = lineCore (s.gearLine k) := by
  have there := congrArg (fun l : List GearLine => l.getD k (lineCore (GearLine.factory false))) h
  rw [List.getD_map, List.getD_map] at there
  exact there

theorem lineMoved_of_moves {s t : State} (l : Nat) (h : Moves 2 s t) : LineMoved l s t where
  rest := by
    have rest := h.rest2
    generalize t = u at rest
    rw [rest]
  others := fun k _ => gearLine_of_lineCore (h.lineCore_eq (by omega)) k
  zones := h.zoneCfg_eq (by omega)
  segments := h.segmentCfg_eq (by omega)
  gear := h.gearCfg_eq (by omega)

theorem lineMoved_of_sweep (l : Nat) (s : State) (w : Sweep) (c : List CalResult) (f : FlagPort) :
    LineMoved l s { s with sweep := w, calResults := c, flags := f } :=
  ⟨rfl, fun _ _ => rfl, rfl, rfl, rfl⟩

theorem lineMoved_settledCheck (l : Nat) (s : State) : LineMoved l s s.settledCheck := by
  rw [settledCheck_rest]
  exact lineMoved_of_sweep ..

theorem lineMoved_abortSweep (l : Nat) (c : AbortCause) (s : State) : LineMoved l s (s.abortSweep c) := by
  rw [abortSweep_eq]
  have written : LineMoved l s (sweepAborted c s) := lineMoved_of_sweep ..
  have latched (u : State) : LineMoved l u (u.latch .calFinished) := lineMoved_of_sweep ..
  exact lineMoved_trans (lineMoved_trans written (lineMoved_of_moves l (Moves.releaseZones (by omega) _))) (latched _)

/-- A change of the line's record and of its gear's runtime, with OUTPUT_LOST of its zones after it. -/
theorem lineMoved_of_outputs {l : Nat} {s base u : State} (y : GearLine)
    (lines : base.gearLines = s.gearLines.set l y) (gear : base.gear.map (Option.map Gear.cfg) = s.gear.map (Option.map Gear.cfg))
    (hbase : base = { s with gear := base.gear, gearLines := base.gearLines, flags := base.flags })
    (hu : u = { base with zones := u.zones, flags := u.flags, gear := u.gear })
    (zones : u.zones.map (Option.map Zone.cfg) = base.zones.map (Option.map Zone.cfg))
    (hgear : u.gear.map (Option.map Gear.cfg) = base.gear.map (Option.map Gear.cfg)) : LineMoved l s u where
  rest := by rw [hu, hbase]
  others := fun k hk => by
    have same : u.gearLine k = s.gearLine k := by
      rw [State.gearLine, hu, State.gearLine]
      simp only [lines, List.getD_eq_getElem?_getD, List.getElem?_set_ne (Ne.symm hk)]
    rw [same]
  zones := by rw [zones, hbase]
  segments := by rw [hu, hbase]
  gear := hgear.trans gear

theorem zoneCfg_refreshLineOutput (l : Nat) (s : State) :
    (s.refreshLineOutput l).zones.map (Option.map Zone.cfg) = s.zones.map (Option.map Zone.cfg) :=
  (Moves.refreshLineOutput (n := 5) (by omega) s l).zoneCfg_eq (by omega)

theorem lineMoved_lineStilled (l : Nat) (dest : LineState) (y : GearLine) (s : State) : LineMoved l s (lineStilled l dest y s) := by
  refine lineMoved_of_outputs (outOfService dest y) rfl cfg_lineCleared rfl lineStilled_rest ?_
    (cfg_lineStilled.trans cfg_lineCleared.symm)
  have zones : (lineStilled l dest y s).zones = (State.refreshLineOutput l (lineCleared l dest y s)).zones := by
    rw [lineStilled]
    split <;> exact State.latchIf_zones ..
  rw [zones, zoneCfg_refreshLineOutput]

section

variable {s : State} {l : Nat} {x y : GearLine} {dest : LineState}

theorem lineMoved_lineGone (h : s.gearLines[l]? = some x) : LineMoved l s (lineGone l dest y s) := by
  rcases lineGone_cases (y := y) (dest := dest) h with e | e <;> rw [e]
  · exact lineMoved_trans (lineMoved_trans (lineMoved_lineStilled ..) (lineMoved_abortSweep ..)) (lineMoved_settledCheck ..)
  · exact lineMoved_trans (lineMoved_lineStilled ..) (lineMoved_settledCheck ..)

theorem gearLine_lineStilled (h : s.gearLines[l]? = some x) : (lineStilled l dest y s).gearLine l = outOfService dest y := by
  rw [lineStilled_rest]
  exact gearLine_of_get (get_set_same h _)

/-- The record of a line out of service, also after the end of a sweep (R116). -/
theorem gearLine_lineGone (h : s.gearLines[l]? = some x) (hd : dest ≠ .up) : (lineGone l dest y s).gearLine l = outOfService dest y := by
  have here := gearLine_lineStilled (y := y) (dest := dest) h
  have stays {t : State} (hs : LineStays l (lineStilled l dest y s) t) : t.gearLine l = outOfService dest y := by
    have kept := hs.kept
    rw [here] at kept
    exact kept hd rfl rfl
  rcases lineGone_cases (y := y) (dest := dest) h with e | e <;> rw [e]
  · exact stays ((lineStays_abortSweep ..).trans ((LineStays.rule l).settledCheck _))
  · exact stays ((LineStays.rule l).settledCheck _)

theorem abortSweep_settled (c : AbortCause) (s : State) : (s.abortSweep c).settledCheck = s.abortSweep c :=
  settledCheck_of_idle (abortSweep_ends c s).1

/-- A sweep that the line serves ends as ABORTED by LINE (R106). -/
theorem lineGone_aborts (h : s.gearLines[l]? = some x) (hup : y.state = .up) (hs : s.sweeping = true) (hserves : ServesSweep s l) :
    (lineGone l dest y s).sweep.state = .idle ∧ (lineGone l dest y s).sweep.lastOutcome = .aborted
      ∧ (lineGone l dest y s).sweep.abortCause = .line l ∧ hasFlag (lineGone l dest y s).flags.latched .calFinished = true := by
  rw [lineGone_served h hup hs hserves, abortSweep_settled]
  exact abortSweep_ends ..

/-! ### A line comes into service (R113 to R115, R136) -/

/-- A line's record and its gear at its coming into service, before OUTPUT_LOST (R113, R115). -/
def lineEntering (l : Nat) (y : GearLine) (s : State) : State :=
  if y.supply then
    { s with
      gearLines := s.gearLines.set l { y with state := .starting, queue := [], settle := some { start := s.tick, len := 600 } }
      gear := gearOn l (fun g => { g with state := .unknown, lampFail := false, confirmed := none }) s.gear }
  else State.latch .lineDown { s with gearLines := s.gearLines.set l { y with state := .down, queue := [] } }

/-- The record of a line that has come into service. -/
def lineIn (y : GearLine) (s : State) : GearLine :=
  if y.supply then { y with state := .starting, queue := [], settle := some { start := s.tick, len := 600 } }
  else { y with state := .down, queue := [] }

/-- A line in service again (R113 to R115). -/
def lineBack (l : Nat) (y : GearLine) (s : State) : State :=
  (State.refreshLineOutput l (lineEntering l y s)).settledCheck

theorem lineComesUp_eq (h : s.gearLines[l]? = some x) (y : GearLine) :
    (State.lineComesUp l { s with gearLines := s.gearLines.set l y }).settledCheck = lineBack l y s := by
  have there : ({ s with gearLines := s.gearLines.set l y } : State).gearLines[l]? = some y := get_set_same h y
  refine congrArg State.settledCheck ?_
  unfold State.lineComesUp State.lineStarting lineEntering
  rw [gearLine_of_get there]
  by_cases hs : y.supply = true
  · rw [if_pos hs, if_pos hs, modGearLine_of_get there, modLineGear_eq]
    simp only [List.set_set]
    rfl
  · rw [if_neg hs, if_neg hs, modGearLine_of_get there]
    simp only [List.set_set]

theorem lineStarting_eq (h : s.gearLines[l]? = some x) (hs : y.supply = true) :
    (State.lineStarting l { s with gearLines := s.gearLines.set l y }).settledCheck = lineBack l y s := by
  have there : ({ s with gearLines := s.gearLines.set l y } : State).gearLines[l]? = some y := get_set_same h y
  refine congrArg State.settledCheck ?_
  unfold State.lineStarting lineEntering
  rw [if_pos hs, modGearLine_of_get there, modLineGear_eq]
  simp only [List.set_set]
  rfl

theorem gearLines_lineEntering : (lineEntering l y s).gearLines = s.gearLines.set l (lineIn y s) := by
  rw [lineEntering, lineIn]
  split <;> rfl

theorem cfg_lineEntering : (lineEntering l y s).gear.map (Option.map Gear.cfg) = s.gear.map (Option.map Gear.cfg) := by
  rw [lineEntering]
  split
  · exact cfg_gearOn l (fun g => { g with state := .unknown, lampFail := false, confirmed := none }) (fun _ => rfl) s.gear
  · rfl

theorem outputs_lineEntering : State.refreshLineOutput l (lineEntering l y s) = { lineEntering l y s with
      zones := (State.refreshLineOutput l (lineEntering l y s)).zones
      flags := (State.refreshLineOutput l (lineEntering l y s)).flags }
    ∧ OutputsRecomputed (DrivenOn s l) (lineEntering l y s) (State.refreshLineOutput l (lineEntering l y s)) := by
  have outputs := outputs_line l (lineEntering l y s)
  rw [drivenOn_of_cfg cfg_lineEntering] at outputs
  exact outputs

theorem lineComesIn_lineBack : LineComesIn l y s (lineBack l y s) :=
  ⟨_, outputs_lineEntering.1, outputs_lineEntering.2, rfl⟩

theorem lineMoved_lineBack : LineMoved l s (lineBack l y s) := by
  refine lineMoved_trans (lineMoved_of_outputs (base := lineEntering l y s) (lineIn y s) gearLines_lineEntering cfg_lineEntering ?_ ?_
    (zoneCfg_refreshLineOutput ..) (by rw [outputs_lineEntering.1])) (lineMoved_settledCheck ..)
  · rw [lineEntering]
    split <;> rfl
  · rw [outputs_lineEntering.1]

theorem gearLine_lineBack (h : s.gearLines[l]? = some x) : (lineBack l y s).gearLine l = lineIn y s := by
  have lines : (lineBack l y s).gearLines = s.gearLines.set l (lineIn y s) := by
    rw [lineBack, settledCheck_rest, outputs_lineEntering.1]
    exact gearLines_lineEntering
  exact gearLine_of_get (by rw [lines]; exact get_set_same h _)

theorem state_lineIn : (lineIn y s).state = comesUp y := by
  rw [lineIn, comesUp]
  split <;> rfl

theorem output_lineIn : (lineIn y s).output = .idleHigh := by
  rw [lineIn]
  split <;> rfl

theorem enabled_lineIn : (lineIn y s).enabled = y.enabled := by
  rw [lineIn]
  split <;> rfl

end

/-! ### LINE_CONTROL (R114) -/

theorem set_self {s : State} {l : Nat} {x : GearLine} (h : s.gearLines[l]? = some x) : { s with gearLines := s.gearLines.set l x } = s := by
  obtain ⟨hl, rfl⟩ := List.getElem?_eq_some_iff.mp h
  rw [List.set_getElem_self]

section

variable {s : State} {l : Nat} {x : GearLine}

theorem serveLineControl_passes {k : Instr} {tag : Byte} {a : LineAction} (hr : s.running = true) (hl : l < 4)
    (h : s.gearLines[l]? = some x) (hk : exec k s = .next (reply .direct Kind.lineControl.code tag (whenRunning (serveLineControl l a) s)))
    (allowed : a ≠ .hold ∨ x.state ≠ .off) :
    exec k s = .next (answered .lineControl tag .ok (u8 ((s.controlLine l a).gearLine l).state.code) (s.controlLine l a)) := by
  have free : (!(decide (a = .hold) && decide ((s.gearLine l).state = .off))) = true := by
    rw [gearLine_of_get h]
    rcases allowed with ha | hx
    · simp [ha]
    · simp [hx]
  exact exec_of_passes_ok hr hk rfl (passes_cons (decide_eq_true hl) (passes_cons free passes_nil))

theorem state_of_get (h : s.gearLines[l]? = some x) {st : LineState} (hx : x.state = st) : (s.gearLine l).state = st := by
  rw [gearLine_of_get h, hx]

theorem controlLine_enable (h : s.gearLines[l]? = some x) (hx : x.state = .off) :
    s.controlLine l .enable = lineBack l { x with enabled := true } s := by
  have back : ((s.modGearLine l fun x => { x with enabled := true }).lineComesUp l).settledCheck
      = lineBack l { x with enabled := true } s := by rw [modGearLine_of_get h, lineComesUp_eq h]
  simp only [State.controlLine, state_of_get h hx, back]

theorem controlLine_disable (h : s.gearLines[l]? = some x) (hx : x.state ≠ .off) :
    s.controlLine l .disable = lineGone l .off { x with enabled := false } s := by
  have out : (State.lineOut l .off (s.modGearLine l fun x => { x with enabled := false })).settledCheck
      = lineGone l .off { x with enabled := false } s := by rw [modGearLine_of_get h]; rfl
  obtain ⟨st, hs⟩ : ∃ st, x.state = st := ⟨_, rfl⟩
  cases st with
  | off => exact absurd hs hx
  | starting => simp only [State.controlLine, state_of_get h hs, out]
  | up => simp only [State.controlLine, state_of_get h hs, out]
  | down => simp only [State.controlLine, state_of_get h hs, out]
  | held => simp only [State.controlLine, state_of_get h hs, out]

theorem controlLine_hold (h : s.gearLines[l]? = some x) (hx : x.state ≠ .off) (hh : x.state ≠ .held) :
    s.controlLine l .hold = lineGone l .held x s := by
  have out : (s.lineOut l .held).settledCheck = lineGone l .held x s := by rw [lineGone, set_self h]
  obtain ⟨st, hs⟩ : ∃ st, x.state = st := ⟨_, rfl⟩
  cases st with
  | off => exact absurd hs hx
  | starting => simp only [State.controlLine, state_of_get h hs, out]
  | up => simp only [State.controlLine, state_of_get h hs, out]
  | down => simp only [State.controlLine, state_of_get h hs, out]
  | held => exact absurd hs hh

theorem controlLine_release (h : s.gearLines[l]? = some x) (hx : x.state = .held) :
    s.controlLine l .release = lineBack l x s := by
  have back := lineComesUp_eq h x
  rw [set_self h] at back
  simp only [State.controlLine, state_of_get h hx, back]

/-- In any other state the line stays (R114). -/
theorem controlLine_same {a : LineAction} (h : s.gearLines[l]? = some x) (still : (a = .enable ∧ x.state ≠ .off) ∨ (a = .disable ∧ x.state = .off)
    ∨ (a = .hold ∧ x.state = .held) ∨ (a = .release ∧ x.state ≠ .held)) : s.controlLine l a = s := by
  unfold State.controlLine
  rw [gearLine_of_get h]
  rcases still with ⟨rfl, hx⟩ | ⟨rfl, hx⟩ | ⟨rfl, hx⟩ | ⟨rfl, hx⟩
  · split <;> simp_all
  · rw [hx]
  · rw [hx]
  · split <;> simp_all

end

/-- Settles O44: each action by the line's state. -/
theorem lineControlMovesTheLine : Obligations.LineControlMovesTheLine := by
  intro tag l s x hr hl h same aborts
  have stays {a : LineAction} {k : Instr} (hk : exec k s = .next (reply .direct Kind.lineControl.code tag (whenRunning (serveLineControl l a) s)))
      (allowed : a ≠ .hold ∨ x.state ≠ .off) (still : s.controlLine l a = s) : exec k s = same := by
    rw [serveLineControl_passes hr hl h hk allowed, still, gearLine_of_get h]
  refine ⟨?enable, ?disable, ?hold, ?release⟩
  case enable =>
    by_cases hx : x.state = .off
    · have back := controlLine_enable h hx
      have line := gearLine_lineBack (y := { x with enabled := true }) h
      rw [if_pos hx]
      refine ⟨_, ?_, lineComesIn_lineBack, lineMoved_lineBack, by rw [line, output_lineIn], by rw [line, state_lineIn]; rfl,
        by rw [line, enabled_lineIn]⟩
      rw [serveLineControl_passes (a := .enable) hr hl h rfl (.inl (by decide)), back, line, state_lineIn]
      rfl
    · rw [if_neg hx]
      exact stays (a := .enable) rfl (.inl (by decide)) (controlLine_same h (.inl ⟨rfl, hx⟩))
  case disable =>
    by_cases hx : x.state = .off
    · rw [if_pos hx]
      exact stays (a := .disable) rfl (.inl (by decide)) (controlLine_same h (.inr (.inl ⟨rfl, hx⟩)))
    · have line := gearLine_lineGone (y := { x with enabled := false }) (dest := .off) h (by decide)
      rw [if_neg hx]
      refine ⟨_, ?_, lineGoesOut_lineGone h, lineMoved_lineGone h, line, by rw [line]; rfl, fun hup hs hserves =>
        lineGone_aborts h hup hs hserves⟩
      rw [serveLineControl_passes (a := .disable) hr hl h rfl (.inl (by decide)), controlLine_disable h hx, line]
      rfl
  case hold =>
    by_cases hx : x.state = .off
    · rw [if_pos hx]
      have refuses : firstFailing [(decide (l < Config.nGearLines), Result.outOfRange),
          (!(decide (LineAction.hold = .hold) && decide ((s.gearLine l).state = .off)), .conflict)] = some .conflict := by
        have inside : decide (l < Config.nGearLines) = true := decide_eq_true hl
        rw [firstFailing_cons, if_pos inside, firstFailing_cons, if_neg (by simp [state_of_get h hx])]
      have refused : serveLineControl l .hold s = refused .conflict s := by rw [serveLineControl, checked, refuses]
      have answer : exec (.lineControlHold tag l) s
          = .next (reply .direct Kind.lineControl.code tag (whenRunning (serveLineControl l .hold) s)) := rfl
      rw [answer, whenRunning_of_running hr, refused]
      rfl
    · rw [if_neg hx]
      by_cases hh : x.state = .held
      · rw [if_pos hh]
        exact stays (a := .hold) rfl (.inr hx) (controlLine_same h (.inr (.inr (.inl ⟨rfl, hh⟩))))
      · have line := gearLine_lineGone (y := x) (dest := .held) h (by decide)
        rw [if_neg hh]
        refine ⟨_, ?_, lineGoesOut_lineGone h, lineMoved_lineGone h, line, by rw [line]; rfl, fun hup hs hserves =>
          lineGone_aborts h hup hs hserves⟩
        rw [serveLineControl_passes (a := .hold) hr hl h rfl (.inr hx), controlLine_hold h hx hh, line]
        rfl
  case release =>
    by_cases hx : x.state = .held
    · have back := controlLine_release h hx
      have line := gearLine_lineBack (y := x) h
      rw [if_pos hx]
      refine ⟨_, ?_, lineComesIn_lineBack, lineMoved_lineBack, by rw [line, output_lineIn], by rw [line, state_lineIn],
        by rw [line, enabled_lineIn]⟩
      rw [serveLineControl_passes (a := .release) hr hl h rfl (.inl (by decide)), back, line, state_lineIn]
    · rw [if_neg hx]
      exact stays (a := .release) rfl (.inl (by decide)) (controlLine_same h (.inr (.inr (.inr ⟨rfl, hx⟩))))

/-! ### The supply (R112, R113) -/

section

variable {s : State} {l : Nat} {x : GearLine}

/-- The line with the debounced supply taken (R113). -/
def supplied (x : GearLine) : GearLine := { x with supply := x.supplyRaw, supplyDebounce := none }

theorem takeSupply_lost (h : s.gearLines[l]? = some x) (hraw : x.supplyRaw = false)
    (hx : x.state = .up ∨ x.state = .starting ∨ x.state = .held) : (s.takeSupply l).settledCheck = lineGone l .down (supplied x) s := by
  have there : ({ s with gearLines := s.gearLines.set l (supplied x) } : State).gearLines[l]? = some (supplied x) := get_set_same h _
  have out : (State.lineOut l .down { s with gearLines := s.gearLines.set l (supplied x) }).settledCheck
      = lineGone l .down (supplied x) s := rfl
  have taken : s.modGearLine l (fun y => { y with supply := (s.gearLine l).supplyRaw, supplyDebounce := none })
      = { s with gearLines := s.gearLines.set l (supplied x) } := by
    rw [modGearLine_of_get h, gearLine_of_get h]
    rfl
  have raw : (s.gearLine l).supplyRaw = false := by rw [gearLine_of_get h, hraw]
  unfold State.takeSupply
  simp only [taken]
  rcases hx with hx | hx | hx <;> simp only [state_of_get there (show (supplied x).state = _ from hx), raw, out]

theorem takeSupply_back (h : s.gearLines[l]? = some x) (hraw : x.supplyRaw = true) (hx : x.state = .down) :
    (s.takeSupply l).settledCheck = lineBack l (supplied x) s := by
  have there : ({ s with gearLines := s.gearLines.set l (supplied x) } : State).gearLines[l]? = some (supplied x) := get_set_same h _
  have taken : s.modGearLine l (fun y => { y with supply := (s.gearLine l).supplyRaw, supplyDebounce := none })
      = { s with gearLines := s.gearLines.set l (supplied x) } := by
    rw [modGearLine_of_get h, gearLine_of_get h]
    rfl
  have raw : (s.gearLine l).supplyRaw = true := by rw [gearLine_of_get h, hraw]
  have back := lineStarting_eq (y := supplied x) h hraw
  unfold State.takeSupply
  simp only [taken]
  simp only [state_of_get there (show (supplied x).state = _ from hx), raw, back]

theorem takeSupply_same (h : s.gearLines[l]? = some x) (still : (x.supplyRaw = true ∧ x.state ≠ .down)
    ∨ (x.supplyRaw = false ∧ (x.state = .off ∨ x.state = .down))) :
    s.takeSupply l = { s with gearLines := s.gearLines.set l (supplied x) } := by
  have there : ({ s with gearLines := s.gearLines.set l (supplied x) } : State).gearLines[l]? = some (supplied x) := get_set_same h _
  have taken : s.modGearLine l (fun y => { y with supply := (s.gearLine l).supplyRaw, supplyDebounce := none })
      = { s with gearLines := s.gearLines.set l (supplied x) } := by
    rw [modGearLine_of_get h, gearLine_of_get h]
    rfl
  unfold State.takeSupply
  simp only [taken]
  rcases still with ⟨hraw, hx⟩ | ⟨hraw, hx⟩
  · have raw : (s.gearLine l).supplyRaw = true := by rw [gearLine_of_get h, hraw]
    cases hs : x.state with
    | down => exact absurd hs hx
    | off => simp only [state_of_get there (show (supplied x).state = _ from hs)]
    | starting => simp only [state_of_get there (show (supplied x).state = _ from hs), raw]
    | up => simp only [state_of_get there (show (supplied x).state = _ from hs), raw]
    | held => simp only [state_of_get there (show (supplied x).state = _ from hs), raw]
  · have raw : (s.gearLine l).supplyRaw = false := by rw [gearLine_of_get h, hraw]
    rcases hx with hx | hx <;> simp only [state_of_get there (show (supplied x).state = _ from hx), raw]

/-- LINE_DOWN is latched at a line's loss (R113), and stays latched at the end of a sweep. -/
theorem lineDown_lineGone (h : s.gearLines[l]? = some x) (y : GearLine) :
    hasFlag (lineGone l .down y s).flags.latched .lineDown = true := by
  have latched : hasFlag (lineStilled l .down y s).flags.latched .lineDown = true := by
    have shown : hasFlag (lineShown l .down y s).flags.latched .lineDown = true := by rw [lineShown, hasFlag_latchIf]; simp
    rw [lineStilled]
    split <;> exact shown
  have kept {t : State} (m : Moves 3 (lineStilled l .down y s) t) : hasFlag t.flags.latched .lineDown = true :=
    (m.flagsGrow (by omega)).2.1 .lineDown latched
  rcases lineGone_cases (y := y) (dest := .down) h with e | e <;> rw [e]
  · exact kept ((Moves.abortSweep (by omega) ..).trans (Moves.settledCheck (by omega) _))
  · exact kept (Moves.settledCheck (by omega) _)

end

/-- Settles O45: the raw change, and the level that has held, by the line's state. -/
theorem theSupplyMovesTheLine : Obligations.TheSupplyMovesTheLine := by
  intro l level s x h
  have line : s.gearLine l = x := gearLine_of_get h
  refine ⟨?_, fun hd => ?_, fun hd => ?_⟩
  · simp only [exec, execLpwrInputChange, line, modGearLine_of_get h]
    simp only [eq_comm (a := level) (b := x.supplyRaw)]
    rfl
  · simp only [exec, execLinePowerChange, line, hd, Option.isSome_none, Bool.false_eq_true, if_false]
  · intro y
    have answer : exec (.linePowerChange l) s = .next (s.takeSupply l).settledCheck := by
      simp only [exec, execLinePowerChange, line, hd, if_true]
    refine ⟨fun hraw hx => ?_, fun hraw hx => ?_, fun still => ?_⟩
    · refine ⟨_, answer.trans (congrArg _ (takeSupply_lost h hraw hx)), lineGoesOut_lineGone h, lineMoved_lineGone h,
        gearLine_lineGone h (by decide), lineDown_lineGone h _, fun hup hs hserves => lineGone_aborts h hup hs hserves⟩
    · refine ⟨_, answer.trans (congrArg _ (takeSupply_back h hraw hx)), lineComesIn_lineBack, lineMoved_lineBack, ?_⟩
      exact (gearLine_lineBack h).trans (if_pos hraw)
    · rw [answer, takeSupply_same h still]
      rfl

end Sys2Proof.Machine
end

section
/-! PROOFS. Chapter 7: a segment's record, the zones' SHADE hold, the glare tests; the groups' timers and faults (R140 to R151). -/

namespace Sys2Proof.Machine

open Sys2Proof.Safety

set_option Elab.async false

/-! ### A segment's record -/

/-- The state with the record of a segment replaced. -/
def withSegment (seg : Nat) (k : Segment) (s : State) : State := { s with segments := s.segments.set seg k }

section

variable {s : State} {seg : Nat} {g : Segment}

theorem segment_of_get (h : s.segments[seg]? = some g) : s.segment seg = g := getD_of_get h _

theorem modSegment_of_get (h : s.segments[seg]? = some g) (f : Segment → Segment) :
    s.modSegment seg f = withSegment seg (f g) s := by rw [State.modSegment, modify_eq_set_of_get h, withSegment]

theorem get_withSegment (h : s.segments[seg]? = some g) (k : Segment) : (withSegment seg k s).segments[seg]? = some k :=
  get_set_same h k

theorem segment_withSegment (h : s.segments[seg]? = some g) (k : Segment) : (withSegment seg k s).segment seg = k :=
  segment_of_get (get_withSegment h k)

theorem withSegment_withSegment (j k : Segment) : withSegment seg k (withSegment seg j s) = withSegment seg k s := by
  simp only [withSegment, List.set_set]

theorem withSegment_of_segments {u : State} (h : u.segments = s.segments) {k : Segment} :
    withSegment seg k u = { u with segments := s.segments.set seg k } := by rw [withSegment, h]

theorem withSegment_self (h : s.segments[seg]? = some g) : withSegment seg g s = s := by
  obtain ⟨hl, rfl⟩ := List.getElem?_eq_some_iff.mp h
  rw [withSegment, List.set_getElem_self]

theorem moves_withSegment (h : s.segments[seg]? = some g) {k : Segment} (hk : k.cfg = g.cfg) : Moves 2 s (withSegment seg k s) := by
  refine .segments le_rfl s _ ?_
  obtain ⟨hl, rfl⟩ := List.getElem?_eq_some_iff.mp h
  rw [List.map_set, hk, ← List.map_set, List.set_getElem_self]

/-- What a move of the gear and the queues leaves of the segments. -/
theorem get_of_moves {t : State} (m : Moves 1 s t) (h : s.segments[seg]? = some g) : t.segments[seg]? = some g := by
  rw [m.segments_eq (by omega), h]

theorem shadesMoved_of_moves {t : State} (m : Moves 2 s t) : ShadesMoved s t where
  rest := m.rest2
  zones := m.zoneCfg_eq (by omega)
  segments := m.segmentCfg_eq (by omega)
  gear := m.gearShadeCore_eq (by omega)
  lines := m.lineCore_eq (by omega)
  flags := m.flagsGrow_list (by omega) (by intro f; cases f <;> simp [flagRank])

end

/-! ### The SHADE hold of a segment's zones (R84) -/

section

variable {s : State} {z : Nat} {x : Zone}

theorem setShadeHold_of_zone (h : s.zone z = some x) (held : Bool) : s.setShadeHold z held
    = if x.holdShade = held then s else State.resolve z { s with zones := s.zones.set z (some { x with holdShade := held }) } := by
  unfold State.setShadeHold
  rw [h]
  simp only [State.modZone_eq h]

theorem setShadeHold_of_none (h : s.zone z = none) (held : Bool) : s.setShadeHold z held = s := by
  unfold State.setShadeHold
  rw [h]

theorem holdShade_setShadeHold (h : s.zone z = some x) (held : Bool) :
    ∃ y, (s.setShadeHold z held).zone z = some y ∧ y.holdShade = held := by
  rw [setShadeHold_of_zone h]
  by_cases same : x.holdShade = held
  · exact ⟨x, by rw [if_pos same, h], same⟩
  · rw [if_neg same]
    refine ⟨_, zone_resolve_eq (zone_set_same h _), ?_⟩
    obtain ⟨_, _, _, _, kept, _⟩ := resolvedZone_kept _ _ _ _
    exact kept

theorem zone_setShadeHold_ne {k : Nat} (hk : k ≠ z) (held : Bool) : (s.setShadeHold z held).zone k = s.zone k := by
  cases h : s.zone z with
  | none => rw [setShadeHold_of_none h]
  | some x =>
    rw [setShadeHold_of_zone h]
    split
    · rfl
    · rw [zone_resolve_ne hk]
      exact (entryAt_set ..).trans (if_neg fun e => hk e.1.symm)

/-- A zone's SHADE cause is `held`, where the zone is defined. -/
def HoldsShade (held : Bool) (z : Nat) (s : State) : Prop := ∀ x, s.zone z = some x → x.holdShade = held

theorem holdsShade_setShadeHold (s : State) (z : Nat) (held : Bool) : HoldsShade held z (s.setShadeHold z held) := by
  intro y hy
  cases h : s.zone z with
  | none => rw [setShadeHold_of_none h, h] at hy; cases hy
  | some x =>
    obtain ⟨y', here, holds⟩ := holdShade_setShadeHold h held
    rw [here, Option.some.injEq] at hy
    exact hy ▸ holds

theorem HoldsShade.setShadeHold {held : Bool} {k : Nat} (h : HoldsShade held k s) (z : Nat) : HoldsShade held k (s.setShadeHold z held) := by
  by_cases hk : k = z
  · subst hk
    exact holdsShade_setShadeHold s k held
  · intro y hy
    exact h y ((zone_setShadeHold_ne hk held).symm.trans hy)

/-- What a change brings about at its index, and keeps elsewhere, holds of every index that it was made for. -/
theorem forEach_reaches {P : Nat → State → Prop} {f : Nat → State → State} (sets : ∀ s z, P z (f z s)) (keeps : ∀ s k z, P k s → P k (f z s))
    (l : List Nat) (s : State) {k : Nat} (h : k ∈ l ∨ P k s) : P k (forEach l f s) := by
  induction l generalizing s with
  | nil => exact h.resolve_left List.not_mem_nil
  | cons z l ih =>
    rw [forEach_cons]
    refine ih _ ?_
    rcases h with h | h
    · rcases List.mem_cons.mp h with rfl | h
      · exact .inr (sets ..)
      · exact .inl h
    · exact .inr (keeps s k z h)

theorem holdsShade_forEach {held : Bool} (l : List Nat) (s : State) {k : Nat} (h : k ∈ l ∨ HoldsShade held k s) :
    HoldsShade held k (forEach l (fun z s => s.setShadeHold z held) s) :=
  forEach_reaches (P := HoldsShade held) (fun s z => holdsShade_setShadeHold s z held) (fun _ _ z h => h.setShadeHold z) l s h

/-- The zones of the segment hold the cause, or not (R84). -/
theorem shadeHeld_setShadeHolds (s : State) (seg : Nat) (held : Bool) : ShadeHeld seg held (s.setShadeHolds seg held) := by
  intro z y hy hseg
  refine holdsShade_forEach (s.zonesWhere fun x => decide (x.cfg.segment = seg)) s (.inl ?_) y hy
  have cfgs : (s.zone z).map Zone.cfg = ((s.setShadeHolds seg held).zone z).map Zone.cfg := by
    rw [State.zone, State.zone, map_entryAt, map_entryAt, (Moves.setShadeHolds (n := 1) (by omega) s seg held).zoneCfg_eq (by omega)]
  rw [hy] at cfgs
  obtain ⟨x, hx, hc⟩ := Option.map_eq_some_iff.mp cfgs
  exact State.mem_zonesWhere.mpr ⟨x, hx, decide_eq_true (hc ▸ hseg)⟩

end

/-! ### The settle's end (R144) -/

theorem endSettle_eq {s : State} {seg : Nat} {g : Segment} (h : s.segments[seg]? = some g) :
    s.endSettle seg = State.setShadeHolds seg false (withSegment seg { g with state := .idle, settle := none } s) := by
  rw [State.endSettle, modSegment_of_get h]

theorem segments_endSettle {s : State} {seg : Nat} {g : Segment} (h : s.segments[seg]? = some g) :
    (s.endSettle seg).segments = s.segments.set seg { g with state := .idle, settle := none } := by
  rw [endSettle_eq h, (Moves.setShadeHolds (n := 1) (by omega) ..).segments_eq (by omega)]
  rfl

/-! ### Commands of the shade logic (R139, R140) -/

theorem offerShade_eq (c : GearCmd) (v i : Nat) (s : State) : s.offerShade c v i = sending c v s i := by
  unfold State.offerShade sending
  cases s.gearAt i <;> rfl

theorem forEach_offerShade (c : GearCmd) (v : Nat) (l : List Nat) (s : State) :
    forEach l (State.offerShade c v) s = l.foldl (sending c v) s := by
  rw [forEach]
  exact congrArg (fun f => l.foldl f s) (funext fun u => funext fun i => offerShade_eq c v i u)

theorem moves_sending {n : Nat} (c : GearCmd) (v : Nat) (l : List Nat) (s : State) : Moves n s (l.foldl (sending c v) s) := by
  rw [← forEach_offerShade]
  exact Moves.forEach _ _ (fun _ _ _ => Moves.offerShade ..) s

/-! ### A travel that is stopped (R141, R143) -/

/-- The travel and query timers of a group do not run. -/
def TravelStopped (seg : Nat) (s : State) : Prop := (s.segment seg).travel = none ∧ (s.segment seg).query = none

namespace TravelStopped

variable {s t : State} {seg : Nat}

theorem of_moves (h : TravelStopped seg s) (m : Moves 1 s t) : TravelStopped seg t := by
  rw [TravelStopped, State.segment, m.segments_eq (by omega)]
  exact h

theorem modSegment (h : TravelStopped seg s) {f : Segment → Segment}
    (hf : ∀ g, (f g).travel = none ∧ (f g).query = none ∨ (f g).travel = g.travel ∧ (f g).query = g.query) :
    TravelStopped seg (s.modSegment seg f) := by
  rw [TravelStopped, State.segment_modSegment]
  obtain ⟨ht, hq⟩ := h
  split
  · rcases hf (s.segment seg) with ⟨ht', hq'⟩ | ⟨ht', hq'⟩
    · exact ⟨ht', hq'⟩
    · exact ⟨ht'.trans ht, hq'.trans hq⟩
  · exact ⟨ht, hq⟩

theorem endSettle (h : TravelStopped seg s) : TravelStopped seg (s.endSettle seg) :=
  (h.modSegment (f := fun g => { g with state := .idle, settle := none }) fun _ => .inr ⟨rfl, rfl⟩).of_moves
    (Moves.setShadeHolds le_rfl ..)

theorem arrivalTest (h : TravelStopped seg s) : TravelStopped seg (s.arrivalTest seg) := by
  unfold State.arrivalTest
  dsimp only
  split
  · unfold State.enterSettling
    dsimp only
    have stopped := h.modSegment (f := fun g => { g with
      state := .settling, travel := none, query := none, settle := some (s.startTimer (g.settleInForce * 1000)) })
      fun _ => .inl ⟨rfl, rfl⟩
    split
    · exact stopped.endSettle
    · exact stopped
  · exact h

theorem faultTest (h : TravelStopped seg s) : TravelStopped seg (s.faultTest seg) := by
  unfold State.faultTest
  split
  · exact (h.modSegment fun _ => .inl ⟨rfl, rfl⟩).of_moves (Moves.setShadeHolds (by omega) ..)
  · exact h

theorem faulted (h : TravelStopped seg s) (c : Bool) (t : List (Option Gear)) :
    TravelStopped seg (State.latchIf c .shadeFault { s with gear := t }) := by
  rw [TravelStopped, State.segment, State.latchIf_segments]
  exact h

end TravelStopped

/-! ### Gear that become faulted (R142, R143) -/

/-- A change of the entries that a list names, in whatever order and as often as it names them. -/
theorem foldl_modify_mapIdx_idem {α : Type} {f : α → α} (hf : ∀ x, f (f x) = f x) (l : List Nat) (t : List (Option α)) :
    l.foldl (fun t i => t.modify i (Option.map f)) t = t.mapIdx fun i o => if i ∈ l then o.map f else o := by
  induction l generalizing t with
  | nil => exact List.ext_getElem? fun k => by rw [List.foldl_nil, List.getElem?_mapIdx]; cases t[k]? <;> rfl
  | cons i l ih =>
    rw [List.foldl_cons, ih]
    refine List.ext_getElem? fun k => ?_
    rw [List.getElem?_mapIdx, List.getElem?_mapIdx, List.getElem?_modify]
    by_cases hk : i = k
    · subst hk
      rcases t[i]? with _ | _ | x <;> by_cases hm : i ∈ l <;> simp [hm, hf]
    · have mem : (k ∈ i :: l) ↔ k ∈ l := by simp [Ne.symm hk]
      simp only [if_neg hk, mem, id_map']

/-- Gear that become shade_faulted (R142, R143). -/
def faultedGear (late : List Nat) (t : List (Option Gear)) : List (Option Gear) :=
  t.mapIdx fun i o => if i ∈ late then o.map fun h => { h with shadeFaulted := true } else o

theorem faultGear_eq (late : List Nat) (s : State) :
    s.faultGear late = State.latchIf (decide (late ≠ [])) .shadeFault { s with gear := faultedGear late s.gear } := by
  rw [State.faultGear, forEach_modGear, foldl_modify_mapIdx_idem (f := fun g : Gear => { g with shadeFaulted := true }) fun _ => rfl]
  cases late <;> rfl

theorem gearAt_faultedGear (late : List Nat) (t : List (Option Gear)) (i : Nat) : entryAt (faultedGear late t) i
    = if i ∈ late then (entryAt t i).map (fun h => { h with shadeFaulted := true }) else entryAt t i := by
  rw [entryAt, entryAt, faultedGear, List.getElem?_mapIdx]
  rcases t[i]? with _ | o <;> split <;> rfl

theorem faultAndTest_eq (seg : Nat) (late : List Nat) (s : State) : s.faultAndTest seg late
    = State.faultTest seg (State.arrivalTest seg (State.latchIf (decide (late ≠ [])) .shadeFault
        { s with gear := faultedGear late s.gear })) := by rw [State.faultAndTest, faultGear_eq]

theorem settles_faultAndTest (seg : Nat) (late : List Nat) (s : State) :
    SettlesGroup (State.latchIf (decide (late ≠ [])) .shadeFault { s with gear := faultedGear late s.gear }) (s.faultAndTest seg late) := by
  rw [faultAndTest_eq]
  exact (SettlesGroup.arrivalTest ..).trans (SettlesGroup.faultTest ..)

theorem faulted_of_faultAndTest {seg i : Nat} {late : List Nat} {s : State} {k : Gear} (h : (s.faultAndTest seg late).gearAt i = some k) :
    ∃ x, s.gearAt i = some x ∧ k.shadeFaulted = if i ∈ late then true else x.shadeFaulted := by
  have cores := (settles_faultAndTest seg late s).gearAt i
  rw [h, State.gearAt, State.latchIf_gear, gearAt_faultedGear] at cores
  by_cases hi : i ∈ late
  · rw [if_pos hi, Option.map_map] at cores
    obtain ⟨x, hx, same⟩ := Option.map_eq_some_iff.mp cores.symm
    exact ⟨x, hx, by rw [if_pos hi]; exact (congrArg Gear.shadeFaulted same).symm⟩
  · rw [if_neg hi] at cores
    obtain ⟨x, hx, same⟩ := Option.map_eq_some_iff.mp cores.symm
    exact ⟨x, hx, by rw [if_neg hi]; exact (congrArg Gear.shadeFaulted same).symm⟩

/-- The travel timeout of a MOVING group (R143). -/
theorem travelTimeout_faults {seg : Fin 16} {s : State} {g : Segment} (h : s.segments[seg.val]? = some g) (hm : g.state = .moving)
    (ht : g.travel.isSome = true) :
    let late := (s.activeGear seg).filter fun i => !s.hasArrived seg i
    ∃ t, exec (.travelTimeout seg) s = .next t ∧ ShadesMoved s t
      ∧ t = State.faultAndTest seg late (withSegment seg { g with travel := none, query := none } s)
      ∧ (∀ i ∈ late, ∀ h, t.gearAt i = some h → h.shadeFaulted = true)
      ∧ (∀ i h k, i ∉ late → s.gearAt i = some h → t.gearAt i = some k → k.shadeFaulted = h.shadeFaulted)
      ∧ (late ≠ [] → hasFlag t.flags.latched .shadeFault = true)
      ∧ (t.segment seg).travel = none ∧ (t.segment seg).query = none := by
  intro late
  have here : s.segment seg = g := segment_of_get h
  have out : (s.moving seg && (s.segment seg).travel.isSome) = true := by rw [State.moving, State.shadeState, here, hm, ht]; rfl
  have answer : exec (.travelTimeout seg) s
      = .next (State.faultAndTest seg late (withSegment seg { g with travel := none, query := none } s)) :=
    congrArg Host.Outcome.next ((if_pos out).trans (congrArg (State.faultAndTest seg late) (modSegment_of_get h _)))
  have first : Moves 2 s (withSegment seg { g with travel := none, query := none } s) := moves_withSegment h rfl
  have stopped : TravelStopped seg (withSegment seg { g with travel := none, query := none } s) := by
    rw [TravelStopped, segment_withSegment h]
    exact ⟨rfl, rfl⟩
  have gear : (withSegment seg { g with travel := none, query := none } s).gear = s.gear := rfl
  generalize withSegment seg { g with travel := none, query := none } s = u at answer first stopped gear ⊢
  have settles := settles_faultAndTest seg late u
  refine ⟨_, answer, shadesMoved_of_moves (first.trans (Moves.faultAndTest le_rfl ..)), rfl, fun i hi k hk => ?_,
    fun i x k hi hx hk => ?_, fun hne => (settles.flags.2 .shadeFault).1 ?_, ?_⟩
  · obtain ⟨x, _, faults⟩ := faulted_of_faultAndTest hk
    rw [faults, if_pos hi]
  · obtain ⟨y, hy, faults⟩ := faulted_of_faultAndTest hk
    rw [State.gearAt, gear, ← State.gearAt, hx, Option.some.injEq] at hy
    rw [faults, if_neg hi, hy]
  · rw [hasFlag_latchIf]
    simp [hne]
  · rw [faultAndTest_eq]
    exact (TravelStopped.faultTest (TravelStopped.arrivalTest (stopped.faulted _ _)))

/-- Settles O53: each timer by its owner's equation. -/
theorem theTravelTimersAct : Obligations.TheTravelTimersAct := by
  intro seg s g h
  have here : s.segment seg = g := segment_of_get h
  have moving : s.moving seg = decide (g.state = .moving) := by rw [State.moving, State.shadeState, here]
  refine ⟨fun hm hq => ?query, fun hm ht => ?travel, fun hs => ?settle, fun hm => ?still, fun hs => ?none⟩
  case query =>
    have kept : (((s.activeGear seg).filter fun i =>
        !s.hasArrived seg i && (s.gearAt i).any fun h => decide ((s.gearLine h.cfg.line).state = .up)).foldl
          (sending .shadeQuery 0) s).segments = s.segments := (moves_sending (n := 0) ..).segments_eq (by omega)
    have asks : (s.moving seg && (s.segment seg).query.isSome) = true := by rw [moving, hm, here, hq]; rfl
    refine ⟨_, rfl, kept, congrArg Host.Outcome.next ((if_pos asks).trans ?_)⟩
    dsimp only
    rw [forEach_offerShade]
    exact (modSegment_of_get (kept ▸ h) _).trans (withSegment_of_segments kept)
  case travel => exact travelTimeout_faults h hm ht
  case settle =>
    refine ⟨_, ?_, shadesMoved_of_moves (Moves.endSettle (by omega) s seg), ?_, segments_endSettle h⟩
    · simp only [exec, execShadeSettleExpiry, here, hs, if_true]
    · rw [endSettle_eq h]
      exact shadeHeld_setShadeHolds _ seg.val false
  case still =>
    have stands : s.moving seg = false := by rw [moving, decide_eq_false hm]
    exact ⟨congrArg Host.Outcome.next (if_neg (by rw [stands]; exact Bool.false_ne_true)),
      congrArg Host.Outcome.next (if_neg (by rw [stands]; exact Bool.false_ne_true))⟩
  case none => simp only [exec, execShadeSettleExpiry, here, hs, Option.isSome_none, Bool.false_eq_true, if_false]

/-! ### The glare tests (R146 to R148) -/

section

variable {s : State} {seg : Nat} {g : Segment}

theorem testGlare_eq (now : Tick) (w : Nat) (g : Segment) : Segment.testGlare now w g = glareTested now w g := by
  obtain ⟨p, hp⟩ : ∃ p, g.phase = p := ⟨_, rfl⟩
  unfold Segment.testGlare glareTested
  simp only [hp]
  cases p <;> simp only [decide_eq_true_eq]
  case clear =>
    by_cases hg : g.cfg.glareThreshold ≤ w
    · rw [if_pos hg, if_pos hg]; rfl
    · by_cases ho : g.target = some g.cfg.openPosition
      · simp only [hg, ho, if_true, if_false]
      · by_cases hr : g.cfg.releaseThreshold ≤ w
        · simp only [hg, ho, hr, Nat.not_lt.mpr hr, if_true, if_false]
        · simp only [hg, ho, hr, Nat.lt_of_not_le hr, if_true, if_false]; rfl
  case glarePending => by_cases hg : g.cfg.glareThreshold ≤ w <;> simp only [hg, if_true, if_false]; rfl
  case glared =>
    by_cases hr : g.cfg.releaseThreshold ≤ w
    · simp only [hr, Nat.not_lt.mpr hr, if_true, if_false]
    · simp only [hr, Nat.lt_of_not_le hr, if_true, if_false]; rfl
  case releasePending =>
    by_cases hr : g.cfg.releaseThreshold ≤ w
    · simp only [hr, Nat.not_lt.mpr hr, if_true, if_false]; rfl
    · simp only [hr, Nat.lt_of_not_le hr, if_true, if_false]

/-- A segment's record once its glare phase is recomputed (R148). -/
def recomputed (s : State) (g : Segment) : Segment :=
  match (g.cfg.windowSensor.bind s.sensor).filter serves with
  | some w => glareTested s.tick w.daylightF { g with phase := .clear, glareStart := none }
  | none => { g with phase := .clear, glareStart := none }

theorem recomputeGlare_eq (h : s.segments[seg]? = some g) : s.recomputeGlare seg = withSegment seg (recomputed s g) s := by
  have cleared := get_withSegment h { g with phase := .clear, glareStart := none }
  unfold State.recomputeGlare recomputed
  rw [modSegment_of_get h]
  have named : State.windowOf (withSegment seg { g with phase := .clear, glareStart := none } s) seg
      = g.cfg.windowSensor.bind s.sensor := by rw [State.windowOf, segment_withSegment h]; rfl
  simp only [Segment.stopGlare, named]
  cases g.cfg.windowSensor.bind s.sensor with
  | none => rfl
  | some w =>
    simp only [Option.filter]
    have usable : w.usable = serves w := rfl
    rw [usable]
    split
    · rw [modSegment_of_get cleared, withSegment_withSegment, testGlare_eq]
      rfl
    · rfl

/-- The tests touch the phase and its timer alone. -/
theorem glareTested_rest (now : Tick) (w : Nat) (j : Segment) :
    ∃ p start len, glareTested now w j = { j with phase := p, glareStart := start, glareLen := len } := by
  unfold glareTested
  dsimp only
  repeat' split
  all_goals exact ⟨_, _, _, rfl⟩

theorem recomputed_rest (s : State) (g : Segment) :
    ∃ p start len, recomputed s g = { g with phase := p, glareStart := start, glareLen := len } := by
  unfold recomputed
  split
  · next w _ =>
    obtain ⟨p, start, len, e⟩ := glareTested_rest s.tick w.daylightF { g with phase := .clear, glareStart := none }
    exact ⟨p, start, len, e⟩
  · exact ⟨_, _, _, rfl⟩

/-- A group in AUTO again, its phase CLEAR (R148, R150). -/
def inAuto (g : Segment) : Segment := { g with manual := false, manualExpiry := none, phase := .clear, glareStart := none }

theorem returnToAuto_eq (h : s.segments[seg]? = some g) : s.returnToAuto seg
    = if s.sweeping then withSegment seg (inAuto g) s else State.recomputeGlare seg (withSegment seg (inAuto g) s) := by
  unfold State.returnToAuto
  rw [modSegment_of_get h]
  rfl

theorem glareExpire_pending (h : s.segments[seg]? = some g) (hp : g.phase = .glarePending) : s.glareExpire seg
    = State.setTarget seg g.cfg.glarePosition (withSegment seg { g with phase := .glared, glareStart := none } s) := by
  unfold State.glareExpire
  rw [segment_of_get h, hp]
  simp only [modSegment_of_get h]
  rfl

theorem glareExpire_releasing (h : s.segments[seg]? = some g) (hp : g.phase = .releasePending) : s.glareExpire seg
    = State.setTarget seg g.cfg.openPosition (withSegment seg { g with phase := .clear, glareStart := none } s) := by
  unfold State.glareExpire
  rw [segment_of_get h, hp]
  simp only [modSegment_of_get h]
  rfl

theorem glareExpire_still (h : s.segments[seg]? = some g) (hp : g.phase = .clear ∨ g.phase = .glared) : s.glareExpire seg = s := by
  unfold State.glareExpire
  rw [segment_of_get h]
  rcases hp with hp | hp <;> rw [hp]

/-- A reading of a group in AUTO outside a sweep, once a changed delay is applied (R146, R147). -/
theorem windowReading_eq {w : Nat} (h : s.segments[seg]? = some g) (hm : g.manual = false) (hs : s.sweeping = false) :
    s.windowReading seg w = State.modSegment seg (glareTested s.tick w) (s.applyDelay seg) := by
  have reads : ((s.segment seg).manual || s.sweeping) = false := by rw [segment_of_get h, hm, hs]; rfl
  have tests : Segment.testGlare s.tick w = glareTested s.tick w := funext (testGlare_eq s.tick w)
  rw [State.windowReading, reads, tests]
  rfl

/-- A delay that was changed is applied (R147). -/
theorem applyDelay_changed {start : Tick} (h : s.segments[seg]? = some g) (hstart : g.glareStart = some start)
    (hd : g.glareLen ≠ g.delay) : s.applyDelay seg
      = if g.delay * 1000 ≤ s.tick.since start then State.glareExpire seg (withSegment seg { g with glareLen := g.delay } s)
        else withSegment seg { g with glareLen := g.delay } s := by
  unfold State.applyDelay
  rw [segment_of_get h]
  simp only [hstart, if_neg hd, modSegment_of_get h]
  rfl

end

/-- Settles O54: each timer by its owner's equation. -/
theorem theGlareTimersAct : Obligations.TheGlareTimersAct := by
  intro seg s g h
  have here : s.segment seg = g := segment_of_get h
  refine ⟨fun hp hs => ?_, fun hp hs => ?_, fun hp => ?_, fun hp => ?_, fun hm he => ?manual, fun none => ?_,
    fun w start hm hs hstart hd => ?delayed⟩
  · have runs : ((s.segment seg).glareStart.isSome && decide ((s.segment seg).phase = .glarePending)) = true := by rw [here, hs, hp]; rfl
    exact congrArg Host.Outcome.next ((if_pos runs).trans (glareExpire_pending h hp))
  · have runs : ((s.segment seg).glareStart.isSome && decide ((s.segment seg).phase = .releasePending)) = true := by rw [here, hs, hp]; rfl
    exact congrArg Host.Outcome.next ((if_pos runs).trans (glareExpire_releasing h hp))
  · exact congrArg Host.Outcome.next (if_neg (by simp [here, hp]))
  · exact congrArg Host.Outcome.next (if_neg (by simp [here, hp]))
  case manual =>
    intro auto
    have ends : ((s.segment seg).manual && (s.segment seg).manualExpiry.isSome) = true := by rw [here, hm, he]; rfl
    have answer : exec (.manualExpiry seg) s = .next (if s.sweeping then auto else State.recomputeGlare seg auto) :=
      congrArg Host.Outcome.next ((if_pos ends).trans (returnToAuto_eq h))
    by_cases hs : s.sweeping = true
    · exact ⟨inAuto g, answer.trans (congrArg Host.Outcome.next (if_pos hs)), answer, rfl, rfl, rfl, rfl, rfl⟩
    · have again : State.recomputeGlare seg auto = withSegment seg (recomputed auto (inAuto g)) s :=
        (recomputeGlare_eq (get_withSegment h (inAuto g))).trans (withSegment_withSegment ..)
      obtain ⟨p, start, len, e⟩ := recomputed_rest auto (inAuto g)
      refine ⟨recomputed auto (inAuto g), answer.trans (congrArg Host.Outcome.next ((if_neg hs).trans again)), answer, ?_⟩
      rw [e]
      exact ⟨rfl, rfl, rfl, rfl, rfl⟩
  · exact congrArg Host.Outcome.next (if_neg (by rcases none with hm | he <;> simp [*]))
  case delayed =>
    intro ends expires u
    have applied := get_withSegment h { g with glareLen := g.delay }
    rw [windowReading_eq h hm hs, applyDelay_changed h hstart hd]
    have applies (hle : g.delay * 1000 ≤ s.tick.since start) :
        State.glareExpire seg (withSegment seg { g with glareLen := g.delay } s) = u := by
      have passed : expires = true := decide_eq_true hle
      obtain ⟨p, hp⟩ : ∃ p, g.phase = p := ⟨_, rfl⟩
      cases p
      case glarePending =>
        have chosen : u = ends .glared g.cfg.glarePosition := by simp only [u, hp, passed]
        rw [chosen, glareExpire_pending applied hp, withSegment_withSegment]
        rfl
      case releasePending =>
        have chosen : u = ends .clear g.cfg.openPosition := by simp only [u, hp, passed]
        rw [chosen, glareExpire_releasing applied hp, withSegment_withSegment]
        rfl
      case clear =>
        have chosen : u = withSegment seg { g with glareLen := g.delay } s := by simp only [u, hp]; rfl
        rw [chosen, glareExpire_still applied (.inl hp)]
      case glared =>
        have chosen : u = withSegment seg { g with glareLen := g.delay } s := by simp only [u, hp]; rfl
        rw [chosen, glareExpire_still applied (.inr hp)]
    have stays (hle : ¬ g.delay * 1000 ≤ s.tick.since start) : withSegment seg { g with glareLen := g.delay } s = u := by
      have runs : expires = false := decide_eq_false hle
      simp only [u, runs]
      cases g.phase <;> rfl
    by_cases hle : g.delay * 1000 ≤ s.tick.since start
    · rw [if_pos hle, applies hle]
      rfl
    · rw [if_neg hle, stays hle]
      rfl

/-! ### The gear of a group, and its target (R137, R139) -/

theorem filter_gearWhere (s : State) (p q : Gear → Bool) : (s.gearWhere p).filter (fun i => (s.gearAt i).any q)
    = s.gearWhere fun g => p g && q g := by
  rw [State.gearWhere, State.gearWhere, indicesWhere, indicesWhere, List.filter_filter]
  refine List.filter_congr fun i _ => ?_
  cases s.gearAt i with
  | none => rfl
  | some g => exact Bool.and_comm ..

/-- The target offered to gear in order, where the group has one (R139, R140). -/
theorem forEach_offerGoto {s : State} {seg : Nat} {g : Segment} (h : s.segments[seg]? = some g) (l : List Nat) :
    forEach l (State.offerGoto seg) s = sendingTarget g.target l s := by
  induction l generalizing s with
  | nil => cases ht : g.target <;> rfl
  | cons i l ih =>
    have kept : (s.offerGoto seg i).segments[seg]? = some g := get_of_moves (Moves.offerGoto ..) h
    rw [forEach_cons, ih kept]
    unfold State.offerGoto sendingTarget
    rw [segment_of_get h]
    cases g.target with
    | none => rfl
    | some p => simp only [offerShade_eq, List.foldl_cons]

/-! ### CLEAR_SHADE_FAULT (R151) -/

section

variable {s : State} {seg : Nat} {g : Segment}

/-- The state with the faults and counts of a group cleared (R151). -/
def withoutFaults (seg : Nat) (s : State) : State := { s with gear := faultsCleared seg s.gear }

theorem clearGroupFaults_eq (s : State) (seg : Nat) : s.clearGroupFaults seg = withoutFaults seg s := by
  rw [State.clearGroupFaults, State.groupGear, forEach_gearWhere, withoutFaults, faultsCleared]
  simp only [inGroup_iff]

theorem leaveFaulted_eq (h : s.segments[seg]? = some g) : s.leaveFaulted seg = match g.target with
    | some p => State.setTarget seg p (withSegment seg (if g.manual then g else recomputed s g) s)
    | none => withSegment seg (if g.manual then g else recomputed s g) s := by
  have taken : (if (s.segment seg).manual then s else s.recomputeGlare seg)
      = withSegment seg (if g.manual then g else recomputed s g) s := by
    rw [segment_of_get h, recomputeGlare_eq h]
    split
    · rw [withSegment_self h]
    · rfl
  have target : (if g.manual then g else recomputed s g).target = g.target := by
    obtain ⟨p, start, len, e⟩ := recomputed_rest s g
    split
    · rfl
    · rw [e]
  unfold State.leaveFaulted
  simp only [taken, segment_withSegment h, target] <;> (cases g.target <;> rfl)

theorem clearShadeFault_eq (h : s.segments[seg]? = some g) : s.clearShadeFault seg = match g.state with
    | .faulted => if s.sweeping then withSegment seg { g with state := .idle } (withoutFaults seg s)
        else State.leaveFaulted seg (withSegment seg { g with state := .idle } (withoutFaults seg s))
    | .moving => sendingTarget g.target (s.gearWhere fun x => x.inGroup seg && x.shadeFaulted) (withoutFaults seg s)
    | .idle | .settling => withoutFaults seg s := by
  have there : (withoutFaults seg s).segments[seg]? = some g := h
  have state : State.shadeState (withoutFaults seg s) seg = g.state := by rw [State.shadeState, segment_of_get there]
  unfold State.clearShadeFault
  rw [State.groupGear, filter_gearWhere, clearGroupFaults_eq]
  simp only [state]
  cases g.state with
  | faulted => simp only [modSegment_of_get there]; rfl
  | moving => exact forEach_offerGoto there _
  | idle => rfl
  | settling => rfl

end

/-- Settles O52: by the group's state. -/
theorem clearShadeFaultClearsTheGroup : Obligations.ClearShadeFaultClearsTheGroup := by
  intro tag seg s g hr hseg h cleared stored faulted hf
  have listed : faulted = s.gearWhere fun x => x.inGroup seg && x.shadeFaulted :=
    eq_of_gearInOrder hf fun x => by rw [Bool.and_eq_true, inGroup_iff]
  have any : ((s.groupGear seg).any fun i => (s.gearAt i).any Gear.shadeFaulted) = !faulted.isEmpty := by
    rw [listed, ← filter_gearWhere, ← State.groupGear, Bool.eq_iff_iff]
    simp
  refine ⟨s.clearShadeFault seg, ?_, fun hs => ?_, fun hs => ?_, fun hs => ?_⟩
  · rw [← any]
    exact exec_of_passes_ok hr rfl rfl (passes_cons (decide_eq_true hseg) passes_nil)
  · rw [clearShadeFault_eq h]
    rcases hs with hs | hs <;> rw [hs] <;> rfl
  · rw [clearShadeFault_eq h, hs, listed]
    rfl
  · intro tested taken
    have idle := get_withSegment (s := withoutFaults seg s) h { g with state := .idle }
    rw [clearShadeFault_eq h, hs]
    dsimp only
    rw [leaveFaulted_eq idle, withSegment_withSegment]
    have chosen : (if g.manual then { g with state := .idle }
        else recomputed (withSegment seg { g with state := .idle } (withoutFaults seg s)) { g with state := .idle }) = taken := rfl
    rw [chosen]
    rfl

end Sys2Proof.Machine
end

section
/-! PROOFS. Chapter 7: targets, travel, arrival and faults of a group, and SHADE_COMMAND (R137 to R145, R149). -/

namespace Sys2Proof.Machine

open Sys2Proof.Safety

set_option Elab.async false

/-! ### Arrival and faults (R137, R141, R143, R144) -/

section

variable {s : State} {seg : Nat} {g : Segment} {active : List Nat}

theorem activeGear_eq (h : GearInOrder s (fun x => x.cfg.role = .shade seg ∧ x.shadeFaulted = false) active) : s.activeGear seg = active :=
  (eq_of_gearInOrder h fun x => by rw [Bool.and_eq_true, inGroup_iff, Bool.not_eq_true']).symm

theorem hasArrived_iff (s : State) (seg i : Nat) : s.hasArrived seg i = true ↔ Arrived s seg i := by
  unfold State.hasArrived Arrived
  rw [Option.any_eq_true]
  refine exists_congr fun x => ?_
  rw [Bool.and_eq_true, Bool.not_eq_true']
  cases ht : (s.segment seg).target with
  | none => simp [nearTarget]
  | some p =>
    cases hq : x.position with
    | none => simp [nearTarget]
    | some q => simp [nearTarget]

theorem moving_eq (h : s.segments[seg]? = some g) : s.moving seg = decide (g.state = .moving) := by
  rw [State.moving, State.shadeState, segment_of_get h]

theorem enterSettling_eq (h : s.segments[seg]? = some g) : s.enterSettling seg
    = if g.settleInForce = 0 then State.setShadeHolds seg false (withSegment seg (timersStopped .idle g) s)
      else withSegment seg { timersStopped .settling g with settle := some { start := s.tick, len := g.settleInForce * 1000 } } s := by
  have there := get_withSegment h
    { timersStopped .settling g with settle := some { start := s.tick, len := g.settleInForce * 1000 } }
  unfold State.enterSettling
  rw [modSegment_of_get h]
  simp only [segment_of_get (get_withSegment h _)]
  by_cases hz : g.settleInForce = 0
  · rw [if_pos hz, if_pos hz, endSettle_eq (get_withSegment h _), withSegment_withSegment]
    rfl
  · rw [if_neg hz, if_neg hz]
    rfl

theorem state_enterSettling (h : s.segments[seg]? = some g) :
    ((s.enterSettling seg).segment seg).state = if g.settleInForce = 0 then .idle else .settling := by
  rw [enterSettling_eq h]
  by_cases hz : g.settleInForce = 0
  · rw [if_pos hz, if_pos hz]
    have kept := get_of_moves (Moves.setShadeHolds le_rfl _ seg false) (get_withSegment h (timersStopped .idle g))
    rw [segment_of_get kept]
    rfl
  · rw [if_neg hz, if_neg hz, segment_withSegment h]
    rfl

theorem arrivalTest_eq (h : s.segments[seg]? = some g) (ha : s.activeGear seg = active) : s.arrivalTest seg
    = if g.state = .moving ∧ active ≠ [] ∧ active.all (s.hasArrived seg) = true then s.enterSettling seg else s := by
  unfold State.arrivalTest
  simp only [ha, moving_eq h, Bool.and_eq_true, decide_eq_true_eq, Bool.not_eq_true', and_assoc, List.isEmpty_eq_false_iff]

theorem endTravel_eq (h : s.segments[seg]? = some g) (st : ShadeState) :
    s.endTravel seg st = State.setShadeHolds seg false (withSegment seg (timersStopped st g) s) := by
  rw [State.endTravel, modSegment_of_get h]
  rfl

theorem faultTest_eq {group : List Nat} (h : s.segments[seg]? = some g) (ha : s.activeGear seg = active)
    (hg : s.groupGear seg = group) : s.faultTest seg
      = if group ≠ [] ∧ active = [] ∧ g.state ≠ .faulted then
          State.setShadeHolds seg false (withSegment seg (timersStopped .faulted g) s)
        else s := by
  rw [State.faultTest, ha, hg, endTravel_eq h, State.shadeState, segment_of_get h]
  simp only [Bool.and_eq_true, decide_eq_true_eq, Bool.not_eq_true', and_assoc, List.isEmpty_eq_false_iff, List.isEmpty_iff]

theorem gearLeftGroup_eq {group : List Nat} (h : s.segments[seg]? = some g) (hg : s.groupGear seg = group) : s.gearLeftGroup seg
    = if group = [] then State.setShadeHolds seg false (withSegment seg (timersStopped .idle g) s)
      else State.arrivalTest seg (State.faultTest seg s) := by
  rw [State.gearLeftGroup, hg, endTravel_eq h]
  simp only [List.isEmpty_iff]

end

theorem setShadeHolds_eq {s : State} {seg : Nat} {zones : List Nat} (held : Bool) (hsorted : zones.Pairwise (· < ·))
    (hmem : ∀ z, z ∈ zones ↔ ∃ x, s.zone z = some x ∧ x.cfg.segment = seg) :
    s.setShadeHolds seg held = zones.foldl (fun u z => match u.zone z with
      | some x => if x.holdShade = held then u
        else State.resolve z { u with zones := u.zones.set z (some { x with holdShade := held }) }
      | none => u) s := by
  have listed : s.zonesWhere (fun x => decide (x.cfg.segment = seg)) = zones :=
    (eq_of_zonesInOrder ⟨hsorted, hmem⟩ fun x => decide_eq_true_iff).symm
  rw [State.setShadeHolds, listed, forEach]
  refine congrArg (fun f => zones.foldl f s) (funext fun u => funext fun z => ?_)
  cases h : u.zone z with
  | none => exact setShadeHold_of_none h held
  | some x => exact setShadeHold_of_zone h held

/-! ### Travel (R139, R140) -/

/-- The counts of a list's gear at 0, and with `retries` their retries too (R139, R140). -/
def zeroedGear (active : List Nat) (retries : Bool) (t : List (Option Gear)) : List (Option Gear) :=
  t.mapIdx fun i o => if i ∈ active then o.map fun h => { h with unchanged := 0, retriesUsed := if retries then 0 else h.retriesUsed } else o

/-- The record of a group whose travel starts (R140). -/
def travelStarted (s : State) (g : Segment) : Segment := { g with
  state := .moving, settle := none, travelTimeoutInForce := g.cfg.travelTimeout, settleInForce := g.cfg.settle
  retryLimitInForce := g.cfg.retryLimit, travel := some { start := s.tick, len := g.cfg.travelTimeout * 1000 }
  query := some { start := s.tick, len := s.shadeQuery * 1000 } }

section

variable {s : State} {seg : Nat} {g : Segment} {active : List Nat}

theorem activeGear_of_gearCore {t : State} (h : t.gear.map (Option.map gearCore) = s.gear.map (Option.map gearCore)) :
    t.activeGear seg = s.activeGear seg := gearWhere_of_gearCore h fun _ => rfl

theorem forEach_zeroed (ha : s.activeGear seg = active) (retries : Bool) (u : State) :
    forEach active (fun i s => s.modGear i fun g => { g with unchanged := 0, retriesUsed := if retries then 0 else g.retriesUsed }) u
      = { u with gear := zeroedGear active retries u.gear } := by
  have nodup : active.Nodup := ha ▸ List.nodup_range.filter _
  rw [forEach_modGear, foldl_modify_mapIdx nodup]
  rfl

/-- Counts do not make a gear active, nor do they take it away. -/
theorem activeGear_zeroed (active : List Nat) (retries : Bool) (s : State) :
    State.activeGear { s with gear := zeroedGear active retries s.gear } seg = s.activeGear seg := by
  have size : (zeroedGear active retries s.gear).length = s.gear.length := by simp [zeroedGear]
  have same (i : Nat) : (entryAt (zeroedGear active retries s.gear) i).any (fun g => g.inGroup seg && !g.shadeFaulted)
      = (s.gearAt i).any fun g => g.inGroup seg && !g.shadeFaulted := by
    rw [entryAt, zeroedGear, List.getElem?_mapIdx, State.gearAt, entryAt]
    rcases s.gear[i]? with _ | o
    · rfl
    · by_cases hi : i ∈ active
      · simp only [Option.map_some, if_pos hi]
        cases o <;> rfl
      · simp only [Option.map_some, if_neg hi]
  simp only [State.activeGear, State.gearWhere, size]
  exact congrArg _ (funext same)

theorem position_zeroed (active : List Nat) (retries : Bool) (t : List (Option Gear)) (i : Nat) :
    (entryAt (zeroedGear active retries t) i).map Gear.position = (entryAt t i).map Gear.position := by
  rw [entryAt, zeroedGear, List.getElem?_mapIdx, entryAt]
  rcases t[i]? with _ | o
  · rfl
  · by_cases hi : i ∈ active
    · simp only [Option.map_some, if_pos hi]
      cases o <;> rfl
    · simp only [Option.map_some, if_neg hi]

theorem sendTarget_eq (h : s.segments[seg]? = some g) (ha : s.activeGear seg = active) : s.sendTarget seg = sendingTarget g.target active s := by
  rw [State.sendTarget, ha, forEach_offerGoto h]

theorem moves_sendingTarget {n : Nat} (target : Option Nat) (l : List Nat) (s : State) : Moves n s (sendingTarget target l s) := by
  cases target with
  | none => exact .refl s
  | some p => exact moves_sending ..

theorem startTravel_eq (h : s.segments[seg]? = some g) (ha : s.activeGear seg = active) : s.startTravel seg
    = State.arrivalTest seg ((State.setShadeHolds seg true (sendingTarget g.target active
        { withSegment seg (travelStarted s g) s with gear := zeroedGear active true s.gear })).countBy (.moves seg) 1) := by
  have there := get_withSegment h (travelStarted s g)
  have first : s.modSegment seg (fun g => { g with
      state := .moving
      travelTimeoutInForce := g.cfg.travelTimeout
      settleInForce := g.cfg.settle
      retryLimitInForce := g.cfg.retryLimit
      settle := none
      travel := some (s.startTimer (g.cfg.travelTimeout * 1000))
      query := some (s.startTimer (s.shadeQuery * 1000)) }) = withSegment seg (travelStarted s g) s := modSegment_of_get h _
  have acts : State.activeGear (withSegment seg (travelStarted s g) s) seg = active := ha
  have zeroes := forEach_zeroed ha true (withSegment seg (travelStarted s g) s)
  simp only [if_true] at zeroes
  unfold State.startTravel
  simp only [first, acts, zeroes]
  rw [sendTarget_eq (s := { withSegment seg (travelStarted s g) s with
    gear := zeroedGear active true (withSegment seg (travelStarted s g) s).gear }) there ((activeGear_zeroed ..).trans acts)]
  rfl

theorem redirect_eq (h : s.segments[seg]? = some g) (ha : s.activeGear seg = active) : s.redirect seg
    = State.arrivalTest seg { sendingTarget g.target active s with
        gear := zeroedGear active false (sendingTarget g.target active s).gear
        segments := s.segments.set seg { g with travel := some { start := s.tick, len := g.travelTimeoutInForce * 1000 } } } := by
  have sent : Moves 0 s (sendingTarget g.target active s) := moves_sendingTarget ..
  have acts : State.activeGear (sendingTarget g.target active s) seg = active :=
    (activeGear_of_gearCore (sent.gearCore_eq (by omega))).trans ha
  have zeroes := forEach_zeroed acts false (sendingTarget g.target active s)
  simp only [Bool.false_eq_true, if_false] at zeroes
  have there : (State.segments { sendingTarget g.target active s with
      gear := zeroedGear active false (sendingTarget g.target active s).gear })[seg]? = some g :=
    get_of_moves (s := s) (t := sendingTarget g.target active s) (sent.mono (by omega)) h
  unfold State.redirect
  simp only [sendTarget_eq h ha, acts, zeroes]
  rw [modSegment_of_get there]
  refine congrArg (State.arrivalTest seg) ?_
  rw [withSegment, State.startTimer]
  simp only [sent.segments_eq (by omega), sent.tick]

theorem setTarget_eq (h : s.segments[seg]? = some g) (ha : s.activeGear seg = active) (p : Nat) : s.setTarget seg p
    = match g.state with
      | .idle => if active.any (fun i => (s.gearAt i).any fun h => decide (h.position ≠ some p)) then
          State.startTravel seg (withSegment seg { g with target := some p } s) else withSegment seg { g with target := some p } s
      | .moving => State.redirect seg (withSegment seg { g with target := some p } s)
      | .settling => if active.any (fun i => !(withSegment seg { g with target := some p } s).hasArrived seg i) then
          State.startTravel seg (withSegment seg { g with target := some p } s) else withSegment seg { g with target := some p } s
      | .faulted => withSegment seg { g with target := some p } s := by
  have there := segment_withSegment h { g with target := some p }
  have acts : State.activeGear (withSegment seg { g with target := some p } s) seg = active := ha
  have away (i : Nat) : State.awayFromTarget seg i (withSegment seg { g with target := some p } s)
      = (s.gearAt i).any fun h => decide (h.position ≠ some p) := by
    rw [State.awayFromTarget, there]
    refine congrArg (fun q => Option.any q (s.gearAt i)) (funext fun x => ?_)
    cases x.position <;> simp
  unfold State.setTarget
  simp only [modSegment_of_get h, State.shadeState, there, acts, away] <;> (cases g.state <;> rfl)

end

section

variable {s : State} {seg : Nat} {g : Segment} {active : List Nat}

theorem setTarget_faulted (h : s.segments[seg]? = some g) (hs : g.state = .faulted) (p : Nat) :
    s.setTarget seg p = withSegment seg { g with target := some p } s := by
  rw [setTarget_eq h rfl, hs]

theorem setTarget_idle (h : s.segments[seg]? = some g) (ha : s.activeGear seg = active) (hs : g.state = .idle) (p : Nat) :
    s.setTarget seg p = if active.any (fun i => (s.gearAt i).any fun h => decide (h.position ≠ some p)) then
      State.startTravel seg (withSegment seg { g with target := some p } s) else withSegment seg { g with target := some p } s := by
  rw [setTarget_eq h ha, hs]

end

/-! ### What a travel keeps of the group's record (R139 to R145, R149) -/

/-- A group's record without what its travel changes. -/
def travelCore (g : Segment) : Segment := { g with
  state := .idle, travel := none, query := none, settle := none, travelTimeoutInForce := 0, settleInForce := 0, retryLimitInForce := 0 }

theorem eq_of_travelCore {x y : Segment} (h : travelCore x = travelCore y) :
    x.manual = y.manual ∧ x.manualExpiry = y.manualExpiry ∧ x.target = y.target ∧ x.glareStart = y.glareStart := by
  simp only [travelCore, Segment.mk.injEq] at h
  obtain ⟨_, manual, expiry, _, target, _, start, _⟩ := h
  exact ⟨manual, expiry, target, start⟩

/-- The groups' records change in what belongs to their travel alone. -/
structure Travels (s t : State) : Prop where
  kept : ∀ seg, travelCore (t.segment seg) = travelCore (s.segment seg)

namespace Travels

variable {s t u : State} {seg : Nat}

theorem refl (s : State) : Travels s s := ⟨fun _ => rfl⟩

theorem trans (h : Travels s t) (k : Travels t u) : Travels s u := ⟨fun seg => (k.kept seg).trans (h.kept seg)⟩

theorem of_segments (h : t.segments = s.segments) : Travels s t := ⟨fun seg => by rw [State.segment, h]; rfl⟩

theorem of_moves (m : Moves 1 s t) : Travels s t := of_segments (m.segments_eq (by omega))

theorem modSegment (s : State) (seg : Nat) (f : Segment → Segment) (h : ∀ g, travelCore (f g) = travelCore g := by intro _; rfl) :
    Travels s (s.modSegment seg f) := ⟨fun k => by
  rw [State.segment_modSegment]
  split
  · exact h _
  · rfl⟩

theorem zeroing (l : List Nat) (f : Gear → Gear) (s : State) : Travels s (forEach l (fun i s => s.modGear i f) s) :=
  of_segments (by rw [forEach_modGear])

theorem ite {c : Prop} [Decidable c] (ht : c → Travels s t) (hf : ¬ c → Travels s u) : Travels s (if c then t else u) := by
  split
  · next h => exact ht h
  · next h => exact hf h

theorem enterSettling (s : State) (seg : Nat) : Travels s (s.enterSettling seg) := by
  unfold State.enterSettling State.endSettle
  refine (modSegment ..).trans (ite (fun _ => ?_) fun _ => refl _)
  exact (modSegment ..).trans (of_moves (Moves.setShadeHolds le_rfl ..))

theorem arrivalTest (s : State) (seg : Nat) : Travels s (s.arrivalTest seg) := by
  unfold State.arrivalTest
  exact ite (fun _ => enterSettling ..) fun _ => refl s

theorem startTravel (s : State) (seg : Nat) : Travels s (s.startTravel seg) := by
  unfold State.startTravel
  exact (modSegment ..).trans ((zeroing ..).trans ((of_moves (Moves.sendTarget ..)).trans
    ((of_moves (Moves.setShadeHolds le_rfl ..)).trans ((of_segments (State.count_segments ..)).trans (arrivalTest ..)))))

theorem redirect (s : State) (seg : Nat) : Travels s (s.redirect seg) := by
  unfold State.redirect
  exact (of_moves (Moves.sendTarget ..)).trans ((zeroing ..).trans ((modSegment ..).trans (arrivalTest ..)))

end Travels

/-- A group with a new target, or without one, keeps the rest of its record but for its travel (R139). -/
theorem travels_setTarget {s : State} {seg : Nat} {g : Segment} (h : s.segments[seg]? = some g) (p : Nat) :
    Travels (withSegment seg { g with target := some p } s) (s.setTarget seg p) := by
  rw [setTarget_eq h rfl]
  cases g.state
  · exact .ite (fun _ => .startTravel ..) fun _ => .refl _
  · exact .redirect ..
  · exact .ite (fun _ => .startTravel ..) fun _ => .refl _
  · exact .refl _

/-! ### A travel from a position that is not known (R139, R140) -/

/-- A group with an active gear of unknown position goes to MOVING, and does not arrive at once (R140, R141). -/
theorem startTravel_moves {s : State} {seg : Nat} {g : Segment} (h : s.segments[seg]? = some g)
    (unknown : ∃ i ∈ s.activeGear seg, ∃ x, s.gearAt i = some x ∧ x.position = none) :
    ((s.startTravel seg).segment seg) = travelStarted s g ∧ ShadeHeld seg true (s.startTravel seg) := by
  obtain ⟨i, hi, x, hx, hp⟩ := unknown
  rw [startTravel_eq h rfl]
  have begun : State.segments { withSegment seg (travelStarted s g) s with gear := zeroedGear (s.activeGear seg) true s.gear }
      = s.segments.set seg (travelStarted s g) := rfl
  have acts : State.activeGear { withSegment seg (travelStarted s g) s with gear := zeroedGear (s.activeGear seg) true s.gear } seg
      = s.activeGear seg := activeGear_zeroed ..
  have there (j : Nat) : (State.gearAt { withSegment seg (travelStarted s g) s with gear := zeroedGear (s.activeGear seg) true s.gear } j).map
      Gear.position = (s.gearAt j).map Gear.position := position_zeroed ..
  generalize { withSegment seg (travelStarted s g) s with gear := zeroedGear (s.activeGear seg) true s.gear } = u at begun acts there ⊢
  have held := shadeHeld_setShadeHolds (sendingTarget g.target (s.activeGear seg) u) seg true
  have moved : Moves 1 u (State.setShadeHolds seg true (sendingTarget g.target (s.activeGear seg) u)) :=
    (moves_sendingTarget ..).trans (Moves.setShadeHolds le_rfl ..)
  generalize State.setShadeHolds seg true (sendingTarget g.target (s.activeGear seg) u) = v at held moved ⊢
  have record : (v.countBy (.moves seg) 1).segments[seg]? = some (travelStarted s g) := by
    rw [State.countBy_segments, moved.segments_eq (by omega), begun]
    exact get_set_same h _
  have active : (v.countBy (.moves seg) 1).activeGear seg = s.activeGear seg := by
    rw [← acts]
    exact activeGear_of_gearCore ((congrArg _ (State.countBy_gear ..)).trans (moved.gearCore_eq (by omega)))
  have away : ¬ (s.activeGear seg).all ((v.countBy (.moves seg) 1).hasArrived seg) = true := by
    intro all
    obtain ⟨y, p, q, hy, _, _, hq, _⟩ := (hasArrived_iff ..).mp (List.all_eq_true.mp all i hi)
    rw [State.gearAt, State.countBy_gear] at hy
    have kept := gearAt_of_gearCore (moved.gearCore_eq (by omega)) i
    obtain ⟨z, hz, same⟩ := Option.map_eq_some_iff.mp (kept.symm.trans (congrArg _ hy))
    have known := there i
    rw [hz, hx, Option.map_some, Option.map_some, hp, Option.some.injEq] at known
    have position : z.position = y.position :=
      show (gearCore z).position = (gearCore y).position from congrArg Gear.position same
    rw [← position, known] at hq
    cases hq
  rw [arrivalTest_eq record active, if_neg fun c => away c.2.2]
  refine ⟨segment_of_get record, fun z y hy => held z y ?_⟩
  rwa [State.zone, State.countBy_zones] at hy

/-! ### SHADE_COMMAND (R149) -/

/-- A group's record as it becomes MANUAL (R149). -/
def manualFor (s : State) (duration : Nat) (g : Segment) : Segment := { g with
  glareStart := none, manual := true
  manualExpiry := if duration = 0 then none else some (s.tick + BitVec.ofNat 32 (duration * 60000)) }

theorem takeManual_eq {s : State} {seg : Nat} {g : Segment} (h : s.segments[seg]? = some g) (duration : Nat) :
    s.takeManual seg duration = withSegment seg (manualFor s duration g) s := modSegment_of_get h _

theorem stopShades_eq {s : State} {seg : Nat} {g : Segment} {active : List Nat} (h : s.segments[seg]? = some g)
    (ha : s.activeGear seg = active) : s.stopShades seg
      = if g.state = .moving then State.enterSettling seg (active.foldl (sending .shadeStop 0) (withSegment seg { g with target := none } s))
        else active.foldl (sending .shadeStop 0) (withSegment seg { g with target := none } s) := by
  have acts : State.activeGear (withSegment seg { g with target := none } s) seg = active := ha
  have there : (active.foldl (sending .shadeStop 0) (withSegment seg { g with target := none } s)).segments[seg]?
      = some { g with target := none } := get_of_moves (moves_sending ..) (get_withSegment h _)
  unfold State.stopShades
  simp only [modSegment_of_get h, acts, forEach_offerShade, moving_eq there, decide_eq_true_eq]

/-- The answer to an accepted SHADE_COMMAND (R149). -/
theorem exec_shadeCommand {s : State} {seg position duration : Nat} {tag : Byte} (hr : s.running = true) (hs : s.sweeping = false)
    (hseg : seg < 16) (hp : position ≤ 100) (hd : duration ≤ 1440) (a : ShadeAction) :
    exec (match a with
      | .goto => .shadeCommandGoto tag seg position duration
      | .stop => .shadeCommandStop tag seg position duration
      | .auto => .shadeCommandAuto tag seg position duration) s
      = .next (answered .shadeCommand tag .ok (encShadeHead ((s.shadeAct seg a position duration).segment seg))
          (s.shadeAct seg a position duration)) := by
  have inside : (decide (seg < Config.nSegments) && (some a).isSome && decide (position ≤ 100) && decide (duration ≤ 1440)) = true := by
    simp only [Option.isSome_some, Bool.and_true, Bool.and_eq_true, decide_eq_true_eq]
    exact ⟨⟨hseg, hp⟩, hd⟩
  cases a <;> exact exec_of_passes_ok (k := .shadeCommand) hr rfl rfl (passes_cons (by rw [hs]; rfl) (passes_cons inside passes_nil))

/-- A reading where no delay was changed (R146). -/
theorem windowReading_unchanged {s : State} {seg : Nat} {g : Segment} (h : s.segments[seg]? = some g)
    (fresh : g.glareStart = none ∨ g.glareLen = g.delay) (w : Nat) : s.windowReading seg w
      = if g.manual = true ∨ s.sweeping = true then s else withSegment seg (glareTested s.tick w g) s := by
  have same : s.applyDelay seg = s := by
    unfold State.applyDelay
    simp only [segment_of_get h]
    rcases fresh with hstart | hd
    · simp only [hstart]
    · cases g.glareStart with
      | none => rfl
      | some t => exact if_pos hd
  have tests : Segment.testGlare s.tick w = glareTested s.tick w := funext (testGlare_eq s.tick w)
  rw [State.windowReading, same, segment_of_get h, tests, modSegment_of_get h]
  simp only [Bool.or_eq_true]

/-! #### The three actions -/

section

variable {s : State} {seg : Nat} {g : Segment} {active : List Nat} {tag : Byte} {position duration : Nat}

theorem goto_acts (h : s.segments[seg]? = some g) (ha : s.activeGear seg = active) (hr : s.running = true) (hs : s.sweeping = false)
    (hseg : seg < 16) (hp : position ≤ 100) (hd : duration ≤ 1440) :
    ∃ t, exec (.shadeCommandGoto tag seg position duration) s
        = .next (answered .shadeCommand tag .ok (encShadeHead (t.segment seg)) t)
      ∧ t = State.setTarget seg position (withSegment seg (manualFor s duration g) s)
      ∧ ShadesMoved s t ∧ (t.segment seg).manual = true ∧ (t.segment seg).manualExpiry = (manualFor s duration g).manualExpiry
      ∧ (t.segment seg).target = some position ∧ (t.segment seg).glareStart = none
      ∧ (g.state = .faulted ∨ (g.state = .idle ∧ ∀ i ∈ active, ∀ h, s.gearAt i = some h → h.position = some position) →
        t = withSegment seg { manualFor s duration g with target := some position } s)
      ∧ (g.state = .idle → (∃ i ∈ active, ∃ h, s.gearAt i = some h ∧ h.position = none) →
        (t.segment seg).state = .moving ∧ ShadeHeld seg true t
          ∧ (t.segment seg).travel = some { start := s.tick, len := g.cfg.travelTimeout * 1000 }
          ∧ (t.segment seg).query = some { start := s.tick, len := s.shadeQuery * 1000 }) := by
  have manual := get_withSegment h (manualFor s duration g)
  have acts : State.activeGear (withSegment seg (manualFor s duration g) s) seg = active := ha
  have taken : s.shadeAct seg .goto position duration = State.setTarget seg position (withSegment seg (manualFor s duration g) s) :=
    congrArg (State.setTarget seg position) (takeManual_eq h duration)
  have answer := exec_shadeCommand (tag := tag) hr hs hseg hp hd .goto
  rw [taken] at answer
  have moves : Moves 2 s (State.setTarget seg position (withSegment seg (manualFor s duration g) s)) :=
    (moves_withSegment h (k := manualFor s duration g) rfl).trans (Moves.setTarget le_rfl ..)
  have core := (travels_setTarget manual position).kept seg
  rw [segment_withSegment manual] at core
  obtain ⟨manual_kept, expiry_kept, target_kept, start_kept⟩ := eq_of_travelCore core
  refine ⟨_, answer, rfl, shadesMoved_of_moves moves, manual_kept, expiry_kept, target_kept, start_kept, fun still => ?_, fun hidle unknown => ?_⟩
  · have same : withSegment seg { manualFor s duration g with target := some position } (withSegment seg (manualFor s duration g) s)
        = withSegment seg { manualFor s duration g with target := some position } s := withSegment_withSegment ..
    rcases still with hf | ⟨hi, hall⟩
    · exact (setTarget_faulted manual hf position).trans same
    · refine ((setTarget_idle manual acts hi position).trans (if_neg fun away => ?_)).trans same
      obtain ⟨i, him, there⟩ := List.any_eq_true.mp away
      obtain ⟨x, hx, differs⟩ := (Option.any_eq_true _ _).mp there
      exact of_decide_eq_true differs (hall i him x hx)
  · obtain ⟨i, him, x, hx, hpos⟩ := unknown
    have away : active.any (fun i => (State.gearAt (withSegment seg (manualFor s duration g) s) i).any
        fun h => decide (h.position ≠ some position)) = true :=
      List.any_eq_true.mpr ⟨i, him, (Option.any_eq_true _ _).mpr ⟨x, hx, by rw [hpos]; rfl⟩⟩
    have starts : State.setTarget seg position (withSegment seg (manualFor s duration g) s)
        = State.startTravel seg (withSegment seg { manualFor s duration g with target := some position } s) :=
      ((setTarget_idle manual acts hidle position).trans (if_pos away)).trans (congrArg _ (withSegment_withSegment ..))
    have aimed := get_withSegment h { manualFor s duration g with target := some position }
    have active_there : State.activeGear (withSegment seg { manualFor s duration g with target := some position } s) seg = active := ha
    obtain ⟨record, held⟩ := startTravel_moves aimed ⟨i, active_there ▸ him, x, hx, hpos⟩
    rw [starts, record]
    exact ⟨rfl, held, rfl, rfl⟩

theorem stop_acts (h : s.segments[seg]? = some g) (ha : s.activeGear seg = active) (hr : s.running = true) (hs : s.sweeping = false)
    (hseg : seg < 16) (hp : position ≤ 100) (hd : duration ≤ 1440) :
    ∃ t, exec (.shadeCommandStop tag seg position duration) s
        = .next (answered .shadeCommand tag .ok (encShadeHead (t.segment seg)) t)
      ∧ (let u := active.foldl (sending .shadeStop 0) (withSegment seg { manualFor s duration g with target := none } s)
        t = if g.state = .moving then State.enterSettling seg u else u)
      ∧ ShadesMoved s t ∧ (t.segment seg).target = none ∧ (t.segment seg).manual = true
      ∧ (t.segment seg).manualExpiry = (manualFor s duration g).manualExpiry
      ∧ (t.segment seg).state = (if g.state = .moving then (if g.settleInForce = 0 then .idle else .settling) else g.state) := by
  have manual := get_withSegment h (manualFor s duration g)
  have acts : State.activeGear (withSegment seg (manualFor s duration g) s) seg = active := ha
  have stopped : s.shadeAct seg .stop position duration = if g.state = .moving then
        State.enterSettling seg (active.foldl (sending .shadeStop 0) (withSegment seg { manualFor s duration g with target := none } s))
      else active.foldl (sending .shadeStop 0) (withSegment seg { manualFor s duration g with target := none } s) := by
    refine (congrArg (State.stopShades seg) (takeManual_eq h duration)).trans ?_
    rw [stopShades_eq manual acts, withSegment_withSegment]
    rfl
  have answer := exec_shadeCommand (tag := tag) hr hs hseg hp hd .stop
  have sent : Moves 1 (withSegment seg { manualFor s duration g with target := none } s)
      (active.foldl (sending .shadeStop 0) (withSegment seg { manualFor s duration g with target := none } s)) := moves_sending ..
  have first : Moves 2 s (withSegment seg { manualFor s duration g with target := none } s) := moves_withSegment h rfl
  have there := get_of_moves sent (get_withSegment h _)
  rw [stopped] at answer
  generalize active.foldl (sending .shadeStop 0) (withSegment seg { manualFor s duration g with target := none } s) = u
    at answer sent there ⊢
  refine ⟨_, answer, rfl, shadesMoved_of_moves (first.trans ((sent.mono (by omega)).trans
    (.ite (fun _ => Moves.enterSettling le_rfl ..) fun _ => .refl _))), ?_⟩
  by_cases hm : g.state = .moving
  · have core := (Travels.enterSettling u seg).kept seg
    rw [segment_of_get there] at core
    obtain ⟨manual_kept, expiry_kept, target_kept, _⟩ := eq_of_travelCore core
    rw [if_pos hm, if_pos hm]
    exact ⟨target_kept, manual_kept, expiry_kept, (state_enterSettling there).trans rfl⟩
  · rw [if_neg hm, if_neg hm, segment_of_get there]
    exact ⟨rfl, rfl, rfl, rfl⟩

theorem auto_acts (h : s.segments[seg]? = some g) (hr : s.running = true) (hs : s.sweeping = false)
    (hseg : seg < 16) (hp : position ≤ 100) (hd : duration ≤ 1440) :
    (g.manual = false → exec (.shadeCommandAuto tag seg position duration) s
        = .next (answered .shadeCommand tag .ok (encShadeHead g) s))
      ∧ (g.manual = true → ∃ t, exec (.shadeCommandAuto tag seg position duration) s
          = .next (answered .shadeCommand tag .ok (encShadeHead (t.segment seg)) t)
        ∧ t = State.recomputeGlare seg (withSegment seg (inAuto g) s)
        ∧ t = withSegment seg (t.segment seg) s
        ∧ (t.segment seg).manual = false ∧ (t.segment seg).manualExpiry = none
        ∧ (t.segment seg).target = g.target ∧ (t.segment seg).state = g.state) := by
  have answer := exec_shadeCommand (tag := tag) hr hs hseg hp hd .auto
  refine ⟨fun hm => ?_, fun hm => ?_⟩
  · have stays : s.shadeAct seg .auto position duration = s := if_neg (by rw [segment_of_get h, hm]; decide)
    rw [stays, segment_of_get h] at answer
    exact answer
  · have acts : s.shadeAct seg .auto position duration = State.recomputeGlare seg (withSegment seg (inAuto g) s) := by
      refine (if_pos (by rw [segment_of_get h, hm])).trans ?_
      rw [returnToAuto_eq h, hs]
      rfl
    have again : State.recomputeGlare seg (withSegment seg (inAuto g) s)
        = withSegment seg (recomputed (withSegment seg (inAuto g) s) (inAuto g)) s :=
      (recomputeGlare_eq (get_withSegment h (inAuto g))).trans (withSegment_withSegment ..)
    have record := segment_withSegment h (recomputed (withSegment seg (inAuto g) s) (inAuto g))
    rw [← again] at record
    obtain ⟨p, start, len, e⟩ := recomputed_rest (withSegment seg (inAuto g) s) (inAuto g)
    rw [acts] at answer
    refine ⟨_, answer, rfl, by rw [record, again], ?_⟩
    rw [record, e]
    exact ⟨rfl, rfl, rfl, rfl⟩

end

/-- Settles O51: SHADE_COMMAND by its action, and the shade logic's functions by their equations. -/
theorem shadeCommandsMoveTheGroup : Obligations.ShadeCommandsMoveTheGroup := by
  intro seg s g active h hactive stored zeroed
  have ha : s.activeGear seg = active := activeGear_eq hactive
  refine ⟨fun tag position duration hr hs hseg hp hd => ?commands, setTarget_eq h ha, startTravel_eq h ha, redirect_eq h ha,
    hasArrived_iff s seg, arrivalTest_eq h ha, enterSettling_eq h, fun group hg => ?group, fun late => faultAndTest_eq seg late s,
    fun held zones hsorted hmem => setShadeHolds_eq held hsorted hmem, fun w => testGlare_eq .., fun fresh w => ?reading, recomputeGlare_eq h⟩
  case group =>
    have group_eq : s.groupGear seg = group := (eq_of_gearInOrder hg fun _ => inGroup_iff).symm
    exact ⟨faultTest_eq h ha group_eq, gearLeftGroup_eq h group_eq⟩
  case reading => exact windowReading_unchanged h fresh w
  case commands => exact ⟨goto_acts h ha hr hs hseg hp hd, stop_acts h ha hr hs hseg hp hd, auto_acts h hr hs hseg hp hd⟩

end Sys2Proof.Machine
end

section
/-! PROOFS. Chapter 6: failed attempts (R121 to R123, R143), and valid answers (R122, R124, R127, R134, R141, R142). -/

namespace Sys2Proof.Machine

open Sys2Proof.Safety

set_option Elab.async false

/-! ### Failed attempts (R117, R123) -/

/-- The state with the queue of a line replaced. -/
def withQueue (l : Nat) (x : GearLine) (q : List Entry) (s : State) : State :=
  { s with gearLines := s.gearLines.set l { x with queue := q } }

section

variable {s : State} {l : Nat} {x : GearLine} {e : Entry} {rest : List Entry}

theorem popHead_eq (h : s.gearLines[l]? = some x) (hq : x.queue = e :: rest) : s.popHead l = withQueue l x rest s := by
  rw [State.popHead, modGearLine_of_get h, hq]
  rfl

theorem attemptFailed_eq (x : GearLine) (e : Entry) (rest : List Entry) : attemptFailed x e rest
    = if e.orphan || rest.any (Entry.sameSlot e.target e.cmd.cls) then .leaves
      else if e.attempts + 1 < x.attemptLimit then .waits else .exhausted := rfl

theorem failHead_leaves (h : s.gearLines[l]? = some x) (hq : x.queue = e :: rest) (hf : attemptFailed x e rest = .leaves) :
    s.failHead l e = withQueue l x rest s := by
  have superseded : (e.orphan || rest.any (Entry.sameSlot e.target e.cmd.cls)) = true := by
    by_contra hn
    rw [attemptFailed_eq, if_neg hn] at hf
    split at hf <;> cases hf
  unfold State.failHead
  simp only [gearLine_of_get h, hq, List.tail_cons, superseded, if_true, popHead_eq h hq]

theorem not_superseded (hf : attemptFailed x e rest ≠ .leaves) : (e.orphan || rest.any (Entry.sameSlot e.target e.cmd.cls)) = false := by
  by_contra hn
  exact hf (if_pos (Bool.eq_true_of_not_eq_false hn))

theorem failHead_waits (h : s.gearLines[l]? = some x) (hq : x.queue = e :: rest) (hf : attemptFailed x e rest = .waits) :
    s.failHead l e = withQueue l x ({ e with attempts := e.attempts + 1, attempting := false } :: rest) s := by
  have alone := not_superseded (x := x) (e := e) (rest := rest) (by rw [hf]; decide)
  have again : e.attempts + 1 < x.attemptLimit := by
    by_contra hn
    rw [attemptFailed_eq, alone, if_neg Bool.false_ne_true, if_neg hn] at hf
    cases hf
  unfold State.failHead
  simp only [gearLine_of_get h, hq, List.tail_cons, alone, Bool.false_eq_true, if_false, again, if_true]
  rw [State.modHead, modGearLine_of_get h, hq]
  rfl

theorem failHead_exhausted {i : Nat} (h : s.gearLines[l]? = some x) (hq : x.queue = e :: rest) (ht : e.target = .gear i)
    (hf : attemptFailed x e rest = .exhausted) : s.failHead l e = State.goSilent i (withQueue l x rest s) := by
  have alone := not_superseded (x := x) (e := e) (rest := rest) (by rw [hf]; decide)
  have done : ¬ e.attempts + 1 < x.attemptLimit := by
    intro hn
    rw [attemptFailed_eq, alone, if_neg Bool.false_ne_true, if_pos hn] at hf
    cases hf
  rw [ht] at alone
  unfold State.failHead
  simp only [gearLine_of_get h, hq, List.tail_cons, alone, Bool.false_eq_true, if_false, done, ht, popHead_eq h hq]

end

/-! ### A gear that goes SILENT (R117, R123, R143) -/

/-- The state with a gear SILENT, and its waiting entries gone from its line (R123). -/
def silenced (i : Nat) (g : Gear) (l : Nat) (x : GearLine) (rest : List Entry) (s : State) : State := { s with
  gearLines := s.gearLines.set l { x with queue := rest.filter fun f => decide (f.target ≠ .gear i) }
  gear := s.gear.set i (some { g with state := .silent, dirty := .clear, trimPending := false }) }

section

variable {s : State} {i l : Nat} {g : Gear} {x : GearLine} {rest : List Entry}

theorem goSilent_eq (h : s.gearLines[l]? = some x) (hi : s.gearAt i = some g) (hl : g.cfg.line = l)
    (waits : rest.all (fun f => !f.inFlight) = true) : State.goSilent i (withQueue l x rest s)
      = if g.state = .silent then silenced i g l x rest s
        else State.silentShade i g (State.refreshGearOutput g
          (((silenced i g l x rest s).latch .gearSilent).countBy (.silentEvents l) 1)) := by
  have line : (withQueue l x rest s).gearLines[l]? = some { x with queue := rest } := get_set_same h _
  have kept : rest.filter (fun e => !(!e.inFlight && decide (e.target = .gear i))) = rest.filter fun f => decide (f.target ≠ .gear i) :=
    List.filter_congr fun f hf => by simp [List.all_eq_true.mp waits f hf]
  have dropped : State.dropEntries l (fun e => !e.inFlight && decide (e.target = .gear i)) (withQueue l x rest s)
      = withQueue l x (rest.filter fun f => decide (f.target ≠ .gear i)) s := by
    rw [State.dropEntries, modGearLine_of_get line]
    simp only [withQueue, List.set_set, kept]
  have there : (withQueue l x (rest.filter fun f => decide (f.target ≠ .gear i)) s).gearAt i = some g := hi
  unfold State.goSilent
  simp only [show (withQueue l x rest s).gearAt i = some g from hi, hl, dropped]
  simp only [modGear_of_gear there]
  rfl

theorem silentShade_of_driver {z : Nat} (h : g.cfg.role = .driver z) (s : State) : s.silentShade i g = s := by
  unfold State.silentShade
  rw [h]

theorem silentShade_of_shade {seg : Nat} (h : g.cfg.role = .shade seg) {y : Gear} (hi : s.gearAt i = some y) : s.silentShade i g
    = if (s.segment seg).state = .moving ∧ y.shadeFaulted = false then s.faultAndTest seg [i] else s := by
  have falls : (s.moving seg && (s.gearAt i).any fun g => !g.shadeFaulted) = true
      ↔ (s.segment seg).state = .moving ∧ y.shadeFaulted = false := by
    rw [hi, Option.any_some, Bool.and_eq_true, Bool.not_eq_true', State.moving_iff]
  unfold State.silentShade
  rw [h]
  exact if_congr falls rfl rfl

/-- A gear that uses up its attempts, by its state and its role (R117, R123, R143). -/
theorem goSilent_acts (h : s.gearLines[l]? = some x) (hi : s.gearAt i = some g) (hl : g.cfg.line = l)
    (waits : rest.all (fun f => !f.inFlight) = true) :
    let u := State.goSilent i (withQueue l x rest s)
    let v := silenced i g l x rest s
    if g.state = .silent then u = v
    else
      let w := (v.latch .gearSilent).countBy (.silentEvents l) 1
      match g.cfg.role with
      | .driver z => OutputRecomputed (.driver z) w u ∧ u = { w with zones := u.zones, flags := u.flags }
      | .shade seg => if (s.segment seg).state = .moving ∧ g.shadeFaulted = false then u = w.faultAndTest seg [i] else u = w := by
  intro u v
  have eq := goSilent_eq h hi hl waits
  by_cases hs : g.state = .silent
  · rw [if_pos hs] at eq ⊢
    exact eq
  · rw [if_neg hs] at eq ⊢
    intro w
    cases hrole : g.cfg.role with
    | driver z =>
      rw [silentShade_of_driver hrole] at eq
      obtain ⟨rest_kept, outputs⟩ := outputs_gear g w
      rw [hrole] at outputs
      rw [← eq] at outputs rest_kept
      exact ⟨outputs, rest_kept⟩
    | shade seg =>
      have there : w.gearAt i = some { g with state := .silent, dirty := .clear, trimPending := false } := by
        rw [State.gearAt, State.countBy_gear]
        exact gearAt_set_same hi _
      have group : w.segment seg = s.segment seg := by rw [State.segment, State.countBy_segments]; rfl
      rw [refreshGearOutput_of_shade hrole, silentShade_of_shade hrole there, group] at eq
      by_cases moves : (s.segment seg).state = .moving ∧ g.shadeFaulted = false
      · exact (if_pos moves).mpr (eq.trans (if_pos moves))
      · exact (if_neg moves).mpr (eq.trans (if_neg moves))

end

/-! ### What counts as an answer (R122, R203) -/

theorem reportsPosition_iff (c : GearCmd) : c.reportsPosition = true ↔ c = .shadeStop ∨ c = .shadeQuery ∨ c = .queryStatus := by
  cases c <;> simp [GearCmd.reportsPosition]

theorem reportsValue_iff (c : GearCmd) : c.reportsValue = true ↔ c = .setValue ∨ c = .queryValue ∨ c = .queryStatus := by
  cases c <;> simp [GearCmd.reportsValue]

theorem carriesValue_iff (c : GearCmd) : c.carriesValue = true ↔ c = .setValue ∨ c = .setLossLevel ∨ c = .setGroup ∨ c = .shadeGoto := by
  cases c <;> simp [GearCmd.carriesValue]

theorem isShade_iff (g : Gear) : g.isShade = true ↔ ∃ seg, g.cfg.role = .shade seg := by
  rw [Gear.isShade, Gear.isDriver]
  cases g.cfg.role <;> simp

theorem validAnswer_iff (g : Gear) (c : GearCmd) (data status check : Byte) (stopError : Bool) :
    validAnswer g c data status check stopError = true ↔ stopError = false ∧ check = gearCheck [data, status]
      ∧ ¬ ((∃ seg, g.cfg.role = .shade seg) ∧ c.reportsPosition = true ∧ 100 < data.toNat) := by
  have out : (g.isShade && c.reportsPosition && decide (100 < data.toNat)) = true
      ↔ (∃ seg, g.cfg.role = .shade seg) ∧ c.reportsPosition = true ∧ 100 < data.toNat := by
    rw [Bool.and_eq_true, Bool.and_eq_true, decide_eq_true_eq, isShade_iff, and_assoc]
  rw [validAnswer, Bool.and_eq_true, Bool.and_eq_true, Bool.not_eq_true', beq_iff_eq, Bool.not_eq_true', ← out, Bool.not_eq_true, and_assoc]
  rfl

/-- Without an attempt of a gear's entry under way nothing is answered (R121, R203). -/
theorem attempt_of_none {s : State} {l : Nat} {x : GearLine} (h : s.gearLines[l]? = some x)
    (none : ∀ e, x.queue.head? = some e → e.attempting = true → ∃ k, e.target = .group k) :
    s.inFlight l = Option.none ∨ ∃ e k, s.inFlight l = some e ∧ e.target = .group k := by
  cases hf : s.inFlight l with
  | none => exact .inl rfl
  | some e =>
    rw [State.inFlight, gearLine_of_get h, Option.filter_eq_some_iff] at hf
    obtain ⟨hd, ha⟩ := hf
    obtain ⟨k, hk⟩ := none e hd ha
    exact .inr ⟨e, k, rfl, hk⟩

/-- Settles O49: by the failing event, and by what the attempt leaves of the entry. -/
theorem aFailedAttemptIsRetriedOrSilences : Obligations.AFailedAttemptIsRetriedOrSilences := by
  refine ⟨fun l data status check stopError s x e rest i h hq ha ht hline hwaits => ?fails,
    fun l data status check stopError s x h none => ?idle, fun l first second third h1 h2 h3 low => ?stops⟩
  case fails =>
    intro u bad
    have flight := inFlight_of_head h hq ha
    have lost : s.attemptLost l = State.settledCheck (State.tendLine l u) := by
      unfold State.attemptLost
      simp only [flight, ht, Target.isGroup, Bool.false_eq_true, if_false]
      rfl
    refine ⟨congrArg Host.Outcome.next lost, congrArg Host.Outcome.next lost, fun hbad => congrArg Host.Outcome.next ?_, ?_⟩
    · simp only [flight, ht]
      by_cases ho : e.orphan = true
      · exact if_pos ho
      · refine (if_neg ho).trans ?_
        cases hg : s.gearAt i with
        | none => rfl
        | some g =>
          have invalid : ¬ validAnswer g e.cmd data status check stopError = true := by
            rw [validAnswer_iff]
            rintro ⟨stops, agrees, inside⟩
            rcases hbad with hb | hb | hb | hb | ⟨y, seg, hy, hrole, hover, hcmd⟩
            · rw [stops] at hb; cases hb
            · exact hb agrees
            · exact ho hb
            · rw [hg] at hb; cases hb
            · rw [hg, Option.some.injEq] at hy
              exact inside ⟨⟨seg, hy ▸ hrole⟩, (reportsPosition_iff _).mpr hcmd, hover⟩
          have fails : State.endAttempt l.val i g e data status check stopError s = u := if_neg invalid
          simp only [fails]
          rfl
    · cases hf : attemptFailed x e rest with
      | leaves => exact failHead_leaves h hq hf
      | waits => exact failHead_waits h hq hf
      | exhausted =>
        have silent : u = State.goSilent i (withQueue l x rest s) := failHead_exhausted h hq ht hf
        cases hg : s.gearAt i with
        | none =>
          rw [silent, State.goSilent, show (withQueue l x rest s).gearAt i = none from hg]
          rfl
        | some g =>
          rw [silent]
          exact goSilent_acts h hg (hline g hg) hwaits
  case idle =>
    have lost : s.attemptLost l = s := by
      unfold State.attemptLost
      rcases attempt_of_none h none with hf | ⟨e, k, hf, hk⟩
      · rw [hf]
      · simp only [hf, hk, Target.isGroup, if_true]
    refine ⟨congrArg Host.Outcome.next lost, congrArg Host.Outcome.next lost, congrArg Host.Outcome.next ?_⟩
    rcases attempt_of_none h none with hf | ⟨e, k, hf, hk⟩
    · rw [hf]
    · simp only [hf, hk]
  case stops =>
    refine ⟨characterByte first, characterByte second, characterByte third, (answerCommand_eq_some_iff ..).mpr ⟨?_, ?_⟩⟩
    · simp only [startsLow, h1, h2, h3, Bool.not_false, and_self]
    · have stopped : (stopsLow first || stopsLow second || stopsLow third) = true := by
        simp only [stopsLow]
        rcases low with low | low | low <;> simp only [low, Bool.not_false, Bool.or_true, Bool.true_or]
      rw [stopped]

end Sys2Proof.Machine
end

section
/-! PROOFS. Chapter 6: a valid answer (R117, R118, R122, R124, R127, R134, R141, R142). -/

namespace Sys2Proof.Machine

open Sys2Proof.Safety

set_option Elab.async false

/-! ### The head entry in flight stays (R125, R126) -/

/-- The head entry of a line is `e`. -/
def HeadIs (l : Nat) (e : Entry) (s : State) : Prop := ∃ x rest, s.gearLines[l]? = some x ∧ x.queue = e :: rest

/-- What is the head entry of a line before is its head after. -/
structure HeadStays (l : Nat) (e : Entry) (s t : State) : Prop where
  kept : HeadIs l e s → HeadIs l e t

namespace HeadStays

variable {l : Nat} {e : Entry} {s t u : State}

theorem of_gearLines (h : t.gearLines = s.gearLines) : HeadStays l e s t := ⟨fun ⟨x, rest, hx, hq⟩ => ⟨x, rest, by rw [h, hx], hq⟩⟩

theorem trans (h : HeadStays l e s t) (k : HeadStays l e t u) : HeadStays l e s u := ⟨fun here => k.kept (h.kept here)⟩

theorem modGearLine (s : State) (k : Nat) (f : GearLine → GearLine)
    (h : ∀ x rest, x.queue = e :: rest → ∃ rest', (f x).queue = e :: rest') : HeadStays l e s (s.modGearLine k f) :=
  ⟨fun ⟨x, rest, hx, hq⟩ => by
    by_cases hk : k = l
    · subst hk
      obtain ⟨rest', hq'⟩ := h x rest hq
      rw [modGearLine_of_get hx]
      exact ⟨f x, rest', get_set_same hx _, hq'⟩
    · refine ⟨x, rest, ?_, hq⟩
      rw [State.modGearLine, List.getElem?_modify, hx]
      simp only [if_neg hk]
      rfl⟩

theorem offer (he : e.inFlight = true) (s : State) (k : Nat) (d : Bool) (a : Entry) : HeadStays l e s (s.offer k d a) := by
  have stands : Entry.waits a.target a.cmd.cls e = false := by rw [Entry.waits, he]; rfl
  unfold State.offer
  dsimp only
  split
  · exact of_gearLines rfl
  · split
    · refine (modGearLine s k _ fun x rest hq => ⟨modifyFirst (Entry.waits a.target a.cmd.cls) a.coalesce rest, ?_⟩).trans
        (of_gearLines (gearLines_noteExpected ..))
      simp only [hq, modifyFirst, stands, Bool.false_eq_true, if_false]
    · split
      · refine (modGearLine s k _ fun x rest hq => ⟨rest ++ [a], ?_⟩).trans ((of_gearLines (gearLines_noteExpected ..)).trans
          (modGearLine _ k _ fun x rest hq => ⟨rest, hq⟩))
        simp only [hq, List.cons_append]
      · exact of_gearLines (gearLines_deferred ..)

theorem rule (l : Nat) (he : e.inFlight = true) : OfferRule (HeadStays l e) where
  refl _ := of_gearLines rfl
  trans := trans
  of_gearLines := of_gearLines
  offer := offer he
  dropEntries s k p hp := modGearLine s k _ fun x rest hq => ⟨rest.filter fun f => !p f, by
    have stands : p e = false := by
      by_contra h
      exact absurd (hp e (Bool.eq_true_of_not_eq_false h)) (by rw [he]; decide)
    rw [hq, List.filter_cons, stands]
    rfl⟩
  uncongest s k := modGearLine s k _ fun x rest hq => ⟨rest, hq⟩

end HeadStays

theorem OfferRule.arrivalTest {R : State → State → Prop} (r : OfferRule R) (s : State) (seg : Nat) : R s (s.arrivalTest seg) := by
  unfold State.arrivalTest State.enterSettling State.endSettle
  refine r.ite (fun _ => ?_) fun _ => r.refl s
  refine r.ite (fun _ => ?_) fun _ => r.of_gearLines rfl
  exact r.after (r.setShadeHolds ..) (r.of_gearLines rfl)

/-! ### The end of an attempt by a valid answer (R122, R123, R127) -/

/-- What a valid answer leaves of the entry: a carried value that comes back changed is a mismatch and a failed attempt; any other entry
leaves, but for a setup entry, which goes on to its second stage (R122, R123, R127). -/
def attemptEnded (l : Nat) (e : Entry) (data : Byte) (t : State) : State :=
  if (e.cmd = .setValue ∨ e.cmd = .setLossLevel ∨ e.cmd = .setGroup ∨ e.cmd = .shadeGoto) ∧ data.toNat ≠ e.wireValue then
    State.failHead l e (t.countBy (.mismatches l) 1)
  else { t with gearLines := t.gearLines.modify l fun y => { y with
    queue := if e.cmd = .setLossLevel then
        { e with cmd := .setGroup, attempts := 0, inFlight := true, attempting := false } :: y.queue.tail
      else y.queue.tail } }

theorem succeedHead_eq {l : Nat} {e : Entry} {t : State} (head : e.cmd = .setLossLevel → HeadIs l e t) : t.succeedHead l e
    = { t with gearLines := t.gearLines.modify l fun y => { y with
        queue := if e.cmd = .setLossLevel then
            { e with cmd := .setGroup, attempts := 0, inFlight := true, attempting := false } :: y.queue.tail
          else y.queue.tail } } := by
  by_cases hc : e.cmd = .setLossLevel
  · obtain ⟨x, rest, hx, hq⟩ := head hc
    have advances : t.succeedHead l e = t.modHead l fun e => { e with cmd := .setGroup, attempts := 0, inFlight := true, attempting := false } := by
      unfold State.succeedHead
      rw [hc]
    rw [advances, State.modHead, modGearLine_of_get hx, modify_eq_set_of_get hx, if_pos hc, hq]
    rfl
  · have leaves : t.succeedHead l e = t.popHead l := by
      unfold State.succeedHead
      split
      · next h => exact absurd h hc
      · rfl
    simp only [leaves, if_neg hc]
    rfl

theorem endAttempt_eq {l i : Nat} {g : Gear} {e : Entry} {data status : Byte} {s : State}
    (valid : validAnswer g e.cmd data status (gearCheck [data, status]) false = true)
    (head : e.cmd = .setLossLevel → HeadIs l e (s.takeAnswer l i g e data status)) :
    s.endAttempt l i g e data status (gearCheck [data, status]) false = attemptEnded l e data (s.takeAnswer l i g e data status) := by
  have changed : (e.cmd.carriesValue && decide (data.toNat ≠ e.wireValue)) = true
      ↔ (e.cmd = .setValue ∨ e.cmd = .setLossLevel ∨ e.cmd = .setGroup ∨ e.cmd = .shadeGoto) ∧ data.toNat ≠ e.wireValue := by
    rw [Bool.and_eq_true, carriesValue_iff, decide_eq_true_eq]
  refine (if_pos valid).trans (if_congr changed rfl (succeedHead_eq head))

/-- An answer in the window of a gear's entry, once the record has taken it (R121, R122). -/
theorem exec_gearAnswer {l : Fin 4} {data status check : Byte} {s : State} {x : GearLine} {e : Entry} {rest : List Entry} {i : Nat} {g : Gear}
    (h : s.gearLines[l.val]? = some x) (hq : x.queue = e :: rest) (ha : e.attempting = true) (ho : e.orphan = false)
    (ht : e.target = .gear i) (hi : s.gearAt i = some g) : exec (.gearAnswerReceived l data status check false) s
      = .next (State.settledCheck (State.tendLine l (s.endAttempt l i g e data status check false))) := by
  have flight := inFlight_of_head h hq ha
  refine congrArg Host.Outcome.next ?_
  simp only [flight, ht, ho, Bool.false_eq_true, if_false, hi]
  rfl

/-! ### A gear that answers (R117, R118, R124) -/

/-- The state with a gear PRESENT that has answered, marked for setup where it was SILENT (R117, R124). -/
def answeredMarked (i : Nat) (g : Gear) (s : State) : State :=
  if g.state = .silent then setupMarked i { s with gear := s.gear.set i (some { g with state := .present }) }
  else { s with gear := s.gear.set i (some { g with state := .present }) }

section

variable {s : State} {i l : Nat} {g : Gear}

theorem answering_eq (hi : s.gearAt i = some g) : s.answering i g
    = if g.state = .present then answeredMarked i g s else State.refreshGearOutput g (answeredMarked i g s) := by
  unfold State.answering answeredMarked
  simp only [modGear_of_gear hi, markSetup_eq]

/-- The gear is PRESENT; of the rest of its record only the mark may have changed (R117, R128). -/
theorem gearAt_answeredMarked (hi : s.gearAt i = some g) :
    ∃ d, (answeredMarked i g s).gearAt i = some { g with state := .present, dirty := d } := by
  have there : State.gearAt { s with gear := s.gear.set i (some { g with state := .present }) } i
      = some { g with state := .present } := gearAt_set_same hi _
  unfold answeredMarked
  by_cases hs : g.state = .silent
  · rw [if_pos hs, setupMarked, there]
    dsimp only
    split
    · exact ⟨.setup, gearAt_set_same there _⟩
    · exact ⟨g.dirty, there⟩
  · exact ⟨g.dirty, by rw [if_neg hs, there]⟩

theorem rest_answeredMarked (i : Nat) (g : Gear) (s : State) :
    answeredMarked i g s = { s with gear := (answeredMarked i g s).gear, gearLines := (answeredMarked i g s).gearLines } := by
  unfold answeredMarked
  split
  · unfold setupMarked
    split
    · rfl
    · split <;> rfl
  · rfl

/-- Two changes of an entry that agree on it. -/
theorem modify_congr_of_entryAt {α : Type} {t : List (Option α)} {i : Nat} {x : α} (h : entryAt t i = some x) {f k : α → α} (hf : f x = k x) :
    t.modify i (Option.map f) = t.modify i (Option.map k) := by
  rw [modify_eq_set h, modify_eq_set h, hf]

theorem headIs_answeredMarked {e : Entry} (he : e.inFlight = true) (h : HeadIs l e s) : HeadIs l e (answeredMarked i g s) := by
  have present : HeadStays l e s { s with gear := s.gear.set i (some { g with state := .present }) } := .of_gearLines rfl
  unfold answeredMarked
  split
  · rw [← markSetup_eq]
    refine (present.trans ?_).kept h
    unfold State.markSetup
    split
    · exact .of_gearLines rfl
    · exact (HeadStays.rule l he).ite (fun _ => ((HeadStays.rule l he).modGear ..).trans
        ((HeadStays.rule l he).dropEntries _ _ _ fun f hf => by
          simp only [Bool.and_eq_true, Bool.not_eq_true'] at hf
          obtain ⟨⟨waits, _⟩, _⟩ := hf
          exact waits)) fun _ => .of_gearLines rfl
  · exact present.kept h

end

/-! ### A driver's answer (R124, R134) -/

section

variable {s : State} {i l : Nat} {g : Gear} {e : Entry} {data status : Byte}

/-- A driver's record with its answer (R124). -/
def driverRecord (g : Gear) (e : Entry) (data status : Byte) (h : Gear) : Gear := { h with
  lampFail := status.getLsbD 0
  confirmed := if e.cmd = .setValue ∨ e.cmd = .queryValue ∨ e.cmd = .queryStatus then some data.toNat else g.confirmed }

/-- The state with a driver's answer taken (R124). -/
def driverAnswered (i : Nat) (g : Gear) (e : Entry) (data status : Byte) (u : State) : State :=
  State.latchIf (status.getLsbD 0 && !g.lampFail) .lampFail
    { u with gear := u.gear.modify i (Option.map (driverRecord g e data status)) }

theorem gearAt_driverAnswered {u : State} {h : Gear} (hu : u.gearAt i = some h) :
    (driverAnswered i g e data status u).gearAt i = some (driverRecord g e data status h) := by
  rw [State.gearAt, driverAnswered, State.latchIf_gear, entryAt_modify, if_pos rfl, show entryAt u.gear i = some h from hu]
  rfl

theorem zones_driverAnswered (u : State) : (driverAnswered i g e data status u).zones = u.zones := by
  rw [driverAnswered, State.latchIf_zones]

theorem driverAnswered_eq {u : State} {h : Gear} (hdriver : g.isDriver = true) (hu : u.gearAt i = some h) (hcfg : h.cfg = g.cfg)
    (hconf : h.confirmed = g.confirmed) :
    State.latchIf (g.isDriver && status.getLsbD 0 && !g.lampFail) .lampFail (u.modGear i (Gear.answered e.cmd data status))
      = driverAnswered i g e data status u := by
  have driver : h.isDriver = true := by rw [Gear.isDriver, hcfg]; exact hdriver
  have same : Gear.answered e.cmd data status h = driverRecord g e data status h := by
    rw [Gear.answered, if_pos driver, hconf]
    simp only [reportsValue_iff]
    rfl
  rw [driverAnswered, hdriver, Bool.true_and, State.modGear, modify_congr_of_entryAt hu same]

/-- The entries with a level that stand for a driver of zone `z` on its line (R134). -/
theorem auditApplies_iff {t : State} {k : Gear} {z : Nat} (hrole : k.cfg.role = .driver z) (hl : k.cfg.line = l) :
    t.auditApplies l i k = true ↔ k.expected.isSome = true ∧ k.dirty = .clear
      ∧ ((t.gearLine l).queue.any fun f => !f.orphan && decide (f.cmd.cls = .level) && (decide (f.target = .gear i)
        || ((t.zone z).bind fun y => y.cfg.groups.on l).any fun k => decide (f.target = .group k))) = false := by
  have group : t.setupGroup k = (t.zone z).bind fun y => y.cfg.groups.on l := by rw [State.setupGroup, hrole, hl]
  have level (f : Entry) : (Entry.sameSlot (.gear i) .level f || (t.setupGroup k).any fun k => Entry.sameSlot (.group k) .level f)
      = (!f.orphan && decide (f.cmd.cls = .level) && (decide (f.target = .gear i)
        || ((t.zone z).bind fun y => y.cfg.groups.on l).any fun k => decide (f.target = .group k))) := by
    rw [group]
    cases ((t.zone z).bind fun y => y.cfg.groups.on l) <;> simp only [Entry.sameSlot, Option.any_none, Option.any_some, Bool.or_false]
      <;> cases f.orphan <;> cases decide (f.cmd.cls = .level) <;> simp
  rw [State.auditApplies]
  simp only [level, Bool.and_eq_true, decide_eq_true_eq, Bool.not_eq_true', and_assoc]

theorem takeAnswer_driver {z : Nat} {u : State} (hi : s.gearAt i = some g) (hrole : g.cfg.role = .driver z) (hl : g.cfg.line = l)
    (hu : s.answering i g = u) (hrest : u = { answeredMarked i g s with zones := u.zones, flags := u.flags })
    (hzone : ((u.zone z).bind fun y => y.cfg.groups.on l) = (s.zone z).bind fun y => y.cfg.groups.on l) :
    let taken := driverAnswered i g e data status u
    s.takeAnswer l i g e data status = if e.cmd = .queryValue ∧ e.origin = .audit ∧ g.expected.isSome ∧ g.expected ≠ some data.toNat
          ∧ ((taken.gearLine l).queue.any fun f => !f.orphan && decide (f.cmd.cls = .level) && (decide (f.target = .gear i)
            || ((s.zone z).bind fun y => y.cfg.groups.on l).any fun k => decide (f.target = .group k))) = false
          ∧ (taken.gearAt i).any (fun h => decide (h.dirty = .clear)) then
        State.markValue i (taken.countBy (.mismatches l) 1)
      else taken := by
  intro taken
  have driver : g.isDriver = true := by rw [Gear.isDriver, hrole]
  obtain ⟨d, there⟩ := gearAt_answeredMarked hi
  have record : u.gearAt i = some { g with state := .present, dirty := d } := by rw [hrest]; exact there
  have answered := driverAnswered_eq (e := e) (data := data) (status := status) driver record rfl rfl
  have takes : s.takeAnswer l i g e data status = if e.cmd = .queryValue ∧ e.origin = .audit then taken.auditCompare l i data else taken := by
    unfold State.takeAnswer
    simp only [hu, hrole, answered]
    rfl
  have gear_taken : ∃ k, taken.gearAt i = some k ∧ k.cfg = g.cfg ∧ k.expected = g.expected ∧ k.isDriver = true := by
    exact ⟨_, gearAt_driverAnswered record, rfl, rfl, driver⟩
  have zone_taken : taken.zone z = u.zone z := by rw [State.zone, zones_driverAnswered, ← State.zone]
  obtain ⟨k, hk, hcfg, hexp, hdriver⟩ := gear_taken
  have applies := auditApplies_iff (t := taken) (i := i) (k := k) (z := z) (l := l) (by rw [hcfg, hrole]) (by rw [hcfg, hl])
  rw [zone_taken, hzone, hexp] at applies
  have compare : taken.auditCompare l i data = if taken.auditApplies l i k = true ∧ k.expected ≠ some data.toNat then
      State.markValue i (taken.countBy (.mismatches l) 1) else taken := by
    unfold State.auditCompare
    rw [hk]
    refine if_congr ?_ rfl rfl
    rw [hdriver, Bool.true_and, Bool.and_eq_true, decide_eq_true_eq]
  have clear : (taken.gearAt i).any (fun h => decide (h.dirty = .clear)) = true ↔ k.dirty = .clear := by
    rw [hk, Option.any_some, decide_eq_true_eq]
  rw [takes, compare]
  by_cases ha : e.cmd = .queryValue ∧ e.origin = .audit
  · rw [if_pos ha]
    refine if_congr ?_ rfl rfl
    rw [applies, hexp]
    constructor
    · rintro ⟨⟨hsome, hclear, hlevels⟩, hdiff⟩
      exact ⟨ha.1, ha.2, hsome, hdiff, hlevels, clear.mpr hclear⟩
    · rintro ⟨_, _, hsome, hdiff, hlevels, hclear⟩
      exact ⟨⟨hsome, clear.mp hclear, hlevels⟩, hdiff⟩
  · rw [if_neg ha, if_neg fun c => ha ⟨c.1, c.2.1⟩]

/-- A driver's answer, from its record to the end of the attempt (R117, R118, R122, R124, R134). -/
theorem driver_answers {l : Fin 4} {x : GearLine} {rest : List Entry} {z : Nat} (h : s.gearLines[l.val]? = some x) (hq : x.queue = e :: rest)
    (ha : e.attempting = true) (hf : e.inFlight = true) (ho : e.orphan = false) (ht : e.target = .gear i) (hi : s.gearAt i = some g)
    (hl : g.cfg.line = l) (hrole : g.cfg.role = .driver z) : ∃ u,
      u = { answeredMarked i g s with zones := u.zones, flags := u.flags }
      ∧ (if g.state = .present then u = answeredMarked i g s else OutputRecomputed (.driver z) (answeredMarked i g s) u)
      ∧ exec (.gearAnswerReceived l data status (gearCheck [data, status]) false) s
        = .next (State.settledCheck (State.tendLine l (attemptEnded l e data
          (let taken := driverAnswered i g e data status u
          if e.cmd = .queryValue ∧ e.origin = .audit ∧ g.expected.isSome ∧ g.expected ≠ some data.toNat
              ∧ ((taken.gearLine l).queue.any fun f => !f.orphan && decide (f.cmd.cls = .level) && (decide (f.target = .gear i)
                || ((s.zone z).bind fun y => y.cfg.groups.on l).any fun k => decide (f.target = .group k))) = false
              ∧ (taken.gearAt i).any (fun h => decide (h.dirty = .clear)) then
            State.markValue i (taken.countBy (.mismatches l) 1)
          else taken)))) := by
  obtain ⟨refreshed, outputs⟩ := outputs_gear g (answeredMarked i g s)
  rw [hrole] at outputs
  have marked_zone : (answeredMarked i g s).zone z = s.zone z := by rw [State.zone, rest_answeredMarked]; rfl
  have hu := answering_eq hi
  have same : s.answering i g = { answeredMarked i g s with zones := (s.answering i g).zones, flags := (s.answering i g).flags } := by
    rw [hu]
    split
    · rfl
    · exact refreshed
  have hzone : (((s.answering i g).zone z).bind fun y => y.cfg.groups.on l) = (s.zone z).bind fun y => y.cfg.groups.on l := by
    rw [hu]
    split
    · rw [marked_zone]
    · rw [outputs.2.2.1 z rfl, marked_zone]
      cases s.zone z <;> rfl
  have takes := takeAnswer_driver (e := e) (data := data) (status := status) hi hrole hl rfl same hzone
  have valid : validAnswer g e.cmd data status (gearCheck [data, status]) false = true := by
    rw [validAnswer_iff]
    exact ⟨rfl, rfl, fun c => by
      obtain ⟨⟨seg, hseg⟩, _⟩ := c
      rw [hrole] at hseg
      cases hseg⟩
  have head : e.cmd = .setLossLevel → HeadIs l e (s.takeAnswer l i g e data status) := by
    intro hc
    have kept : (driverAnswered i g e data status (s.answering i g)).gearLines = (answeredMarked i g s).gearLines := by
      rw [driverAnswered, State.latchIf_gearLines]
      change (s.answering i g).gearLines = _
      rw [same]
    rw [takes, if_neg fun c => by rw [hc] at c; exact absurd c.1 (by decide)]
    exact (HeadStays.of_gearLines kept).kept (headIs_answeredMarked hf ⟨x, rest, h, hq⟩)
  refine ⟨s.answering i g, same, ?_, ?_⟩
  · rw [hu]
    by_cases hp : g.state = .present
    · rw [if_pos hp, if_pos hp]
    · rw [if_neg hp, if_neg hp]
      exact outputs
  · rw [exec_gearAnswer h hq ha ho ht hi, endAttempt_eq valid head, takes]

end

/-! ### A shade's answer (R124, R141, R142) -/

section

variable {s : State} {i seg : Nat} {g : Gear} {y : Segment} {e : Entry} {data status : Byte}

/-- The state with a shade's position taken, where the answer reports it (R124). -/
def shadeAnswered (i : Nat) (e : Entry) (data status : Byte) (u : State) : State :=
  if e.cmd = .shadeStop ∨ e.cmd = .shadeQuery ∨ e.cmd = .queryStatus then
    { u with gear := u.gear.modify i (Option.map fun h =>
      { h with position := some data.toNat, atLimit := status.getLsbD 1, unreported := false }) }
  else u

/-- The counts of a gear replaced (R141, R142). -/
def counted (i retries n : Nat) (t : State) : State :=
  { t with gear := t.gear.modify i (Option.map fun h => { h with retriesUsed := retries, unchanged := n }) }

/-- What an answer in a travel makes of the gear's count, and of a stall (R141, R142). -/
def shadeHeard (seg i : Nat) (g : Gear) (y : Segment) (e : Entry) (data : Byte) (taken : State) : State :=
  if e.cmd = .shadeGoto then counted i g.retriesUsed 0 taken
  else if e.cmd ≠ .shadeQuery then taken
  else if (∃ p, y.target = some p ∧ data.toNat ≤ p + 1 ∧ p ≤ data.toNat + 1) ∨ g.position ≠ some data.toNat then
    counted i g.retriesUsed 0 taken
  else if g.unchanged < 2 then counted i g.retriesUsed (g.unchanged + 1) taken
  else
    let stalled := (counted i g.retriesUsed (g.unchanged + 1) taken).countBy (.stalls seg) 1
    if g.retriesUsed < y.retryLimitInForce then counted i (g.retriesUsed + 1) 0 (State.offerGoto seg i stalled)
    else State.faultAndTest seg [i] stalled

theorem modGear_unchanged {t : State} {h : Gear} (ht : t.gearAt i = some h) (n : Nat) :
    t.modGear i (fun g => { g with unchanged := n }) = counted i h.retriesUsed n t := by
  rw [State.modGear, modify_congr_of_entryAt (k := fun x => { x with retriesUsed := h.retriesUsed, unchanged := n }) ht rfl]
  rfl

theorem gearAt_counted {t : State} {h : Gear} (ht : t.gearAt i = some h) (retries n : Nat) :
    (counted i retries n t).gearAt i = some { h with retriesUsed := retries, unchanged := n } := by
  rw [State.gearAt, counted, entryAt_modify, if_pos rfl, show entryAt t.gear i = some h from ht]
  rfl

/-- A gear that has stalled is offered its target again, or is faulted (R142). -/
theorem stall_eq {t : State} {h : Gear} (ht : t.gearAt i = some h) (hs : t.segments[seg]? = some y) : t.stall seg i
    = if h.retriesUsed < y.retryLimitInForce then counted i (h.retriesUsed + 1) 0 (State.offerGoto seg i (t.countBy (.stalls seg) 1))
      else State.faultAndTest seg [i] (t.countBy (.stalls seg) 1) := by
  have there : (t.countBy (.stalls seg) 1).gearAt i = some h := by rw [State.gearAt, State.countBy_gear]; exact ht
  have group : (t.countBy (.stalls seg) 1).segment seg = y := segment_of_get (by rw [State.countBy_segments, hs])
  have offered : Moves 0 (t.countBy (.stalls seg) 1) (State.offerGoto seg i (t.countBy (.stalls seg) 1)) := Moves.offerGoto ..
  obtain ⟨k, hk, same⟩ := Option.map_eq_some_iff.mp
    ((gearAt_of_gearCore (offered.gearCore_eq (by omega)) i).trans (congrArg _ there))
  have retries : k.retriesUsed = h.retriesUsed := show (gearCore k).retriesUsed = (gearCore h).retriesUsed by rw [same]
  have again : State.modGear i (fun g => { g with retriesUsed := g.retriesUsed + 1, unchanged := 0 })
      (State.offerGoto seg i (t.countBy (.stalls seg) 1)) = counted i (h.retriesUsed + 1) 0 (State.offerGoto seg i (t.countBy (.stalls seg) 1)) := by
    rw [State.modGear, modify_congr_of_entryAt (k := fun x => { x with retriesUsed := h.retriesUsed + 1, unchanged := 0 }) hk
      (by rw [retries])]
    rfl
  unfold State.stall
  simp only [State.count, there, group, Option.any_some, decide_eq_true_eq, again]

/-- The count of a query's answer, and the stall at the third that reports the same position (R141, R142). -/
theorem queryCount_eq {t : State} {h : Gear} (ht : t.gearAt i = some h) (hs : t.segments[seg]? = some y) (hreported : h.unreported = false)
    (hpos : h.position = some data.toNat) (before : Option Nat) : t.queryCount seg i before h.position
      = if (∃ p, y.target = some p ∧ data.toNat ≤ p + 1 ∧ p ≤ data.toNat + 1) ∨ before ≠ some data.toNat then counted i h.retriesUsed 0 t
        else if h.unchanged < 2 then counted i h.retriesUsed (h.unchanged + 1) t
        else State.stall seg i (counted i h.retriesUsed (h.unchanged + 1) t) := by
  have arrived : t.hasArrived seg i = true ↔ ∃ p, y.target = some p ∧ data.toNat ≤ p + 1 ∧ p ≤ data.toNat + 1 := by
    rw [hasArrived_iff, Arrived, segment_of_get hs]
    constructor
    · rintro ⟨k, p, q, hk, _, hp, hq, near⟩
      rw [ht, Option.some.injEq] at hk
      rw [← hk, hpos, Option.some.injEq] at hq
      exact ⟨p, hp, hq ▸ near⟩
    · rintro ⟨p, hp, near⟩
      exact ⟨h, p, _, ht, hreported, hp, hpos, near⟩
  have grows : t.modGear i (fun g => { g with unchanged := g.unchanged + 1 }) = counted i h.retriesUsed (h.unchanged + 1) t := by
    rw [State.modGear, modify_congr_of_entryAt (k := fun x => { x with retriesUsed := h.retriesUsed, unchanged := h.unchanged + 1 }) ht rfl]
    rfl
  unfold State.queryCount
  by_cases ha : t.hasArrived seg i = true
  · rw [if_pos ha, if_pos (.inl (arrived.mp ha)), modGear_unchanged ht]
  · rw [if_neg ha]
    by_cases hb : before = some data.toNat
    · have still : before.isSome ∧ before = h.position := ⟨by rw [hb]; rfl, by rw [hb, hpos]⟩
      have away : ¬ ((∃ p, y.target = some p ∧ data.toNat ≤ p + 1 ∧ p ≤ data.toNat + 1) ∨ before ≠ some data.toNat) :=
        fun c => c.elim (fun c => ha (arrived.mpr c)) fun c => c hb
      rw [if_pos still, if_neg away]
      simp only [grows, gearAt_counted ht, Option.any_some, decide_eq_true_eq]
      by_cases hu : h.unchanged < 2
      · rw [if_pos hu, if_neg (by omega)]
      · rw [if_neg hu, if_pos (by omega)]
    · rw [if_neg fun c => hb (c.2.trans hpos), if_pos (.inr hb), modGear_unchanged ht]

theorem shadeHeard_query {t : State} {h : Gear} (ht : t.gearAt i = some h) (hs : t.segments[seg]? = some y) (hreported : h.unreported = false)
    (hpos : h.position = some data.toNat) (hretries : h.retriesUsed = g.retriesUsed) (hcount : h.unchanged = g.unchanged)
    (hc : e.cmd = .shadeQuery) : t.queryCount seg i g.position h.position = shadeHeard seg i g y e data t := by
  have stalls := stall_eq (gearAt_counted ht h.retriesUsed (h.unchanged + 1)) (t := counted i h.retriesUsed (h.unchanged + 1) t) hs
  have other : ¬ e.cmd = .shadeGoto := by rw [hc]; decide
  have query : ¬ e.cmd ≠ .shadeQuery := fun c => c hc
  rw [queryCount_eq ht hs hreported hpos, stalls]
  unfold shadeHeard
  simp only [if_neg other, if_neg query, hretries, hcount]

/-- The shade logic's part of an answer (R141). -/
theorem shadeAnswer_eq {t : State} {h : Gear} (ht : t.gearAt i = some h) (hs : t.segments[seg]? = some y)
    (hretries : h.retriesUsed = g.retriesUsed) (hcount : h.unchanged = g.unchanged) (hfaulted : h.shadeFaulted = g.shadeFaulted)
    (query : e.cmd = .shadeQuery → h.unreported = false ∧ h.position = some data.toNat) : t.shadeAnswer seg i e.cmd g.position
      = if y.state = .moving ∧ g.shadeFaulted = false then State.arrivalTest seg (shadeHeard seg i g y e data t) else t := by
  have travels : (t.moving seg && !h.shadeFaulted) = true ↔ y.state = .moving ∧ g.shadeFaulted = false := by
    rw [Bool.and_eq_true, moving_eq hs, decide_eq_true_eq, Bool.not_eq_true', hfaulted]
  unfold State.shadeAnswer
  rw [ht]
  refine if_congr travels (congrArg (State.arrivalTest seg) ?_) rfl
  cases hc : e.cmd
  case shadeGoto =>
    rw [shadeHeard, if_pos hc, ← hretries]
    exact modGear_unchanged ht 0
  case shadeQuery =>
    obtain ⟨hreported, hpos⟩ := query hc
    exact shadeHeard_query ht hs hreported hpos hretries hcount hc
  all_goals rw [shadeHeard, if_neg (by rw [hc]; decide), if_pos (by rw [hc]; decide)]

theorem auditCompare_of_shade {t : State} {l : Nat} (h : ∀ k, t.gearAt i = some k → k.isDriver = false) : t.auditCompare l i data = t := by
  unfold State.auditCompare
  cases hk : t.gearAt i with
  | none => rfl
  | some k => simp only [h k hk, Bool.false_and, Bool.false_eq_true, if_false]

theorem shadeAnswered_eq {u : State} {h : Gear} (hu : u.gearAt i = some h) (hshade : h.isDriver = false) :
    u.modGear i (Gear.answered e.cmd data status) = shadeAnswered i e data status u := by
  unfold shadeAnswered
  by_cases hc : e.cmd = .shadeStop ∨ e.cmd = .shadeQuery ∨ e.cmd = .queryStatus
  · have same : Gear.answered e.cmd data status h
        = { h with position := some data.toNat, atLimit := status.getLsbD 1, unreported := false } := by
      rw [Gear.answered, if_neg (by rw [hshade]; decide), if_pos ((reportsPosition_iff _).mpr hc)]
    rw [if_pos hc, State.modGear, modify_congr_of_entryAt (k := fun h =>
      { h with position := some data.toNat, atLimit := status.getLsbD 1, unreported := false }) hu same]
  · have same : Gear.answered e.cmd data status h = h := by
      rw [Gear.answered, if_neg (by rw [hshade]; decide), if_neg fun c => hc ((reportsPosition_iff _).mp c)]
    rw [if_neg hc, modGear_of_gear hu, same, set_entryAt_self hu]

theorem gearAt_shadeAnswered {u : State} {h : Gear} (hu : u.gearAt i = some h) : ∃ k, (shadeAnswered i e data status u).gearAt i = some k
    ∧ k.cfg = h.cfg ∧ k.retriesUsed = h.retriesUsed ∧ k.unchanged = h.unchanged ∧ k.shadeFaulted = h.shadeFaulted
    ∧ (e.cmd = .shadeQuery → k.unreported = false ∧ k.position = some data.toNat) := by
  unfold shadeAnswered
  by_cases hc : e.cmd = .shadeStop ∨ e.cmd = .shadeQuery ∨ e.cmd = .queryStatus
  · rw [if_pos hc]
    refine ⟨{ h with position := some data.toNat, atLimit := status.getLsbD 1, unreported := false }, ?_, rfl, rfl, rfl, rfl,
      fun _ => ⟨rfl, rfl⟩⟩
    rw [State.gearAt, entryAt_modify, if_pos rfl, show entryAt u.gear i = some h from hu]
    rfl
  · rw [if_neg hc]
    exact ⟨h, hu, rfl, rfl, rfl, rfl, fun c => absurd (.inr (.inl c)) hc⟩

theorem takeAnswer_shade {l : Nat} (hi : s.gearAt i = some g) (hrole : g.cfg.role = .shade seg) (hs : s.segments[seg]? = some y) :
    let taken := shadeAnswered i e data status (answeredMarked i g s)
    s.takeAnswer l i g e data status
      = if y.state = .moving ∧ g.shadeFaulted = false then State.arrivalTest seg (shadeHeard seg i g y e data taken) else taken := by
  intro taken
  have shade : g.isDriver = false := by rw [Gear.isDriver, hrole]
  obtain ⟨d, there⟩ := gearAt_answeredMarked hi
  have marked : s.answering i g = answeredMarked i g s := by rw [answering_eq hi, refreshGearOutput_of_shade hrole, ite_self]
  have answered : State.modGear i (Gear.answered e.cmd data status) (answeredMarked i g s) = taken := shadeAnswered_eq there shade
  obtain ⟨k, hk, hcfg, hretries, hcount, hfaulted, query⟩ := gearAt_shadeAnswered (e := e) (data := data) (status := status) there
  have group : taken.segments[seg]? = some y := by
    have kept : taken.segments = s.segments := by
      have first : (answeredMarked i g s).segments = s.segments := by rw [rest_answeredMarked]
      simp only [taken, shadeAnswered]
      split <;> exact first
    rw [kept, hs]
  have heard := shadeAnswer_eq (g := g) (e := e) hk group hretries hcount hfaulted query
  have cfgs : (taken.shadeAnswer seg i e.cmd g.position).gear.map (Option.map Gear.cfg) = taken.gear.map (Option.map Gear.cfg) :=
    (Moves.shadeAnswer (n := 2) le_rfl taken seg i e.cmd g.position).gearCfg_eq (by omega)
  have no_driver (j : Gear) (hj : (taken.shadeAnswer seg i e.cmd g.position).gearAt i = some j) : j.isDriver = false := by
    have same := congrArg (fun t => entryAt t i) cfgs
    simp only [← map_entryAt] at same
    rw [show entryAt _ i = _ from hj, show entryAt taken.gear i = _ from hk, Option.map_some, Option.map_some, Option.some.injEq, hcfg] at same
    rw [Gear.isDriver, same]
    exact shade
  have takes : s.takeAnswer l i g e data status = taken.shadeAnswer seg i e.cmd g.position := by
    unfold State.takeAnswer
    simp only [marked, answered, shade, Bool.false_and, hrole]
    split
    · exact auditCompare_of_shade no_driver
    · rfl
  rw [takes, heard]

end

/-- A shade's answer, from its record to the end of the attempt (R117, R124, R141, R142). -/
theorem shade_answers {l : Fin 4} {data status : Byte} {s : State} {x : GearLine} {e : Entry} {rest : List Entry} {i seg : Nat} {g : Gear}
    {y : Segment} (h : s.gearLines[l.val]? = some x) (hq : x.queue = e :: rest) (ha : e.attempting = true) (hf : e.inFlight = true)
    (ho : e.orphan = false) (ht : e.target = .gear i) (hi : s.gearAt i = some g) (hrole : g.cfg.role = .shade seg)
    (hs : s.segments[seg]? = some y)
    (inside : e.cmd = .shadeStop ∨ e.cmd = .shadeQuery ∨ e.cmd = .queryStatus → data.toNat ≤ 100) :
    exec (.gearAnswerReceived l data status (gearCheck [data, status]) false) s
      = .next (State.settledCheck (State.tendLine l (attemptEnded l e data
        (if y.state = .moving ∧ g.shadeFaulted = false then
            State.arrivalTest seg (shadeHeard seg i g y e data (shadeAnswered i e data status (answeredMarked i g s)))
          else shadeAnswered i e data status (answeredMarked i g s))))) := by
  have takes := takeAnswer_shade (l := l) (e := e) (data := data) (status := status) hi hrole hs
  have valid : validAnswer g e.cmd data status (gearCheck [data, status]) false = true := by
    rw [validAnswer_iff]
    exact ⟨rfl, rfl, fun c => by
      obtain ⟨_, hc, hover⟩ := c
      exact absurd (inside ((reportsPosition_iff _).mp hc)) (by omega)⟩
  have head : e.cmd = .setLossLevel → HeadIs l e (s.takeAnswer l i g e data status) := by
    intro hc
    have plain : shadeAnswered i e data status (answeredMarked i g s) = answeredMarked i g s := if_neg (by rw [hc]; decide)
    have silent : shadeHeard seg i g y e data (answeredMarked i g s) = answeredMarked i g s :=
      (if_neg (by rw [hc]; decide)).trans (if_pos (by rw [hc]; decide))
    have here : HeadIs l e (answeredMarked i g s) := headIs_answeredMarked hf ⟨x, rest, h, hq⟩
    rw [takes, plain, silent]
    split
    · exact ((HeadStays.rule l.val hf).arrivalTest ..).kept here
    · exact here
  rw [exec_gearAnswer h hq ha ho ht hi, endAttempt_eq valid head, takes]

/-- Settles O48: the characters that carry the answer, and the answer of a driver and of a shade. -/
theorem aValidAnswerIsTaken : Obligations.AValidAnswerIsTaken := by
  intro l data status s x e rest i g h hq ha hf ho ht hi hl check present marked ends
  refine ⟨fun first second third h1 h2 h3 => ?_, fun z hrole => driver_answers h hq ha hf ho ht hi hl hrole, fun seg y hrole hs => ?_⟩
  · rw [(carries_iff ..).mp h1, (carries_iff ..).mp h2, (carries_iff ..).mp h3]
    exact answerCommand_characterOf ..
  · intro reports taken counted heard inside
    exact shade_answers h hq ha hf ho ht hi hrole hs inside

end Sys2Proof.Machine
end

section
/-! PROOFS. Chapters 2 and 3: readings, misses and poll cycles (R24 to R37, R46 to R50, R67, R172). -/

namespace Sys2Proof.Machine

open Sys2Proof.Safety

set_option Elab.async false

/-! ### The sensor that a cycle visits next (R24, R25) -/

section

variable {s : State} {l i : Nat}

theorem mem_scanned {j : Nat} : j ∈ s.sensorsWhere (fun x => decide (x.line = l) && x.enabled)
    ↔ ∃ x, s.sensor j = some x ∧ x.line = l ∧ x.enabled = true := by
  rw [State.mem_sensorsWhere]
  simp only [Bool.and_eq_true, decide_eq_true_eq]

theorem all_above {o : Option Nat} {j : Nat} : (o.all fun v => decide (v < j)) = true ↔ ∀ v ∈ o, v < j := by
  cases o <;> simp

theorem nextSensor_of_visits (h : VisitsNext s l i) : s.nextSensor l = some i := by
  obtain ⟨here, above, least⟩ := h
  exact find?_of_least (List.pairwise_lt_range.filter _) (mem_scanned.mpr here) (all_above.mpr above)
    fun j hj hp => least j (mem_scanned.mp hj) (all_above.mp hp)

theorem visits_of_nextSensor (h : s.nextSensor l = some i) : VisitsNext s l i := by
  rw [State.nextSensor, List.find?_eq_some_iff_append] at h
  obtain ⟨hp, front, back, split, before⟩ := h
  have here : i ∈ s.sensorsWhere (fun x => decide (x.line = l) && x.enabled) := by rw [split]; simp
  have ascending : (s.sensorsWhere fun x => decide (x.line = l) && x.enabled).Pairwise (· < ·) := List.pairwise_lt_range.filter _
  refine ⟨mem_scanned.mp here, all_above.mp hp, fun j hj above => ?_⟩
  have there := mem_scanned.mpr hj
  rw [split, List.mem_append, List.mem_cons] at there
  rw [split, List.pairwise_append, List.pairwise_cons] at ascending
  obtain ⟨_, ⟨later, _⟩, _⟩ := ascending
  rcases there with hf | rfl | hb
  · have passed := before j hf
    rw [all_above.mpr above] at passed
    cases passed
  · exact le_rfl
  · exact (later j hb).le

theorem nextSensor_of_none (h : ∀ i, ¬ VisitsNext s l i) : s.nextSensor l = none := by
  cases hn : s.nextSensor l with
  | none => rfl
  | some i => exact absurd (visits_of_nextSensor hn) (h i)

theorem beginTxn_eq (l i : Nat) (s : State) : s.beginTxn l i = transacting l i s := by
  unfold State.beginTxn transacting
  cases s.sensor i <;> rfl

theorem startCycle_starts (l : Nat) (s : State) : CycleStarts l s (s.startCycle l) := by
  refine ⟨fun i hi => ?_, fun none => ?_⟩
  · unfold State.startCycle
    rw [← beginTxn_eq]
    simp only [show s.openCycle l = cycleOpened l s from rfl, nextSensor_of_visits hi]
  · unfold State.startCycle
    simp only [show s.openCycle l = cycleOpened l s from rfl, nextSensor_of_none none]

theorem continueCycle_goesOn (l : Nat) (s : State)
    (pending : (State.sensorLine (s.completeCycle l) l).startPending = (s.sensorLine l).startPending) :
    CycleGoesOn l s (s.continueCycle l) := by
  refine ⟨fun i hi => ?_, fun none => ?_⟩
  · unfold State.continueCycle
    rw [← beginTxn_eq, nextSensor_of_visits hi]
  · unfold State.continueCycle
    rw [nextSensor_of_none none]
    simp only [pending]
    split
    · exact startCycle_starts ..
    · rfl

end

/-! ### A completion (R27, R67, R172) -/

theorem sensorLines_recordEval (s : State) (z : Nat) (r : EvalRecord) : (s.recordEval z r).sensorLines = s.sensorLines := by
  unfold State.recordEval
  split
  · rfl
  · simp only [State.countBy_sensorLines]
    rfl

theorem moves_learnFrom (z : Nat) (state : ZoneState) (day : Option Nat) (t : State) : Moves 1 t (t.learnFrom z state day) := by
  cases day with
  | none => exact .refl t
  | some d => exact .ite (fun _ => (Moves.learnRatio le_rfl ..).trans (Moves.accumulate le_rfl ..)) fun _ => .refl t

theorem sensorLines_evaluate (s : State) (line z : Nat) : (s.evaluate line z).sensorLines = s.sensorLines := by
  cases h : s.zone z with
  | none =>
    unfold State.evaluate
    rw [h]
  | some x =>
    have handed : Moves 1 { s with zones := s.zones.set z (some (x.evaluated s line z)) }
        (State.handIfChanged z x.level { s with zones := s.zones.set z (some (x.evaluated s line z)) }) := Moves.handIfChanged ..
    rw [evaluate_of_zone h, sensorLines_recordEval, (moves_learnFrom ..).sensorLines_eq (by omega), handed.sensorLines_eq (by omega)]

theorem sensorLines_evalEvent (s : State) (line z : Nat) : (s.evalEvent line z).sensorLines = s.sensorLines := by
  have resolved : (s.resolve z).sensorLines = s.sensorLines := (Moves.resolve (n := 1) le_rfl s z).sensorLines_eq (by omega)
  unfold State.evalEvent
  dsimp only
  split
  · rw [sensorLines_evaluate, resolved]
  · rw [sensorLines_evaluate, resolved]
  · exact resolved

theorem sensorLines_forEach {f : Nat → State → State} (h : ∀ i s, (f i s).sensorLines = s.sensorLines) (l : List Nat) (s : State) :
    (forEach l f s).sensorLines = s.sensorLines := by
  induction l generalizing s with
  | nil => rfl
  | cons i l ih => rw [forEach_cons, ih, h]

/-- A cycle closes on its line (R27). -/
def cycleClosed (l : Nat) (s : State) : State := { s with sensorLines := s.sensorLines.modify l fun x => { x with
  lastCompletion := some s.tick, cycleOpen := false, scan := .waiting, report := [] } }

theorem sensorLines_completeCycle (l : Nat) (s : State) : (s.completeCycle l).sensorLines = (cycleClosed l s).sensorLines := by
  have taken (u : State) (r : List (Nat × Nat)) : (u.takeReport l r).sensorLines = u.sensorLines :=
    (Moves.takeReport (n := 3) le_rfl u l r).sensorLines_eq (by omega)
  have accrued (u : State) : (u.accrueLine l).sensorLines = u.sensorLines := (Moves.accrueLine (n := 1) le_rfl u l).sensorLines_eq (by omega)
  unfold State.completeCycle
  rw [taken, accrued, State.evaluateLine, sensorLines_forEach fun z s => sensorLines_evalEvent s l z]
  rfl

theorem startPending_completeCycle (l : Nat) (s : State) :
    (State.sensorLine (s.completeCycle l) l).startPending = (s.sensorLine l).startPending := by
  rw [State.sensorLine, sensorLines_completeCycle]
  refine (congrArg SensorLine.startPending (getD_modify ..)).trans ?_
  split <;> rfl

theorem evalLine_eq (s : State) (x : Zone) : s.evalLine x = evalLineOf s x := by
  unfold State.evalLine State.controlOf evalLineOf
  cases x.cfg.controlSensor.bind s.sensor <;> rfl

theorem evalEvent_eq (line z : Nat) (s : State) : s.evalEvent line z = resolvedThenEvaluated line s z := by
  unfold State.evalEvent resolvedThenEvaluated
  dsimp only
  cases State.zone (s.resolve z) z with
  | none => rfl
  | some y =>
    dsimp only [Option.map_some]
    cases y.state <;> simp

theorem evaluateLine_eq {s : State} {line : Nat} {zones : List Nat}
    (h : ZonesInOrder s (fun x => x.cfg.enabled = true ∧ evalLineOf s x = line) zones) :
    s.evaluateLine line = zones.foldl (resolvedThenEvaluated line) s := by
  have listed : zones = s.zonesWhere fun x => x.cfg.enabled && decide (s.evalLine x = line) :=
    eq_of_zonesInOrder h fun x => by rw [Bool.and_eq_true, decide_eq_true_eq, evalLine_eq]
  rw [State.evaluateLine, ← listed, forEach]
  exact congrArg (fun f => zones.foldl f s) (funext fun u => funext fun z => evalEvent_eq line z u)

theorem accrue_eq (now : Tick) (x : Zone) : x.accrue now (some now) = accrued now x := by
  unfold Zone.accrue accrued
  cases x.rem.mark <;> rfl

/-- The override time of the zones of a list is counted, each once (R172). -/
structure AccruedAll (l : List Nat) (s t : State) : Prop where
  rest : t = { s with zones := t.zones, flags := t.flags, live := t.live }
  flags : FlagsGrow [.counterSaturated] s t
  here : ∀ z x, z ∈ l → s.zone z = some x → t.zone z = some (accrued s.tick x)
  elsewhere : ∀ z, z ∉ l → t.zone z = s.zone z
  counted : ∀ z x m, z ∈ l → s.zone z = some x → x.rem.mark = some m → z < s.live.zones.length →
    t.live.get (.overrideS z) = min 4294967295 (s.live.get (.overrideS z) + (x.rem.override + s.tick.since m) / 1000)
  others : ∀ k, (∀ z x, z ∈ l → k = .overrideS z → s.zone z = some x → x.rem.mark = none) → t.live.get k = s.live.get k

theorem zones_length_accrueOverride (s : State) (z : Nat) (m : Option Tick) :
    (s.accrueOverride z m).live.zones.length = s.live.zones.length := by
  unfold State.accrueOverride
  split
  · rfl
  · rw [zones_length_countBy]
    rfl

theorem accruedAll_forEach {l : List Nat} (hl : l.Nodup) (s : State) (defined : ∀ z ∈ l, ∃ x, s.zone z = some x) :
    AccruedAll l s (forEach l (fun z s => s.accrueOverride z (some s.tick)) s) := by
  induction l generalizing s with
  | nil =>
    exact ⟨rfl, flagsGrow_refl _ s, fun _ _ h => absurd h List.not_mem_nil, fun _ _ => rfl, fun _ _ _ h => absurd h List.not_mem_nil,
      fun _ _ => rfl⟩
  | cons i l ih =>
    obtain ⟨hi, hl⟩ := List.nodup_cons.mp hl
    obtain ⟨y, hy⟩ := defined i (List.mem_cons_self ..)
    have first := (ZoneBecomes.refl hy).accrueOverride (some s.tick)
    rw [accrue_eq] at first
    have same {z : Nat} (hz : z ≠ i) : (s.accrueOverride i (some s.tick)).zone z = s.zone z := zone_accrueOverride_ne s i _ hz
    have now : (s.accrueOverride i (some s.tick)).tick = s.tick := (Moves.accrueOverride (n := 1) le_rfl s i _).tick
    obtain ⟨rest, flags, here, elsewhere, counted, others⟩ := ih hl (s.accrueOverride i (some s.tick)) fun z hz => by
      rw [same fun e => hi (e ▸ hz)]
      exact defined z (List.mem_cons_of_mem _ hz)
    rw [forEach_cons]
    generalize forEach l (fun z s => s.accrueOverride z (some s.tick)) (s.accrueOverride i (some s.tick)) = t at *
    refine ⟨?_, FlagsGrow.trans (flagsGrow_accrueOverride ..) flags, fun z x hz hx => ?_, fun z hz => ?_, fun z x m hz hx hm hlen => ?_,
      fun k hk => ?_⟩
    · rw [rest, first.rest]
    · rcases List.mem_cons.mp hz with rfl | hz
      · rw [elsewhere z hi, first.here, Option.some.inj (hx.symm.trans hy)]
      · rw [here z x hz ((same fun e => hi (e ▸ hz)).trans hx), now]
    · rw [elsewhere z fun h => hz (List.mem_cons_of_mem _ h), same fun e => hz (e ▸ List.mem_cons_self ..)]
    · rcases List.mem_cons.mp hz with rfl | hz
      · rw [others (.overrideS z) fun k _ hk e => absurd (Counter.overrideS.inj e ▸ hk) hi, get_accrueOverride_same hx hm hlen]
      · have hne : z ≠ i := fun e => hi (e ▸ hz)
        rw [counted z x m hz ((same hne).trans hx) hm (by rw [zones_length_accrueOverride]; exact hlen),
          get_accrueOverride_ne s i _ fun e => hne (Counter.overrideS.inj e), now]
    · rw [others k fun z x hz e hx => hk z x (List.mem_cons_of_mem _ hz) e ((same fun e => hi (e ▸ hz)).symm.trans hx)]
      by_cases hki : k = .overrideS i
      · rw [live_accrueOverride_of_unmarked hy (hk i y (List.mem_cons_self ..) hki hy)]
      · exact get_accrueOverride_ne s i _ hki

theorem overridesAccrued_accrueLine (l : Nat) (s : State) : OverridesAccrued l s (s.accrueLine l) := by
  have mem (z : Nat) : z ∈ s.zonesWhere (fun x => decide (x.state = .override) && decide (s.evalLine x = l))
      ↔ ∃ x, s.zone z = some x ∧ OverriddenOn s l x := by
    rw [State.mem_zonesWhere]
    simp only [Bool.and_eq_true, decide_eq_true_eq, evalLine_eq, OverriddenOn]
  obtain ⟨rest, flags, here, elsewhere, counted, others⟩ := accruedAll_forEach (List.nodup_range.filter _) s fun z hz => by
    obtain ⟨x, hx, _⟩ := (mem z).mp hz
    exact ⟨x, hx⟩
  exact ⟨rest, flags, fun z x hx ho => here z x ((mem z).mpr ⟨x, hx, ho⟩) hx, fun z hz => elsewhere z fun h => by
      obtain ⟨x, hx, ho⟩ := (mem z).mp h
      exact hz x hx ho,
    fun z x m hx ho hm hlen => counted z x m ((mem z).mpr ⟨x, hx, ho⟩) hx hm hlen,
    fun k hk => others k fun z x hz e hx => by
      obtain ⟨y, hy, ho⟩ := (mem z).mp hz
      exact hk z x e hx (Option.some.inj (hy.symm.trans hx) ▸ ho)⟩

/-! ### The scanner goes on (R24 to R26, R36) -/

theorem scan_modSensorLine (s : State) (l : Nat) {f : SensorLine → SensorLine} (hf : ∀ x, (f x).scan = x.scan) :
    (State.sensorLine (s.modSensorLine l f) l).scan = (s.sensorLine l).scan := by
  rw [State.sensorLine_modSensorLine]
  split
  · exact hf _
  · rfl

theorem modSensorLine_modSensorLine (s : State) (l : Nat) (f g : SensorLine → SensorLine) :
    State.modSensorLine l g (s.modSensorLine l f) = s.modSensorLine l fun x => g (f x) :=
  congrArg (fun t => { s with sensorLines := t }) (modify_modify ..)

theorem grantSL0_eq {s : State} {j : SaveJob} (h : s.loader.save = some j) : s.grantSL0 = { s with
    sensorLines := s.sensorLines.modify 0 fun x => if x.scan = .stopped then x else { x with scan := .paused }
    loader := { s.loader with save := some { j with phase := .writing } } } := by
  unfold State.grantSL0 State.modLoader
  simp only [State.modSensorLine_loader, h, Option.map_some]
  rfl

/-- Settles O35: the expiry by the scanner's state, the scanner after a transaction, and the completion. -/
theorem theScannerVisitsItsSensorsInOrder : Obligations.TheScannerVisitsItsSensorsInOrder := by
  intro l s hlen line
  refine ⟨fun hi => ?expiry, fun hi => ?_, fun free => ?_, fun j hl hj hw => ?_, fun zones hz => ?_⟩
  case expiry =>
    intro stopped waits opened
    have answer : exec (.pollIntervalExpiry l) s = .next (match line.scan with
        | .waiting => State.startCycle l stopped
        | .scanning => waits.latch .sensorLineOverrun
        | .paused => waits
        | .stopped => stopped) := by
      have scan : (State.sensorLine (s.modSensorLine l fun x => { x with interval := none }) l).scan = line.scan :=
        scan_modSensorLine s l fun _ => rfl
      refine congrArg Host.Outcome.next ((if_pos hi).trans ?_)
      simp only [scan]
      cases line.scan
      · rfl
      · rfl
      · exact congrArg (State.latch .sensorLineOverrun) (modSensorLine_modSensorLine ..)
      · exact modSensorLine_modSensorLine ..
    have opens : cycleOpened l stopped = opened :=
      congrArg (fun t => { s with sensorLines := t }) (modify_modify ..)
    obtain ⟨visits, completes⟩ := startCycle_starts l stopped
    rw [opens] at visits completes
    refine ⟨fun hs i hv => ?_, fun hs none => ?_, fun hs => ?_, fun hs => ?_, fun hs => ?_⟩
    · rw [answer, hs, ← visits i hv]
    · rw [answer, hs, ← completes none]
    · rw [answer, hs]
    · rw [answer, hs]
    · rw [answer, hs]
  · exact congrArg Host.Outcome.next (if_neg (by rw [show (s.sensorLine l).interval = none from hi]; exact Bool.false_ne_true))
  · have goes : State.afterTxn l s = State.continueCycle l s := by
      refine if_neg fun c => ?_
      obtain ⟨h0, hw⟩ := c
      rcases free with rfl | free
      · cases h0
      · obtain ⟨j, hj, hp⟩ := (Option.any_eq_true _ _).mp hw
        exact free j hj (of_decide_eq_true hp)
    rw [goes]
    exact continueCycle_goesOn l s (startPending_completeCycle l s)
  · subst hl
    refine (if_pos ⟨rfl, ?_⟩).trans (grantSL0_eq hj)
    rw [State.wantsSL0, hj, Option.any_some, hw]
    rfl
  · intro closed
    have there : ZonesInOrder closed (fun x => x.cfg.enabled = true ∧ evalLineOf closed x = l) zones := hz
    refine ⟨_, overridesAccrued_accrueLine l _, ?_⟩
    rw [← evaluateLine_eq there]
    rfl

end Sys2Proof.Machine
end

section
/-! PROOFS. Chapters 2 and 3: readings and misses (R28 to R34, R46 to R50). -/

namespace Sys2Proof.Machine

open Sys2Proof.Safety

set_option Elab.async false

/-! ### The end of a transaction (R28, R29) -/

section

variable {s : State} {l : Nat} {t : SensorTxn}

theorem endTxn_discarded (h : (s.sensorLine l).txn = some t) (hd : t.discard = true) (o : TxnOutcome) :
    s.endTxn l o = State.afterTxn l (s.modSensorLine l fun n => { n with txn := none }) := by
  unfold State.endTxn
  simp only [h, hd, if_true]

theorem endTxn_applied (h : (s.sensorLine l).txn = some t) (hd : t.discard = false) (o : TxnOutcome) :
    s.endTxn l o = State.afterTxn l (State.applyOutcome l t.sensor o (s.modSensorLine l fun n => { n with txn := none })) := by
  unfold State.endTxn
  simp only [h, hd, Bool.false_eq_true, if_false]

theorem classify_good {r : SensorReply} (h : goodAnswer r) : classify (some r)
    = .good ((r.status.toNat / 16) % 4) (256 * r.countHigh.toNat + r.countLow.toNat) (r.status.getLsbD 1) := by
  obtain ⟨agrees, ready⟩ := h
  rw [classify, if_neg fun c => c agrees, if_neg (by rw [ready]; decide)]

/-- A bad answer is a miss, whatever is bad in it (R28, R205). -/
theorem applyOutcome_bad {x : Sensor} {i : Nat} {r : Option SensorReply} (hx : s.sensor i = some x) (bad : ∀ a ∈ r, ¬ goodAnswer a) :
    s.applyOutcome l i (classify r) = s.miss l i x := by
  unfold State.applyOutcome
  simp only [hx]
  cases r with
  | none => rfl
  | some a =>
    have fails := bad a rfl
    rw [classify]
    by_cases agrees : crc8 [a.status, a.countHigh, a.countLow] = a.check
    · have late : a.status.getLsbD 0 = false := by
        by_contra h
        exact fails ⟨agrees, Bool.eq_true_of_not_eq_false h⟩
      rw [if_neg fun c => c agrees, if_pos (by rw [late]; rfl)]
    · rw [if_pos agrees]

end

/-! ### A miss (R33, R34) -/

theorem missed_eq (limit : Nat) (x : Sensor) : x.missed limit = sensorAfterMiss limit x := by
  unfold Sensor.missed sensorAfterMiss
  cases x.health <;> rfl

theorem miss_eq {s : State} {l i : Nat} {x : Sensor} (hx : s.sensor i = some x) : s.miss l i x
    = if (sensorAfterMiss (s.sensorLine l).missLimit x).health = .failed ∧ x.health ≠ .failed then
        State.resolveZonesOf i (State.latch .sensorFault (({ s with
          sensors := s.sensors.set i (some (sensorAfterMiss (s.sensorLine l).missLimit x)) } : State).countBy (.misses i) 1))
      else ({ s with sensors := s.sensors.set i (some (sensorAfterMiss (s.sensorLine l).missLimit x)) } : State).countBy (.misses i) 1 := by
  unfold State.miss
  simp only [State.modSensor_eq hx, missed_eq]
  rfl

theorem missLimit_modSensorLine (s : State) (l : Nat) : (State.sensorLine (s.modSensorLine l fun n => { n with txn := none }) l).missLimit
    = (s.sensorLine l).missLimit := by
  rw [State.sensorLine_modSensorLine]
  split <;> rfl

/-- Settles O34: the outcome is discarded, or a miss of the sensor. -/
theorem aMissIsCounted : Obligations.AMissIsCounted := by
  intro l r s t ht v
  refine ⟨fun hd => ⟨congrArg Host.Outcome.next (endTxn_discarded ht hd _), congrArg Host.Outcome.next (endTxn_discarded ht hd _)⟩, ?_⟩
  intro x bad hd hx y u
  have there : State.sensor (s.modSensorLine l fun n => { n with txn := none }) t.sensor = some x := hx
  have missed : State.miss l t.sensor x v = if y.health = .failed ∧ x.health ≠ .failed then
      State.resolveZonesOf t.sensor (u.latch .sensorFault) else u := by
    have missed := miss_eq (l := l.val) there
    rw [missLimit_modSensorLine] at missed
    exact missed
  have ends : exec (.sensorTransactionEnd l r) s = .next (State.afterTxn l (State.miss l t.sensor x v)) :=
    congrArg Host.Outcome.next ((endTxn_applied ht hd _).trans (congrArg _ (applyOutcome_bad there bad)))
  have times : exec (.sensorTransactionTimeout l) s = .next (State.afterTxn l (State.miss l t.sensor x v)) :=
    congrArg Host.Outcome.next ((endTxn_applied ht hd _).trans (congrArg _ (applyOutcome_bad (r := none) there (by simp))))
  refine ⟨State.miss l t.sensor x v, ?_, ends, times⟩
  by_cases fails : y.health = .failed ∧ x.health ≠ .failed
  · rw [if_pos fails, missed, if_pos fails]
    exact namersResolved ..
  · rw [if_neg fails, missed, if_neg fails]

/-! ### A good reading (R30, R32, R46 to R50) -/

/-- The segments that name a window sensor, noticed in ascending index (R146; log 49). -/
theorem noticeWindow_eq {s : State} {i : Nat} {x : Sensor} {segments : List Nat} (hx : s.sensor i = some x)
    (hsorted : segments.Pairwise (· < ·)) (hmem : ∀ seg, seg ∈ segments ↔ ∃ g, s.segments[seg]? = some g ∧ g.cfg.windowSensor = some i) :
    s.noticeWindow i = segments.foldl (fun u seg => State.windowReading seg x.daylightF u) s := by
  have listed : s.segmentsOf i = segments := by
    have ascending : (s.segmentsOf i).Pairwise (· < ·) := List.pairwise_lt_range.filter _
    refine List.Perm.eq_of_pairwise (fun a b _ _ hab hba => absurd hab (Nat.lt_asymm hba)) ascending hsorted ?_
    refine (List.perm_ext_iff_of_nodup (ascending.imp Nat.ne_of_lt) (hsorted.imp Nat.ne_of_lt)).mpr fun seg => ?_
    rw [hmem, State.mem_segmentsOf]
  unfold State.noticeWindow
  rw [hx]
  simp only [listed]
  rfl

theorem filterStep_eq (fall rise f d : Nat) : filterStep fall rise f d = filtered fall rise f d := by
  have ceil (n : Nat) : ceilDiv n 16 = (n + 15) / 16 := rfl
  unfold filterStep filtered
  simp only [ceil]
  by_cases h : d < f
  · rw [if_pos h, if_pos h]
  · rw [if_neg h, if_neg h]
    by_cases h' : f < d
    · rw [if_pos h']
    · have same : d - f = 0 := by omega
      rw [if_neg h', same, Nat.zero_mul]
      rfl

/-- A sensor's entry with its estimate and its filter, as the reading is handed on (R46, R47, R49, R50). -/
def estimated (s : State) (how : Hand) (x : Sensor) : Sensor := { x with
  daylight := estimate x.lux x.darkOffset (s.shares x.contrib)
  daylightF := if how = .step ∧ x.primed then
      filterStep x.fallCoeff x.riseCoeff x.daylightF (estimate x.lux x.darkOffset (s.shares x.contrib))
    else estimate x.lux x.darkOffset (s.shares x.contrib)
  primed := true }

theorem processReading_of_sensor {s : State} {i : Nat} {x : Sensor} (hx : s.sensor i = some x) (how : Hand) :
    s.processReading i how = { s with sensors := s.sensors.set i (some (estimated s how x)) } := by
  unfold State.processReading
  simp only [hx, State.modSensor_eq hx]
  rfl

section

variable {s : State} {x : Sensor} (range count : Nat) (overrange : Bool)

/-- A sensor's entry with its reading taken, before its estimate (R30, R32). -/
def sensorRead (now : Tick) (x : Sensor) (range count : Nat) (overrange : Bool) : Sensor :=
  (x.takeReading now range count overrange).goodState

theorem lux_sensorRead (now : Tick) : (sensorRead now x range count overrange).lux = luxOf x.scale range count overrange := by
  unfold sensorRead Sensor.goodState
  split <;> rfl

theorem sensorRead_unheard (h : x.health = .failed ∧ x.recoverCount = 0) :
    sensorRead s.tick x range count overrange = sensorAfterReading s x range count overrange := by
  unfold sensorRead Sensor.goodState sensorAfterReading
  exact (if_pos h).trans (if_pos h).symm

theorem sensorRead_heard (h : ¬ (x.health = .failed ∧ x.recoverCount = 0)) {how : Hand}
    (hstep : how = .step ↔ x.health = .ok ∨ x.health = .suspect) :
    estimated s how (sensorRead s.tick x range count overrange) = sensorAfterReading s x range count overrange := by
  have read : sensorRead s.tick x range count overrange
      = { x.takeReading s.tick range count overrange with health := .ok, missCount := 0, recoverCount := 0 } := if_neg h
  rw [read]
  unfold sensorAfterReading estimated
  refine Eq.trans ?_ (if_neg h).symm
  simp only [hstep, filterStep_eq]
  rfl

end

/-- What a good reading hands on (R32). -/
theorem handing_of_heard {x : Sensor} (h : ¬ (x.health = .failed ∧ x.recoverCount = 0)) (hd : x.health ≠ .disabled) :
    ∃ how, x.handing = some how ∧ (how = .step ↔ x.health = .ok ∨ x.health = .suspect) := by
  unfold Sensor.handing
  cases hx : x.health with
  | absent => exact ⟨.prime, rfl, by simp⟩
  | ok => exact ⟨.step, rfl, by simp⟩
  | suspect => exact ⟨.step, rfl, by simp⟩
  | failed => exact ⟨.rePrime, if_neg fun h0 => h ⟨hx, h0⟩, by simp⟩
  | disabled => exact absurd hx hd

theorem handing_of_unheard {x : Sensor} (h : x.health = .failed ∧ x.recoverCount = 0) : x.handing = none := by
  obtain ⟨hf, h0⟩ := h
  unfold Sensor.handing
  rw [hf]
  exact if_pos h0

/-- The state with a reading taken: the sensor's entry, and the report of the cycle (R30, R27). -/
def readingTaken (l i : Nat) (y : Sensor) (lux : Nat) (s : State) : State := { s with
  sensors := s.sensors.set i (some y)
  sensorLines := s.sensorLines.modify l fun n => { n with report := n.report ++ [(i, lux)] } }

theorem goodReading_eq {s : State} {l i : Nat} {x : Sensor} (hx : s.sensor i = some x) (hd : x.health ≠ .disabled)
    (range count : Nat) (overrange : Bool) :
    let y := sensorAfterReading s x range count overrange
    s.goodReading l i x range count overrange
      = if x.kind = .window ∧ ¬ (x.health = .failed ∧ x.recoverCount = 0) then State.noticeWindow i (readingTaken l i y y.lux s)
        else readingTaken l i y y.lux s := by
  intro y
  have first : s.modSensor i (fun x => (x.takeReading s.tick range count overrange).goodState)
      = { s with sensors := s.sensors.set i (some (sensorRead s.tick x range count overrange)) } := State.modSensor_eq hx _
  have read := sensor_set_same (entryAt_lt hx) (sensorRead s.tick x range count overrange) s.sensorLines
  have reported : State.modSensorLine l (fun n => { n with report := n.report ++ [(i, (sensorRead s.tick x range count overrange).lux)] })
      { s with sensors := s.sensors.set i (some (sensorRead s.tick x range count overrange)) }
      = readingTaken l i (sensorRead s.tick x range count overrange) (sensorRead s.tick x range count overrange).lux s := rfl
  have lux : y.lux = (sensorRead s.tick x range count overrange).lux := by
    rw [lux_sensorRead]
    simp only [y, sensorAfterReading]
    split <;> rfl
  unfold State.goodReading
  simp only [first, read, reported]
  by_cases h : x.health = .failed ∧ x.recoverCount = 0
  · have same : sensorRead s.tick x range count overrange = y := sensorRead_unheard range count overrange h
    rw [handing_of_unheard h, if_neg fun c => c.2 h, same]
  · obtain ⟨how, hhow, hstep⟩ := handing_of_heard h hd
    have there : State.sensor (readingTaken l i (sensorRead s.tick x range count overrange)
        (sensorRead s.tick x range count overrange).lux s) i = some (sensorRead s.tick x range count overrange) := read
    have estimate_here : estimated (readingTaken l i (sensorRead s.tick x range count overrange)
        (sensorRead s.tick x range count overrange).lux s) how (sensorRead s.tick x range count overrange) = y :=
      sensorRead_heard range count overrange h hstep
    have processed : State.processReading i how (readingTaken l i (sensorRead s.tick x range count overrange)
        (sensorRead s.tick x range count overrange).lux s) = readingTaken l i y y.lux s := by
      rw [processReading_of_sensor there, estimate_here, lux]
      simp only [readingTaken, List.set_set]
    simp only [hhow, processed]
    exact if_congr ⟨fun hk => ⟨hk, h⟩, fun hk => hk.1⟩ rfl rfl

/-- Settles O33: the segments that notice a reading, and a good answer's reading. -/
theorem aGoodReadingIsTaken : Obligations.AGoodReadingIsTaken := by
  refine ⟨fun s i x segments hx hsorted hmem => noticeWindow_eq hx hsorted hmem, ?_⟩
  intro l r s t x ht hd hx hhealth hgood y u
  have there : State.sensor (s.modSensorLine l fun n => { n with txn := none }) t.sensor = some x := hx
  have applied : State.applyOutcome l t.sensor (classify (some r)) (s.modSensorLine l fun n => { n with txn := none })
      = if x.kind = .window ∧ ¬ (x.health = .failed ∧ x.recoverCount = 0) then State.noticeWindow t.sensor u else u := by
    rw [classify_good hgood]
    unfold State.applyOutcome
    simp only [there]
    have taken : readingTaken l t.sensor y y.lux (s.modSensorLine l fun n => { n with txn := none }) = u :=
      congrArg (fun lines => { s with sensors := s.sensors.set t.sensor (some y), sensorLines := lines }) (modify_modify ..)
    rw [← taken]
    exact goodReading_eq there hhealth _ _ _
  exact congrArg Host.Outcome.next ((endTxn_applied ht hd _).trans (congrArg (State.afterTxn l) applied))

end Sys2Proof.Machine
end

section
/-! PROOFS. Chapter 5: the end of a sweep, its read phases, and what each of them leads to (R95 to R104, R106, R107). -/

namespace Sys2Proof.Machine

open Sys2Proof.Safety

set_option Elab.async false

/-! ### The CAL hold (R84, R104) -/

section

variable {s : State} {z : Nat} {x : Zone}

theorem setCalHold_of_zone (h : s.zone z = some x) (held : Bool) : s.setCalHold z held
    = if x.holdCal = held then s else State.resolve z { s with zones := s.zones.set z (some { x with holdCal := held }) } := by
  unfold State.setCalHold
  rw [h]
  simp only [State.modZone_eq h]

theorem setCalHold_of_none (h : s.zone z = none) (held : Bool) : s.setCalHold z held = s := by
  unfold State.setCalHold
  rw [h]

theorem zone_setCalHold_ne {k : Nat} (hk : k ≠ z) (held : Bool) : (s.setCalHold z held).zone k = s.zone k := by
  cases h : s.zone z with
  | none => rw [setCalHold_of_none h]
  | some x =>
    rw [setCalHold_of_zone h]
    split
    · rfl
    · rw [zone_resolve_ne hk]
      exact (entryAt_set ..).trans (if_neg fun e => hk e.1.symm)

/-- A zone's CAL cause is `held`, where the zone is defined. -/
def HoldsCal (held : Bool) (z : Nat) (s : State) : Prop := ∀ x, s.zone z = some x → x.holdCal = held

theorem holdsCal_setCalHold (s : State) (z : Nat) (held : Bool) : HoldsCal held z (s.setCalHold z held) := by
  intro y hy
  cases h : s.zone z with
  | none => rw [setCalHold_of_none h, h] at hy; cases hy
  | some x =>
    rw [setCalHold_of_zone h] at hy
    by_cases same : x.holdCal = held
    · rw [if_pos same, h, Option.some.injEq] at hy
      exact hy ▸ same
    · rw [if_neg same, zone_resolve_eq (zone_set_same h _), Option.some.injEq] at hy
      obtain ⟨_, _, _, _, _, kept⟩ := resolvedZone_kept _ _ _ _
      exact hy ▸ kept

theorem HoldsCal.setCalHold {held : Bool} {k : Nat} (h : HoldsCal held k s) (z : Nat) : HoldsCal held k (s.setCalHold z held) := by
  by_cases hk : k = z
  · subst hk
    exact holdsCal_setCalHold s k held
  · intro y hy
    exact h y ((zone_setCalHold_ne hk held).symm.trans hy)

theorem holdsCal_forEach {held : Bool} (l : List Nat) (s : State) {k : Nat} (h : k ∈ l ∨ HoldsCal held k s) :
    HoldsCal held k (forEach l (fun z s => s.setCalHold z held) s) :=
  forEach_reaches (P := HoldsCal held) (fun s z => holdsCal_setCalHold s z held) (fun _ _ z h => h.setCalHold z) l s h

end

theorem zones_recomputeGlare (s : State) (seg : Nat) : (s.recomputeGlare seg).zones = s.zones := by
  unfold State.recomputeGlare
  dsimp only
  split
  · split <;> rfl
  · rfl

theorem zones_resumeGlare (s : State) : s.resumeGlare.zones = s.zones := by
  have each (l : List Nat) (s : State) : (forEach l State.recomputeGlare s).zones = s.zones := by
    induction l generalizing s with
    | nil => rfl
    | cons i l ih => rw [forEach_cons, ih, zones_recomputeGlare]
  exact each ..

/-- After the end of a sweep no zone is held for it (R104). -/
theorem holdsCal_releaseZones (s : State) (z : Nat) : HoldsCal false z s.releaseZones := by
  unfold State.releaseZones
  dsimp only
  generalize forEach s.sweep.zones State.resolve s = u
  intro x hx
  rw [State.zone, zones_resumeGlare] at hx
  refine holdsCal_forEach (u.zonesWhere Zone.holdCal) u ?_ x hx
  by_cases there : z ∈ u.zonesWhere Zone.holdCal
  · exact .inl there
  · refine .inr fun y hy => ?_
    by_contra held
    exact there (State.mem_zonesWhere.mpr ⟨y, hy, Bool.eq_true_of_not_eq_false held⟩)

theorem releaseZones_eq {s : State} {held auto : List Nat}
    (hheld : ZonesInOrder (s.sweep.zones.foldl (fun u z => State.resolve z u) s) (fun x => x.holdCal = true) held)
    (hsorted : auto.Pairwise (· < ·))
    (hauto : ∀ seg, seg ∈ auto ↔ ∃ g, (held.foldl (fun u z => State.setCalHold z false u)
      (s.sweep.zones.foldl (fun u z => State.resolve z u) s)).segments[seg]? = some g ∧ g.manual = false) :
    s.releaseZones = auto.foldl (fun u seg => State.recomputeGlare seg u)
      (held.foldl (fun u z => State.setCalHold z false u) (s.sweep.zones.foldl (fun u z => State.resolve z u) s)) := by
  have listed := eq_of_zonesInOrder (q := Zone.holdCal) hheld fun _ => Iff.rfl
  have groups (u : State) (h : ∀ seg, seg ∈ auto ↔ ∃ g, u.segments[seg]? = some g ∧ g.manual = false) :
      (indicesWhere u.segments.length fun seg => !(u.segment seg).manual) = auto := by
    have ascending : (indicesWhere u.segments.length fun seg => !(u.segment seg).manual).Pairwise (· < ·) := List.pairwise_lt_range.filter _
    refine List.Perm.eq_of_pairwise (fun a b _ _ hab hba => absurd hab (Nat.lt_asymm hba)) ascending hsorted ?_
    refine (List.perm_ext_iff_of_nodup (ascending.imp Nat.ne_of_lt) (hsorted.imp Nat.ne_of_lt)).mpr fun seg => ?_
    rw [h, mem_indicesWhere, Bool.not_eq_true']
    constructor
    · rintro ⟨hl, hm⟩
      exact ⟨u.segments[seg], List.getElem?_eq_getElem hl, by rwa [segment_of_get (List.getElem?_eq_getElem hl)] at hm⟩
    · rintro ⟨g, hg, hm⟩
      exact ⟨(List.getElem?_eq_some_iff.mp hg).1, by rwa [segment_of_get hg]⟩
  unfold State.releaseZones State.resumeGlare
  dsimp only
  simp only [forEach, ← listed, groups _ hauto]

/-! ### The end of a sweep (R104, R106, R107) -/

/-- What the release at a sweep's end leaves (R104). -/
theorem released (s : State) : s.releaseZones.sweep = s.sweep ∧ s.releaseZones.calResults = s.calResults :=
  ⟨(Moves.releaseZones (n := 2) le_rfl s).sweep_eq (by omega), (Moves.releaseZones (n := 2) le_rfl s).calResults_eq (by omega)⟩

theorem serveAbort_eq {tag : Byte} {s : State} (hr : s.running = true) : exec (.abortCalibration tag) s
    = .next (answered .abortCalibration tag .ok (flag8 s.sweeping) (if s.sweeping then s.abortSweep .host else s)) := by
  have answer : exec (.abortCalibration tag) s
      = .next (reply .direct Kind.abortCalibration.code tag (whenRunning serveAbortCalibration s)) := rfl
  rw [answer, whenRunning_of_running hr]
  rfl

/-! ### A collection (R97) -/

theorem take_opened {report : Option Nat} {cycles good sum : Nat} (h : good < 4) : (Collection.opened cycles good sum).take report
    = match report.filter fun e => decide (e < 65535) with
      | some e => if good = 3 then .closed (some (rounded (sum + e) 4))
        else if 7 ≤ cycles then .closed none else .opened (cycles + 1) (good + 1) (sum + e)
      | none => if 7 ≤ cycles then .closed none else .opened (cycles + 1) good sum := by
  have most (n : Nat) : 8 ≤ n + 1 ↔ 7 ≤ n := by omega
  have max : Config.luxMax = 65535 := rfl
  unfold Collection.take
  simp only [max, most]
  cases report.filter fun e => decide (e < 65535) with
  | none =>
    have few : ¬ 4 ≤ good + 0 := by omega
    exact if_neg few
  | some e =>
    have full : 4 ≤ good + 1 ↔ good = 3 := by omega
    exact if_congr full rfl rfl

/-! ### A read phase (R97 to R99) -/

section

variable {s : State}

theorem readCheck_open (h : ∃ m ∈ s.sweep.measured, ∃ c g v, m.coll = .opened c g v) : s.readCheck = s := by
  obtain ⟨m, hm, c, g, v, hc⟩ := h
  refine if_neg fun all => ?_
  have closed := List.all_eq_true.mp all m hm
  rw [hc] at closed
  cases closed

theorem readCheck_closed {reading : Measured → Option Nat} (h : ∀ m ∈ s.sweep.measured, m.coll = .closed (reading m)) :
    s.readCheck = match s.sweep.state with
      | .baseRead => s.endBaseRead
      | .stepRead => s.endStepRead
      | .restoreRead => s.endRestoreRead
      | _ => s :=
  if_pos (List.all_eq_true.mpr fun m hm => by rw [h m hm]; rfl)

theorem enterRead_open (st : SweepState) (h : s.sweep.measured ≠ []) : s.enterRead st = { s with sweep := { s.sweep with
    state := st, settle := none, measured := s.sweep.measured.map fun m => { m with coll := .opened 0 0 0 } } } := by
  obtain ⟨m, l, hl⟩ := List.exists_cons_of_ne_nil h
  refine readCheck_open ⟨{ m with coll := .opened 0 0 0 }, ?_, 0, 0, 0, rfl⟩
  exact List.mem_map.mpr ⟨m, by rw [hl]; exact List.mem_cons_self .., rfl⟩

/-- What each collection measures, where all have closed (R98). -/
theorem map_value {β : Type} {reading : Measured → Option Nat} (h : ∀ m ∈ s.sweep.measured, m.coll = .closed (reading m))
    (f : Measured → Option Nat → β) :
    s.sweep.measured.map (fun m => f m m.coll.value) = s.sweep.measured.map fun m => f m (reading m) :=
  List.map_congr_left fun m hm => by rw [h m hm]; rfl

/-- The state with a sweep's record replaced. -/
def withSweep (w : Sweep) (s : State) : State := { s with sweep := w }

/-- A zone's step begins (R100). -/
def stepBegun (z : Nat) (u : State) : State :=
  State.settledCheck (State.askLevel z 1000 (withSweep { u.sweep with state := .stepOn, current := some z } u))

theorem endStepRead_eq {reading : Measured → Option Nat} {z : Nat} (h : ∀ m ∈ s.sweep.measured, m.coll = .closed (reading m))
    (hz : s.sweep.current = some z) : s.endStepRead = State.settledCheck (State.askLevel z 0 { s with sweep := { s.sweep with
      state := .stepOff, measured := s.sweep.measured.map fun m => { m with step := reading m } } }) := by
  unfold State.endStepRead State.stepOff State.modSweep
  simp only [hz, map_value h fun m v => { m with step := v }]

theorem askLevel_of_zone {z level : Nat} {x : Zone} (h : s.zone z = some x) : s.askLevel z level
    = if x.state ≠ .calibrating then s
      else if x.level = level then { s with zones := s.zones.set z (some { x with level := level, target := level }) }
      else State.handLevel z { s with zones := s.zones.set z (some { x with level := level, target := level }) } := by
  unfold State.askLevel
  rw [h]
  simp only [State.modZone_eq h]
  by_cases hs : x.state = .calibrating
  · rw [if_pos hs, if_neg fun c => c hs, handIfChanged_of_zone (zone_set_same h _)]
    exact if_congr eq_comm rfl rfl
  · rw [if_neg hs, if_pos hs]

end

end Sys2Proof.Machine
end

section
/-! PROOFS. Chapter 5: the baselines, a zone's outcome and its calibration write (R41, R42, R99, R102, R103). -/

namespace Sys2Proof.Machine

open Sys2Proof.Safety

set_option Elab.async false

/-! ### Several entries of a table change, each in its own way -/

theorem getElem?_foldl_modify_keyed {α β : Type} {key : β → Nat} {l : List β} (hl : (l.map key).Nodup) (f : β → α → α)
    (t : List α) (k : Nat) : (l.foldl (fun t m => t.modify (key m) (f m)) t)[k]?
      = t[k]?.map fun a => match l.find? fun m => key m == k with
        | some m => f m a
        | none => a := by
  induction l generalizing t with
  | nil => exact (Option.map_id_fun' ▸ rfl : t[k]? = t[k]?.map fun a => a)
  | cons m l ih =>
    obtain ⟨fresh, hl⟩ := List.nodup_cons.mp hl
    rw [List.foldl_cons, ih hl, List.getElem?_modify, List.find?_cons]
    by_cases here : key m = k
    · have rest : l.find? (fun m => key m == k) = none :=
        List.find?_eq_none.mpr fun n hn same => fresh (List.mem_map.mpr ⟨n, hn, (beq_iff_eq.mp same).trans here.symm⟩)
      rw [rest, beq_iff_eq.mpr here]
      cases t[k]? <;> simp [here]
    · rw [beq_eq_false_iff_ne.mpr here]
      cases t[k]? <;> simp [here]

theorem foldl_modSensor {β : Type} (key : β → Nat) (f : β → Sensor → Sensor) (l : List β) (s : State) :
    l.foldl (fun s m => s.modSensor (key m) (f m)) s
      = { s with sensors := l.foldl (fun t m => t.modify (key m) (Option.map (f m))) s.sensors } := by
  induction l generalizing s with
  | nil => rfl
  | cons m l ih => exact ih _

theorem modSensor_self (s : State) (i : Nat) : s.modSensor i (fun x => x) = s := by
  have same : s.sensors.modify i (Option.map fun x => x) = s.sensors := by
    rw [Option.map_id_fun']
    exact List.modify_id ..
  rw [State.modSensor, same]

/-! ### The dark write (R45, R99) -/

/-- The sensors with the dark offsets of the valid baselines (R99). -/
def darkened (reading : Measured → Option Nat) (s : State) : List (Option Sensor) :=
  s.sensors.mapIdx fun i o => o.map fun x =>
    { x with darkOffset := (((s.sweep.measured.find? fun m => m.sensor == i).bind reading).map fun b => min 255 b).getD x.darkOffset }

theorem darkWrite_eq {s : State} (h : (s.sweep.measured.map Measured.sensor).Nodup) : s.darkWrite
    = { s with
      sensors := darkened Measured.base s
      sweep := { s.sweep with darkSet := (s.sweep.measured.filterMap Measured.base).length } } := by
  have writes : (s.sweep.measured.filterMap fun m => m.base.map fun b => (m.sensor, b)).foldl
      (fun s v => s.modSensor v.1 fun x => { x with darkOffset := min 255 v.2 }) s
      = s.sweep.measured.foldl (fun s m =>
        s.modSensor m.sensor fun x => { x with darkOffset := (m.base.map fun b => min 255 b).getD x.darkOffset }) s := by
    rw [List.foldl_filterMap]
    refine congrArg (fun f => s.sweep.measured.foldl f s) (funext fun t => funext fun m => ?_)
    cases m.base with
    | none => exact (modSensor_self t _).symm
    | some b => rfl
  have sensors : s.sweep.measured.foldl (fun (t : List (Option Sensor)) m => t.modify m.sensor (Option.map fun x =>
      { x with darkOffset := (m.base.map fun b => min 255 b).getD x.darkOffset })) s.sensors = darkened Measured.base s := by
    refine List.ext_getElem? fun k => ?_
    rw [getElem?_foldl_modify_keyed h, darkened, List.getElem?_mapIdx]
    cases s.sweep.measured.find? fun m => m.sensor == k with
    | none => cases s.sensors[k]? with
      | none => rfl
      | some o => cases o <;> rfl
    | some m => rfl
  unfold State.darkWrite
  dsimp only
  rw [writes, foldl_modSensor, sensors]
  refine congrArg (fun n => { s with sensors := darkened Measured.base s, sweep := { s.sweep with darkSet := n } }) ?_
  simp only [List.length_filterMap_eq_countP, Option.isSome_map]

/-! ### A zone's gain, drift and outcome (R102, R103) -/

theorem gain_eq (m : Measured) : m.gain = gainMeasured m := by
  unfold Measured.gain gainMeasured
  rcases m with ⟨_, base, step, coll⟩
  cases base with
  | none => rfl
  | some b =>
    rcases coll with _ | v
    · cases step <;> rfl
    · cases v <;> cases step <;> rfl

theorem drift_eq (m : Measured) : m.drift = driftMeasured m := by
  unfold Measured.drift driftMeasured
  rcases m with ⟨_, base, _, coll⟩
  rcases coll with _ | v
  · cases base <;> rfl
  · cases base <;> cases v <;> rfl

theorem outcomeOf_eq (control : Bool) (drift gain : Option Int) (limit floor : Nat) :
    outcomeOf control drift gain limit floor = outcomeDecided control drift gain limit floor := by
  unfold outcomeOf outcomeDecided
  cases control with
  | false => rfl
  | true =>
    cases drift with
    | none => rfl
    | some d =>
      simp only [Bool.not_true, Bool.false_eq_true, if_false, Bool.true_eq_false, Option.any_some, decide_eq_true_eq]
      by_cases far : limit < d.natAbs
      · rw [if_pos far, if_neg (Nat.not_le.mpr far)]
      · rw [if_neg far, if_pos (Nat.not_lt.mp far)]
        cases gain with
        | none => rfl
        | some k =>
          simp only [Option.any_some, decide_eq_true_eq]
          by_cases weak : k < floor
          · rw [if_pos weak, if_neg (Int.not_le.mpr weak)]
          · rw [if_neg weak, if_pos (Int.not_lt.mp weak)]

/-- The gains that a calibration write records, by sensor (R103). -/
def gainsFound (w : Sweep) : List (Nat × Nat) := w.measured.filterMap fun m => match gainMeasured m with
  | some k => if (w.gainFloor : Int) ≤ k then some (m.sensor, k.toNat) else none
  | none => none

theorem gainsFound_eq (w : Sweep) : (w.measured.filterMap fun m =>
    (m.gain.filter fun k => decide ((w.gainFloor : Int) ≤ k)).map fun k => (m.sensor, k.toNat)) = gainsFound w := by
  refine List.filterMap_congr fun m _ => ?_
  rw [gain_eq]
  cases gainMeasured m with
  | none => rfl
  | some k => by_cases h : (w.gainFloor : Int) ≤ k <;> simp [Option.filter, h]

/-- How many sensors list a zone. -/
def listings (z : Nat) (s : State) : Nat :=
  ((List.range s.sensors.length).filter fun i => (s.sensor i).any fun c => c.contrib.any fun k => k.zone == z).length

theorem listedBy_length (z : Nat) (s : State) : (s.listedBy z).length = listings z s := by
  unfold State.listedBy State.sensorsWhere listings indicesWhere gainIn
  simp only [Option.isSome_map, List.isSome_find?]

/-- A zone with its control sensor's measurements. -/
def measuredAt (w : Sweep) (x : Zone) : Option Measured := x.cfg.controlSensor.bind fun c => w.measured.find? fun m => m.sensor == c

/-- The outcome of a zone from what its control sensor measured (R103). -/
def kindDecided (w : Sweep) (x : Zone) : CalKind := outcomeDecided x.cfg.controlSensor.isSome
  ((measuredAt w x).bind driftMeasured) ((measuredAt w x).bind gainMeasured) w.driftLimit w.gainFloor

/-- The state after a zone's calibration write (R103). -/
def gainsWritten (z : Nat) (s : State) : State := s.calibrationWrite z s.sweep.gainFloor (gainsFound s.sweep)

theorem decideZone_eq {s : State} {z : Nat} {x : Zone} (h : s.zone z = some x) : s.decideZone z
    = if kindDecided s.sweep x = .drift then
        s.setCalResult z ⟨.drift, (measuredAt s.sweep x).bind gainMeasured, (measuredAt s.sweep x).bind driftMeasured, 0, 0⟩
      else (gainsWritten z s).setCalResult z
        ⟨kindDecided s.sweep x, (measuredAt s.sweep x).bind gainMeasured, (measuredAt s.sweep x).bind driftMeasured,
          listings z (gainsWritten z s), (gainsFound s.sweep).length - listings z (gainsWritten z s)⟩ := by
  have gains : Measured.gain = gainMeasured := funext gain_eq
  have drifts : Measured.drift = driftMeasured := funext drift_eq
  unfold State.decideZone
  simp only [gainsFound_eq]
  simp only [h, Option.bind_some, outcomeOf_eq, listedBy_length, gains, drifts]
  rfl

/-! ### The calibration write (R41, R42) -/

theorem weakest_of_cons (c : Contrib) (l : List Contrib) : ∃ d, weakest (c :: l) = some d := by
  unfold weakest
  cases weakest l with
  | none => exact ⟨c, rfl⟩
  | some d => by_cases h : c.gain < d.gain <;> simp [h]

theorem weakest_spec {l : List Contrib} (hl : (l.map Contrib.zone).Pairwise (· < ·)) {d : Contrib} (h : weakest l = some d) :
    Weakest l d := by
  induction l generalizing d with
  | nil => cases h
  | cons c l ih =>
    obtain ⟨after, hl⟩ := List.pairwise_cons.mp hl
    cases l with
    | nil =>
      cases h
      exact ⟨List.mem_singleton_self _, fun e he => .inr ⟨by rw [List.mem_singleton.mp he], by rw [List.mem_singleton.mp he]⟩⟩
    | cons b l =>
      obtain ⟨e, he⟩ := weakest_of_cons b l
      obtain ⟨mem, least⟩ := ih hl he
      have later : c.zone < e.zone := after _ (List.mem_map.mpr ⟨e, mem, rfl⟩)
      rw [weakest, he] at h
      by_cases less : c.gain < e.gain
      · simp only [if_pos less, Option.some.injEq] at h
        subst h
        refine ⟨List.mem_cons_self .., fun f hf => ?_⟩
        rcases List.mem_cons.mp hf with rfl | hf
        · exact .inr ⟨rfl, Nat.le_refl _⟩
        · rcases least f hf with l | ⟨l, _⟩ <;> exact .inl (by omega)
      · simp only [if_neg less, Option.some.injEq] at h
        subst h
        refine ⟨List.mem_cons_of_mem _ mem, fun f hf => ?_⟩
        rcases List.mem_cons.mp hf with rfl | hf
        · by_cases same : e.gain = f.gain
          · exact .inr ⟨same, Nat.le_of_lt later⟩
          · exact .inl (by omega)
        · exact least f hf

theorem weakest_unique {l : List Contrib} (hl : (l.map Contrib.zone).Nodup) {v w : Contrib} (hv : Weakest l v) (hw : Weakest l w) :
    v = w := by
  obtain ⟨memv, leastv⟩ := hv
  obtain ⟨memw, leastw⟩ := hw
  refine List.inj_on_of_nodup_map hl memv memw ?_
  rcases leastv w memw with a | ⟨a, b⟩ <;> rcases leastw v memv with c | ⟨c, d⟩ <;> omega

/-- What `placeContrib` leaves of a list without the zone's own entry (R41, R42). -/
theorem placeContrib_spec {l : List Contrib} {c : Contrib} (hl : (l.map Contrib.zone).Pairwise (· < ·))
    (hc : c.zone ∉ l.map Contrib.zone) (hlen : l.length ≤ 8) :
    ((placeContrib c l).map Contrib.zone).Pairwise (· < ·)
      ∧ (l.length < 8 → (placeContrib c l).Perm (c :: l))
      ∧ ∀ w, l.length = 8 → Weakest l w → if w.gain < c.gain then
          (placeContrib c l).Perm (c :: l.filter fun d => d.zone != w.zone) else placeContrib c l = l := by
  have most : Config.maxContrib = 8 := rfl
  unfold placeContrib
  rw [most]
  by_cases room : l.length < 8
  · rw [if_pos room]
    exact ⟨insertContrib_sorted hl hc, fun _ => insertContrib_perm c l, fun w full => absurd full (by omega)⟩
  · rw [if_neg room]
    obtain ⟨b, rest, rfl⟩ := List.exists_cons_of_length_pos (l := l) (by omega)
    obtain ⟨d, hd⟩ := weakest_of_cons b rest
    have spec := weakest_spec hl hd
    simp only [hd]
    refine ⟨?_, fun less => absurd less room, fun w _ hw => ?_⟩
    · split
      · have kept : ((removeZone d.zone (b :: rest)).map Contrib.zone).Sublist ((b :: rest).map Contrib.zone) := List.filter_sublist.map _
        exact insertContrib_sorted (hl.sublist kept) fun mem => hc (kept.subset mem)
      · exact hl
    · obtain rfl := weakest_unique (hl.imp Nat.ne_of_lt) spec hw
      by_cases less : d.gain < c.gain
      · rw [if_pos less, if_pos less]
        exact insertContrib_perm ..
      · rw [if_neg less, if_neg less]

/-- What a measured gain makes of a sensor's list (R41). -/
def gainWritten (z floor : Nat) (m : Nat × Nat) (x : Sensor) : Sensor :=
  if floor ≤ m.2 then { x with contrib := placeContrib ⟨z, min m.2 4095⟩ x.contrib } else x

theorem calibrationWrite_eq (z floor : Nat) (found : List (Nat × Nat)) (s : State) : s.calibrationWrite z floor found
    = { s with
      sensors := found.foldl (fun t m => t.modify m.1 (Option.map (gainWritten z floor m)))
        (s.sensors.map (Option.map fun x => { x with contrib := removeZone z x.contrib })) } := by
  have each (t : State) (m : Nat × Nat) : (if floor ≤ m.2 then t.modContrib m.1 (placeContrib ⟨z, min m.2 4095⟩) else t)
      = t.modSensor m.1 (gainWritten z floor m) := by
    unfold gainWritten
    by_cases h : floor ≤ m.2
    · simp only [if_pos h]
      rfl
    · simp only [if_neg h]
      exact (modSensor_self t _).symm
  unfold State.calibrationWrite
  simp only [each]
  exact foldl_modSensor ..

theorem sensor_calibrationWrite {z floor i : Nat} {found : List (Nat × Nat)} {s : State} {x : Sensor} (h : s.sensor i = some x)
    (hn : (found.map Prod.fst).Nodup) : (s.calibrationWrite z floor found).sensor i
      = some (match found.find? fun m => m.1 == i with
        | some m => gainWritten z floor m { x with contrib := removeZone z x.contrib }
        | none => { x with contrib := removeZone z x.contrib }) := by
  have there : s.sensors[i]? = some (some x) := Option.join_eq_some_iff.mp h
  rw [calibrationWrite_eq, State.sensor, entryAt, getElem?_foldl_modify_keyed hn, List.getElem?_map, there]
  cases found.find? fun m => m.1 == i <;> rfl

theorem find?_of_found {found : List (Nat × Nat)} (hn : (found.map Prod.fst).Nodup) {i k : Nat} (h : (i, k) ∈ found) :
    found.find? (fun m => m.1 == i) = some (i, k) := by
  obtain ⟨m, hm⟩ := Option.isSome_iff_exists.mp (List.find?_isSome.mpr ⟨(i, k), h, beq_self_eq_true i⟩ :
    (found.find? fun m => m.1 == i).isSome = true)
  rw [hm]
  exact congrArg some (List.inj_on_of_nodup_map hn (List.mem_of_find?_eq_some hm) h (beq_iff_eq.mp (List.find?_some (p := fun m : Nat × Nat => m.1 == i) hm)))

/-- A sensor's list after a calibration write (R41, R42). -/
theorem calibrationWrite_spec {z floor i : Nat} {found : List (Nat × Nat)} {s : State} {x : Sensor} (h : s.sensor i = some x)
    (hn : (found.map Prod.fst).Nodup) (hx : (x.contrib.map Contrib.zone).Pairwise (· < ·)) (hlen : x.contrib.length ≤ 8) :
    ∃ r, (s.calibrationWrite z floor found).sensor i = some { x with contrib := r }
      ∧ ((∀ k, (i, k) ∈ found → k < floor) → r = x.contrib.filter fun c => c.zone != z)
      ∧ ∀ k, (i, k) ∈ found → floor ≤ k →
        (r.map Contrib.zone).Pairwise (· < ·)
          ∧ ((x.contrib.filter fun c => c.zone != z).length < 8 → r.Perm (⟨z, min k 4095⟩ :: x.contrib.filter fun c => c.zone != z))
          ∧ (∀ w, (x.contrib.filter fun c => c.zone != z).length = 8 → Weakest (x.contrib.filter fun c => c.zone != z) w →
            if w.gain < min k 4095 then
              r.Perm (⟨z, min k 4095⟩ :: (x.contrib.filter fun c => c.zone != z).filter fun c => c.zone != w.zone)
            else r = x.contrib.filter fun c => c.zone != z) := by
  have kept : ((removeZone z x.contrib).map Contrib.zone).Pairwise (· < ·) := hx.sublist (List.filter_sublist.map _)
  have own : z ∉ (removeZone z x.contrib).map Contrib.zone := by simp [removeZone]
  have short : (removeZone z x.contrib).length ≤ 8 := (List.length_filter_le ..).trans hlen
  rw [sensor_calibrationWrite h hn]
  cases hm : found.find? fun m => m.1 == i with
  | none =>
    refine ⟨removeZone z x.contrib, rfl, fun _ => rfl, fun k hk => ?_⟩
    rw [find?_of_found hn hk] at hm
    cases hm
  | some m =>
    obtain ⟨j, k⟩ := m
    obtain rfl : j = i := beq_iff_eq.mp (List.find?_some (p := fun m : Nat × Nat => m.1 == i) hm)
    have mem : (j, k) ∈ found := List.mem_of_find?_eq_some hm
    by_cases enough : floor ≤ k
    · refine ⟨placeContrib ⟨z, min k 4095⟩ (removeZone z x.contrib), congrArg some (if_pos enough),
        fun weak => absurd (weak k mem) (Nat.not_lt.mpr enough), fun k' hk' _ => ?_⟩
      obtain ⟨⟩ := (find?_of_found hn hk').symm.trans hm
      exact placeContrib_spec kept own short
    · refine ⟨removeZone z x.contrib, congrArg some (if_neg enough), fun _ => rfl, fun k' hk' enough' => ?_⟩
      obtain ⟨⟩ := (find?_of_found hn hk').symm.trans hm
      exact absurd enough' enough

/-- The outcome of a zone leaves the sweep's record as it is (R103). -/
theorem sweep_decideZone (z : Nat) (s : State) : (s.decideZone z).sweep = s.sweep := by
  unfold State.decideZone
  dsimp only
  rw [calibrationWrite_eq]
  split <;> rfl

end Sys2Proof.Machine
end

section
/-! PROOFS. Chapter 5: a sweep is aborted, reads, measures, decides and ends (R96 to R107). -/

namespace Sys2Proof.Machine

open Sys2Proof.Safety

set_option Elab.async false

/-! ### What a sweep's end leaves (R104, R107) -/

/-- `t` comes from `u`, whose sweep record is at its end, by what the other blocks do at the end of a sweep. -/
structure SweepLeft (u t : State) : Prop where
  sweep : t.sweep = u.sweep
  calResults : t.calResults = u.calResults
  holds : ∀ z x, t.zone z = some x → x.holdCal = false
  flag : hasFlag t.flags.latched .calFinished = true
  zones : t.zones.map (Option.map Zone.cfg) = u.zones.map (Option.map Zone.cfg)
  segments : t.segments.map Segment.cfg = u.segments.map Segment.cfg
  gear : t.gear.map (Option.map gearShadeCore) = u.gear.map (Option.map gearShadeCore)
  lines : t.gearLines.map lineCore = u.gearLines.map lineCore
  rest : t = { u with
    zones := t.zones, segments := t.segments, gear := t.gear, gearLines := t.gearLines, flags := t.flags, live := t.live }

theorem sweepLeft (u : State) : SweepLeft u (u.releaseZones.latch .calFinished) := by
  have moved : Moves 2 u u.releaseZones := Moves.releaseZones le_rfl u
  have free := holdsCal_releaseZones u
  generalize u.releaseZones = t at moved free
  refine ⟨moved.sweep_eq (by omega), moved.calResults_eq (by omega), fun z x h => free z x h,
    by rw [hasFlag_latch]; simp, moved.zoneCfg_eq (by omega), moved.segmentCfg_eq (by omega), moved.gearShadeCore_eq (by omega),
    moved.lineCore_eq (by omega), ?_⟩
  exact congrArg (State.latch .calFinished) moved.rest2

theorem abortSweep_left (c : AbortCause) (s : State) : SweepLeft (sweepAborted c s) (s.abortSweep c) := by
  rw [abortSweep_eq]
  exact sweepLeft _

theorem finishSweep_eq (s : State) :
    s.finishSweep = (withSweep (sweepEnded .finished .absent s.sweep) s).releaseZones.latch .calFinished := rfl

theorem finishSweep_left (s : State) : SweepLeft (withSweep (sweepEnded .finished .absent s.sweep) s) s.finishSweep := by
  rw [finishSweep_eq]
  exact sweepLeft _

/-- The outcome of a zone with its result in the table as it was before (R103). -/
theorem decideZone_results {s : State} {z : Nat} {x : Zone} (h : s.zone z = some x) : s.decideZone z
    = if kindDecided s.sweep x = .drift then
        { s with
          calResults := s.calResults.set z
            { result := .drift, ownGain := (measuredAt s.sweep x).bind gainMeasured
              drift := (measuredAt s.sweep x).bind driftMeasured, written := 0, discarded := 0 } }
      else
        { gainsWritten z s with
          calResults := s.calResults.set z
            { result := kindDecided s.sweep x, ownGain := (measuredAt s.sweep x).bind gainMeasured
              drift := (measuredAt s.sweep x).bind driftMeasured, written := listings z (gainsWritten z s)
              discarded := (gainsFound s.sweep).length - listings z (gainsWritten z s) } } := by
  have kept : (gainsWritten z s).calResults = s.calResults := by
    rw [gainsWritten, calibrationWrite_eq]
  rw [decideZone_eq h]
  refine if_congr Iff.rfl rfl ?_
  rw [State.setCalResult, kept]

/-! ### The ends of the read phases (R98 to R103) -/

section

variable {s : State} {reading : Measured → Option Nat}

/-- The measured sensors with the readings of a phase as their baselines (R98). -/
def based (reading : Measured → Option Nat) (w : Sweep) : Sweep :=
  { w with measured := w.measured.map fun m => { m with base := reading m } }

theorem sensors_based (w : Sweep) : (based reading w).measured.map Measured.sensor = w.measured.map Measured.sensor := by
  rw [based, List.map_map]
  rfl

theorem darkened_based : darkened Measured.base (withSweep (based reading s.sweep) s) = darkened reading s := by
  refine List.ext_getElem? fun i => ?_
  rw [darkened, darkened, List.getElem?_mapIdx, List.getElem?_mapIdx]
  have found : ((withSweep (based reading s.sweep) s).sweep.measured.find? fun m => m.sensor == i).bind Measured.base
      = (s.sweep.measured.find? fun m => m.sensor == i).bind reading := by
    rw [withSweep, based, List.find?_map]
    cases h : s.sweep.measured.find? fun m => m.sensor == i <;> simp [h]
  rw [found]
  rfl

/-- The baselines of a read phase, with the dark write where the sweep's parts ask for it (R99). -/
def baseRead (reading : Measured → Option Nat) (s : State) : State :=
  if s.sweep.dark then
    { s with
      sensors := darkened reading s
      sweep := { based reading s.sweep with darkSet := (s.sweep.measured.filterMap reading).length } }
  else { s with sweep := based reading s.sweep }

theorem sweep_baseRead : (baseRead reading s).sweep.gains = s.sweep.gains ∧ (baseRead reading s).sweep.zones = s.sweep.zones := by
  unfold baseRead
  split <;> exact ⟨rfl, rfl⟩

theorem endBaseRead_eq (h : ∀ m ∈ s.sweep.measured, m.coll = .closed (reading m))
    (hn : (s.sweep.measured.map Measured.sensor).Nodup) : s.endBaseRead
      = match s.sweep.gains, s.sweep.zones with
        | true, z :: _ => stepBegun z (baseRead reading s)
        | _, _ => (baseRead reading s).finishSweep := by
  have read : s.modSweep (fun w => { w with measured := w.measured.map fun m => { m with base := m.coll.value } })
      = withSweep (based reading s.sweep) s :=
    congrArg (fun l => { s with sweep := { s.sweep with measured := l } }) (map_value h fun m v => { m with base := v })
  have count : ((based reading s.sweep).measured.filterMap Measured.base).length = (s.sweep.measured.filterMap reading).length := by
    rw [based, List.filterMap_map]
    rfl
  have dark : (withSweep (based reading s.sweep) s).darkWrite = { s with
      sensors := darkened reading s
      sweep := { based reading s.sweep with darkSet := (s.sweep.measured.filterMap reading).length } } := by
    rw [darkWrite_eq (by rw [← sensors_based (reading := reading)] at hn; exact hn), darkened_based, ← count]
    rfl
  have written : (if (withSweep (based reading s.sweep) s).sweep.dark then (withSweep (based reading s.sweep) s).darkWrite
      else withSweep (based reading s.sweep) s) = baseRead reading s := by
    rw [dark]
    rfl
  obtain ⟨gains, zones⟩ := sweep_baseRead (s := s) (reading := reading)
  unfold State.endBaseRead
  dsimp only
  rw [read, written, gains, zones]
  rfl

/-- A zone has its outcome, and the readings of the phase are the next baselines (R103). -/
def restoreRead (reading : Measured → Option Nat) (z : Nat) (s : State) : State :=
  { s.decideZone z with
    sweep := { (s.decideZone z).sweep with
      zonesDone := s.sweep.zonesDone + 1, measured := s.sweep.measured.map fun m => { m with base := reading m } } }

theorem endRestoreRead_eq (h : ∀ m ∈ s.sweep.measured, m.coll = .closed (reading m)) {z : Nat} (hz : s.sweep.current = some z) :
    s.endRestoreRead = match s.sweep.zones.find? fun y => decide (z < y) with
      | some y => stepBegun y (restoreRead reading z s)
      | none => (restoreRead reading z s).finishSweep := by
  have kept := sweep_decideZone z s
  have read : (s.decideZone z).modSweep (fun w =>
      { w with zonesDone := w.zonesDone + 1, measured := w.measured.map fun m => { m with base := m.coll.value } })
      = restoreRead reading z s := by
    unfold State.modSweep restoreRead
    rw [kept]
    exact congrArg (fun l => { s.decideZone z with sweep := { s.sweep with zonesDone := s.sweep.zonesDone + 1, measured := l } })
      (map_value h fun m v => { m with base := v })
  have zones : (restoreRead reading z s).sweep.zones = s.sweep.zones := by
    show (s.decideZone z).sweep.zones = s.sweep.zones
    rw [kept]
  unfold State.endRestoreRead
  rw [hz]
  dsimp only
  rw [read, zones]
  rfl

end

/-! ### ABORT_CALIBRATION, CAL_SETTLE_EXPIRY, and what a sweep measures and decides -/

theorem abortCalibration_answers (tag : Byte) {s : State} (hr : s.running = true) (hs : s.sweeping = true) : ∃ t,
    exec (.abortCalibration tag) s = .next (answered .abortCalibration tag .ok [1] t)
      ∧ t = State.abortSweep .host s ∧ t.sweep = sweepEnded .aborted .host s.sweep
      ∧ t.calResults = (match s.sweep.current with
        | some z => s.calResults.set z { result := .aborted, ownGain := none, drift := none, written := 0, discarded := 0 }
        | none => s.calResults)
      ∧ (∀ z x, t.zone z = some x → x.holdCal = false) ∧ hasFlag t.flags.latched .calFinished = true
      ∧ t.zones.map (Option.map Zone.cfg) = s.zones.map (Option.map Zone.cfg)
      ∧ t.segments.map Segment.cfg = s.segments.map Segment.cfg
      ∧ t.gear.map (Option.map gearShadeCore) = s.gear.map (Option.map gearShadeCore)
      ∧ t.gearLines.map lineCore = s.gearLines.map lineCore
      ∧ t = { s with
        zones := t.zones, segments := t.segments, gear := t.gear, gearLines := t.gearLines, sweep := t.sweep
        calResults := t.calResults, flags := t.flags, live := t.live } := by
  have left := abortSweep_left .host s
  refine ⟨s.abortSweep .host, ?_, rfl, left.sweep, left.calResults, left.holds, left.flag, left.zones, left.segments, left.gear,
    left.lines, ?_⟩
  · rw [serveAbort_eq hr, hs]
    rfl
  · rw [left.sweep, left.calResults]
    exact left.rest

theorem finishSweep_leaves (s : State) :
    s.finishSweep = State.latch .calFinished (State.releaseZones { s with sweep := sweepEnded .finished .absent s.sweep })
      ∧ s.finishSweep.sweep = sweepEnded .finished .absent s.sweep
      ∧ (∀ z x, s.finishSweep.zone z = some x → x.holdCal = false)
      ∧ hasFlag s.finishSweep.flags.latched .calFinished = true
      ∧ s.finishSweep.zones.map (Option.map Zone.cfg) = s.zones.map (Option.map Zone.cfg)
      ∧ s.finishSweep.segments.map Segment.cfg = s.segments.map Segment.cfg
      ∧ s.finishSweep = { s with
        zones := s.finishSweep.zones, segments := s.finishSweep.segments, gear := s.finishSweep.gear
        gearLines := s.finishSweep.gearLines, sweep := s.finishSweep.sweep
        flags := s.finishSweep.flags, live := s.finishSweep.live } := by
  have left := finishSweep_left s
  refine ⟨rfl, left.sweep, left.holds, left.flag, left.zones, left.segments, ?_⟩
  rw [left.sweep]
  exact left.rest

theorem settleExpiry_enters {s : State} {st : SweepState}
    (h : (s.sweep.state = .baseSettle ∧ st = .baseRead) ∨ (s.sweep.state = .stepSettle ∧ st = .stepRead)
      ∨ (s.sweep.state = .restoreSettle ∧ st = .restoreRead)) (timer : s.sweep.settle.isSome = true) :
    exec .calSettleExpiry s = .next (s.enterRead st) := by
  refine congrArg Host.Outcome.next ((if_pos timer).trans ?_)
  obtain ⟨h, rfl⟩ | ⟨h, rfl⟩ | ⟨h, rfl⟩ := h <;> rw [h]

/-- What each end of a read phase leads to (R98 to R103). -/
theorem readCheck_ends {s : State} {reading : Measured → Option Nat} (h : ∀ m ∈ s.sweep.measured, m.coll = .closed (reading m)) :
    (s.sweep.state = .baseRead → s.readCheck = s.endBaseRead)
      ∧ (s.sweep.state = .stepRead → s.readCheck = s.endStepRead)
      ∧ (s.sweep.state = .restoreRead → s.readCheck = s.endRestoreRead) := by
  rw [readCheck_closed h]
  exact ⟨fun at_ => by rw [at_], fun at_ => by rw [at_], fun at_ => by rw [at_]⟩

/-- Settles O40: the sweep's end is the release of its zones with the record at IDLE; each read phase's end is read off the closed
collections. -/
theorem aSweepIsAbortedOrReads : Obligations.ASweepIsAbortedOrReads := by
  unfold Obligations.ASweepIsAbortedOrReads
  intro tag s
  refine ⟨?_, ?_, ?_, ?_, ?_, ?_, ?_, ?_, ?_, ?_, ?_, ?_, ?_, ?_⟩
  · intro hr hs
    rw [serveAbort_eq hr, hs]
    rfl
  · exact fun hr hs => abortCalibration_answers tag hr hs
  · intro none
    exact congrArg Host.Outcome.next (if_neg (by rw [none]; decide))
  · intro st h timer
    refine ⟨settleExpiry_enters h timer, fun some => ?_⟩
    rw [settleExpiry_enters h timer, enterRead_open st some]
  · exact fun report v cycles good sum few => ⟨rfl, take_opened few⟩
  · exact fun l report => rfl
  · exact readCheck_open
  · intro reading h hn
    obtain ⟨base, step, restore⟩ := readCheck_ends h
    refine ⟨fun at_ => ?_, fun z at_ hz => ?_, fun z at_ hz => ?_⟩
    · exact (base at_).trans (endBaseRead_eq h hn)
    · exact (step at_).trans (endStepRead_eq h hz)
    · exact (restore at_).trans (endRestoreRead_eq h hz)
  · exact fun z level x hx => askLevel_of_zone hx
  · exact fun z x hx => decideZone_results hx
  · intro z floor found i x hx hn sorted short
    exact ⟨by rw [calibrationWrite_eq], calibrationWrite_spec hx hn sorted short⟩
  · exact fun c => abortSweep_eq c s
  · exact fun held auto hheld sorted hauto => releaseZones_eq hheld sorted hauto
  · exact finishSweep_leaves s

end Sys2Proof.Machine
end

section
/-! PROOFS. Chapter 5: the start of a sweep, and the settled test (R92, R93, R95, R96, R105). -/

namespace Sys2Proof.Machine

open Sys2Proof.Safety

set_option Elab.async false

/-! ### Output settled (R95) -/

section

variable {s : State}

theorem sameSlot_any {q : List Entry} {k : Target} : q.any (Entry.sameSlot k .level) = true
    ↔ ∃ e ∈ q, e.orphan = false ∧ e.target = k ∧ e.cmd.cls = .level := by
  simp only [List.any_eq_true, Entry.sameSlot, Bool.and_eq_true, Bool.not_eq_true', decide_eq_true_eq, and_assoc]

theorem zoneSettled_iff {z : Nat} : s.zoneSettled z = true ↔ Settled s z := by
  have none : (s.gearWhere (Gear.drives z)).isEmpty = true ↔ ∀ i g, s.gearAt i = some g → g.cfg.role ≠ .driver z := by
    simp only [List.isEmpty_iff, List.eq_nil_iff_forall_not_mem, State.mem_gearWhere, drives_iff, not_exists, not_and, ne_eq]
  have each (i : Nat) : s.gearSettled i = true ↔ ∀ g, s.gearAt i = some g → g.state = .silent ∨ (g.dirty = .clear
      ∧ ¬ ∃ e ∈ (s.gearLine g.cfg.line).queue, e.orphan = false ∧ e.target = .gear i ∧ e.cmd.cls = .level) := by
    simp only [State.gearSettled, option_all_iff, Bool.or_eq_true, Bool.and_eq_true, decide_eq_true_eq, Bool.not_eq_true',
      ← Bool.not_eq_true, sameSlot_any]
    exact Iff.rfl
  have drivers : (s.gearWhere (Gear.drives z)).all s.gearSettled = true ↔ ∀ i g, s.gearAt i = some g → g.cfg.role = .driver z →
      g.state = .silent ∨ (g.dirty = .clear
        ∧ ¬ ∃ e ∈ (s.gearLine g.cfg.line).queue, e.orphan = false ∧ e.target = .gear i ∧ e.cmd.cls = .level) := by
    simp only [List.all_eq_true, State.mem_gearWhere, drives_iff, each]
    exact ⟨fun h i g hg hrole => h i ⟨g, hg, hrole⟩ g hg,
      fun h i ⟨g, hg, hrole⟩ g' hg' => h i g' hg' (Option.some.inj (hg.symm.trans hg') ▸ hrole)⟩
  have groups : (s.zone z).all s.groupsSettled = true ↔ ∀ x l k, s.zone z = some x → l < 4 → x.cfg.groups.on l = some k →
      ¬ ∃ e ∈ (s.gearLine l).queue, e.orphan = false ∧ e.target = .group k ∧ e.cmd.cls = .level := by
    simp only [State.groupsSettled, option_all_iff, List.all_eq_true, List.mem_range, Bool.not_eq_true', ← Bool.not_eq_true,
      sameSlot_any]
    exact ⟨fun h x l k hx hl hk => h x hx l hl k hk, fun h x hx l hl k hk => h x l k hx hl hk⟩
  unfold State.zoneSettled Settled
  simp only [Bool.or_eq_true, Bool.and_eq_true, none, drivers, groups]

theorem allSettled_iff {l : List Nat} : l.all s.zoneSettled = true ↔ ∀ z ∈ l, Settled s z := by
  simp only [List.all_eq_true, zoneSettled_iff]

theorem settledCheck_awaits {awaited : List Nat} {next : SweepState}
    (h : (s.sweep.state = .preparing ∧ awaited = s.sweep.zones ∧ next = .baseSettle)
      ∨ (s.sweep.state = .stepOn ∧ awaited = s.sweep.current.toList ∧ next = .stepSettle)
      ∨ (s.sweep.state = .stepOff ∧ awaited = s.sweep.current.toList ∧ next = .restoreSettle)) :
    s.settledCheck = if awaited.all s.zoneSettled then { s with sweep := settling next s.tick s.sweep } else s := by
  have current : s.sweep.current.all s.zoneSettled = s.sweep.current.toList.all s.zoneSettled := by
    cases s.sweep.current <;> simp
  unfold State.settledCheck
  obtain ⟨h, rfl, rfl⟩ | ⟨h, rfl, rfl⟩ | ⟨h, rfl, rfl⟩ := h
  · rw [h]
    rfl
  · rw [h, current]
    rfl
  · rw [h, current]
    rfl

theorem settledCheck_waits {awaited : List Nat} {next : SweepState}
    (h : (s.sweep.state = .preparing ∧ awaited = s.sweep.zones ∧ next = .baseSettle)
      ∨ (s.sweep.state = .stepOn ∧ awaited = s.sweep.current.toList ∧ next = .stepSettle)
      ∨ (s.sweep.state = .stepOff ∧ awaited = s.sweep.current.toList ∧ next = .restoreSettle)) :
    ((∀ z ∈ awaited, Settled s z) → s.settledCheck = { s with sweep := settling next s.tick s.sweep })
      ∧ ((∃ z ∈ awaited, ¬ Settled s z) → s.settledCheck = s) := by
  rw [settledCheck_awaits h]
  refine ⟨fun all => if_pos (allSettled_iff.mpr all), fun ⟨z, hz, open_⟩ => if_neg fun all => open_ (allSettled_iff.mp all z hz)⟩

theorem settledCheck_other (h1 : s.sweep.state ≠ .preparing) (h2 : s.sweep.state ≠ .stepOn) (h3 : s.sweep.state ≠ .stepOff) :
    s.settledCheck = s := by
  unfold State.settledCheck
  split
  · next h => exact absurd h h1
  · next h => exact absurd h h2
  · next h => exact absurd h h3
  · rfl

end

/-! ### The zones of the set, and the others (R93) -/

/-- A zone stands in CALIBRATING, where it is defined. -/
def Calibrating (z : Nat) (s : State) : Prop := ∀ x, s.zone z = some x → x.state = .calibrating

/-- A zone stands in CALIBRATING at level 0, where it is defined. -/
def Darkened (z : Nat) (s : State) : Prop := ∀ x, s.zone z = some x → x.state = .calibrating ∧ x.level = 0 ∧ x.target = 0

/-- A zone outside the sweep has no override, and stands in HOLD where it is enabled and has the CAL hold. -/
def HeldOutside (z : Nat) (s : State) : Prop := z ∉ s.sweep.zones → ∀ x, s.zone z = some x →
  x.overrideActive = false ∧ (x.cfg.enabled = true → x.holdCal = true → x.state = .hold)

theorem zone_askLevel_ne (s : State) {k z : Nat} (h : k ≠ z) (level : Nat) : (s.askLevel z level).zone k = s.zone k := by
  cases hz : s.zone z with
  | none => unfold State.askLevel; rw [hz]
  | some x =>
    have kept : entryAt (s.zones.set z (some { x with level := level, target := level })) k = s.zone k :=
      (entryAt_set ..).trans (if_neg fun e => h e.1.symm)
    rw [askLevel_of_zone hz]
    split
    · rfl
    · split
      · exact kept
      · exact (zone_handLevel ..).trans kept

theorem askLevel_darkens {s : State} {z : Nat} (h : Calibrating z s) : Darkened z (s.askLevel z 0) := by
  intro y hy
  cases hz : s.zone z with
  | none =>
    unfold State.askLevel at hy
    rw [hz] at hy
    exact absurd (hz.symm.trans hy) (by simp)
  | some x =>
    have here : ({ s with zones := s.zones.set z (some { x with level := 0, target := 0 }) } : State).zone z = _ := zone_set_same hz _
    rw [askLevel_of_zone hz, if_neg (not_not.mpr (h x hz))] at hy
    have same : y = { x with level := 0, target := 0 } := by
      split at hy
      · exact Option.some.inj (hy.symm.trans here)
      · exact Option.some.inj (hy.symm.trans ((zone_handLevel ..).trans here))
    subst same
    exact ⟨h x hz, rfl, rfl⟩

theorem calibrating_askLevel {s : State} {k z : Nat} (h : Calibrating k s) : Calibrating k (s.askLevel z 0) := by
  by_cases hk : k = z
  · subst hk
    exact fun y hy => (askLevel_darkens h y hy).1
  · exact fun y hy => h y ((zone_askLevel_ne s hk 0).symm.trans hy)

theorem darkened_forEach {l : List Nat} {s : State} (h : ∀ z ∈ l, Calibrating z s) {k : Nat} (hk : k ∈ l ∨ Darkened k s) :
    Darkened k (forEach l (fun z s => s.askLevel z 0) s) := by
  induction l generalizing s with
  | nil => exact hk.resolve_left List.not_mem_nil
  | cons z l ih =>
    rw [forEach_cons]
    refine ih (fun y hy => calibrating_askLevel (h y (List.mem_cons_of_mem z hy))) ?_
    by_cases here : k = z
    · subst here
      exact .inr (askLevel_darkens (h k (List.mem_cons_self ..)))
    · refine hk.imp (fun mem => (List.mem_cons.mp mem).resolve_left here) fun dark x hx => ?_
      exact dark x ((zone_askLevel_ne s here 0).symm.trans hx)

/-- A change made for each index of a list leaves a zone outside the list as it is, where each change does. -/
theorem zone_forEach_of_notMem {f : Nat → State → State} {k : Nat} (keeps : ∀ s z, k ≠ z → (f z s).zone k = s.zone k) {l : List Nat}
    (hk : k ∉ l) (s : State) : (forEach l f s).zone k = s.zone k := by
  induction l generalizing s with
  | nil => rfl
  | cons z l ih =>
    obtain ⟨ne, hk⟩ := not_or.mp (List.mem_cons.not.mp hk)
    rw [forEach_cons, ih hk, keeps s z ne]

theorem heldOutside_setCalHold {s : State} {k : Nat} (h : HeldOutside k s) (z : Nat) : HeldOutside k (s.setCalHold z true) := by
  have sweep : (s.setCalHold z true).sweep = s.sweep := (Moves.setCalHold (n := 1) le_rfl s z true).sweep_eq (by omega)
  intro out y hy
  rw [sweep] at out
  by_cases hk : k = z
  · subst hk
    cases hx : s.zone k with
    | none => rw [setCalHold_of_none hx, hx] at hy; cases hy
    | some x =>
      rw [setCalHold_of_zone hx] at hy
      by_cases held : x.holdCal = true
      · rw [if_pos held] at hy
        exact h out y hy
      · rw [if_neg held, zone_resolve_eq (zone_set_same hx _), Option.some.injEq] at hy
        subst hy
        obtain ⟨cfg, overridden, _⟩ := resolvedZone_kept _ _ _ _
        obtain ⟨free, -⟩ := h out x hx
        rw [cfg, overridden, resolvedZone_state]
        refine ⟨free, fun enabled _ => ?_⟩
        rw [stateByOrder, if_neg (by rw [enabled]; decide), if_neg fun swept => out swept.2, if_neg (by rw [free]; decide),
          if_pos (.inr rfl)]
  · rw [zone_setCalHold_ne hk] at hy
    exact h out y hy

theorem heldOutside_forEach (l : List Nat) {s : State} {k : Nat} (h : HeldOutside k s) :
    HeldOutside k (forEach l (fun z s => s.setCalHold z true) s) := by
  induction l generalizing s with
  | nil => exact h
  | cons z l ih => exact ih (heldOutside_setCalHold h z)

/-- Two ascending lists of the same indices are one. -/
theorem sorted_ext {l k : List Nat} (hl : l.Pairwise (· < ·)) (hk : k.Pairwise (· < ·)) (h : ∀ i, i ∈ l ↔ i ∈ k) : l = k :=
  List.Perm.eq_of_pairwise (fun _ _ _ _ hab hba => absurd hab (Nat.lt_asymm hba)) hl hk
    ((List.perm_ext_iff_of_nodup (hl.imp Nat.ne_of_lt) (hk.imp Nat.ne_of_lt)).mpr h)

theorem enabled_of_zoneCfg {s t : State} (h : t.zones.map (Option.map Zone.cfg) = s.zones.map (Option.map Zone.cfg)) (z : Nat) :
    (∃ x, t.zone z = some x ∧ x.cfg.enabled = true) ↔ ∃ x, s.zone z = some x ∧ x.cfg.enabled = true := by
  have same : (t.zone z).map Zone.cfg = (s.zone z).map Zone.cfg := by
    rw [State.zone, State.zone, map_entryAt, map_entryAt, h]
  have any (o : Option Zone) : (∃ x, o = some x ∧ x.cfg.enabled = true) ↔ ∃ d, o.map Zone.cfg = some d ∧ d.enabled = true := by
    cases o <;> simp
  rw [any, any, same]

/-! ### START_CALIBRATION (R92, R93) -/

section

variable {s : State} {r : StartCalibration}

theorem forEach_setCalResult (l : List Nat) (s : State) : forEach l (fun z s => s.setCalResult z CalResult.empty) s
    = { s with calResults := s.calResults.mapIdx fun z c => if z ∈ l then CalResult.empty else c } := by
  induction l generalizing s with
  | nil =>
    have same : (s.calResults.mapIdx fun z c => if z ∈ ([] : List Nat) then CalResult.empty else c) = s.calResults :=
      List.ext_getElem? fun k => by rw [List.getElem?_mapIdx]; cases s.calResults[k]? <;> simp
    rw [same]
    rfl
  | cons z l ih =>
    rw [forEach_cons, ih]
    refine congrArg (fun t => { s with calResults := t }) (List.ext_getElem? fun k => ?_)
    rw [List.getElem?_mapIdx, List.getElem?_mapIdx, State.setCalResult, List.getElem?_set]
    by_cases hk : z = k
    · subst hk
      by_cases lt : z < s.calResults.length <;> simp [lt]
    · simp [hk, Ne.symm hk]

/-- The sweep's set and its measured sensors, as the record takes them (R93). -/
theorem sweepOf_eq (h : SweepMayStart s r) :
    sweepOf r s = sweepStarted s r (sortedZones r.zones) (s.sensorsWhere fun x => x.enabled) := by
  have dark : Nat.testBit r.parts 0 = decide (r.parts ≠ 2) ∧ Nat.testBit r.parts 1 = decide (r.parts ≠ 1) := by
    obtain h | h | h : r.parts = 1 ∨ r.parts = 2 ∨ r.parts = 3 := by
      have := h.parts
      omega
    all_goals rw [h]; decide
  rw [sweepOf, sweepStarted, dark.1, dark.2]

theorem mem_sortedZones (h : SweepMayStart s r) {z : Nat} : z ∈ sortedZones r.zones ↔ z ∈ r.zones := by
  rw [sortedZones, mem_indicesWhere, List.contains_iff_mem]
  exact ⟨fun h => h.2, fun hz => ⟨(h.enabled z hz).1, hz⟩⟩

theorem startCalibration_answers (tag : Byte) (hs : Undisturbed s) (h : SweepMayStart s r) :
    exec (.startCalibration tag r) s = .next (answered .startCalibration tag .ok
      (u8 r.parts ++ listOf u8 (sortedZones r.zones) ++ u16 (r.settle.getD 30) ++ u16 (r.gainFloor.getD 5) ++ u16 (r.driftLimit.getD 10))
      (s.startSweep r)) := by
  have parts : partsOf (Nat.testBit r.parts 0) (Nat.testBit r.parts 1) = r.parts := by
    obtain h | h | h : r.parts = 1 ∨ r.parts = 2 ∨ r.parts = 3 := by
      have := h.parts
      omega
    all_goals rw [h]; decide
  have fields : encSweepHead (sweepOf r s) ++ encSweepParams (sweepOf r s) = u8 r.parts ++ listOf u8 (sortedZones r.zones)
      ++ u16 (r.settle.getD 30) ++ u16 (r.gainFloor.getD 5) ++ u16 (r.driftLimit.getD 10) := by
    rw [encSweepHead, encSweepParams, sweepOf]
    simp only [parts, List.append_assoc]
  have range : startInRange r = true := startInRange_iff.mpr ⟨h.parts.1, h.parts.2, h.zones.1, h.zones.2,
    fun z hz => (h.enabled z hz).1, h.settle, h.floor, h.drift⟩
  have defined : ∀ z ∈ r.zones, (s.zone z).isSome = true := fun z hz => by
    obtain ⟨-, x, hx, -⟩ := h.enabled z hz
    exact Option.isSome_of_eq_some hx
  have enabled : ∀ z ∈ r.zones, ∀ x, s.zone z = some x → x.cfg.enabled = true := fun z hz x hx => by
    obtain ⟨-, y, hy, on⟩ := h.enabled z hz
    exact Option.some.inj (hy.symm.trans hx) ▸ on
  have shades : (s.segments.all fun g => decide (g.state ≠ .moving) && decide (g.state ≠ .settling)) = true :=
    List.all_eq_true.mpr fun g hg => Bool.and_eq_true_iff.mpr ⟨decide_eq_true (h.shades g hg).1, decide_eq_true (h.shades g hg).2⟩
  rw [← fields]
  exact exec_of_passes_ok (f := serveStartCalibration r) hs.1 rfl rfl (passes_cons (State.quiet_of_undisturbed hs) (passes_cons range
    (passes_cons (List.all_eq_true.mpr defined) (passes_cons ((zones_enabled_iff defined).mpr enabled)
      (passes_cons ((dark_covers_iff h.parts.1 h.parts.2).mpr h.dark) (passes_cons (no_override_iff.mpr h.overrides)
        (passes_cons shades (passes_cons (lines_up_iff.mpr fun i g z hg hrole hz _ => (h.lines i g z hg hrole hz).2) passes_nil))))))))

/-- The record and the set's results of a sweep that begins (R93). -/
def sweepBegun (zones measured : List Nat) (r : StartCalibration) (s : State) : State := { s with
  sweep := sweepStarted s r zones measured
  calResults := s.calResults.mapIdx fun z c => if z ∈ zones then CalResult.empty else c }

/-- The set's zones resolved, and the other enabled ones held (R93). -/
def sweepHeld (zones measured others : List Nat) (r : StartCalibration) (s : State) : State :=
  forEach others (fun z u => u.setCalHold z true) (forEach zones State.resolve (sweepBegun zones measured r s))

/-- Every group's glare and release timers stopped, and level 0 asked for each zone of the set (R93, R105). -/
def sweepDark (zones measured others : List Nat) (r : StartCalibration) (s : State) : State :=
  forEach zones (fun z u => u.askLevel z 0) (sweepHeld zones measured others r s).suspendGlare

theorem startSweep_eq (h : SweepMayStart s r) {others : List Nat} (hsorted : others.Pairwise (· < ·))
    (ho : ∀ z, z ∈ others ↔ z ∉ sortedZones r.zones ∧ ∃ x, s.zone z = some x ∧ x.cfg.enabled = true) :
    s.startSweep r = (sweepDark (sortedZones r.zones) (s.sensorsWhere fun x => x.enabled) others r s).settledCheck := by
  have record : (s.modSweep fun _ => sweepOf r s) = withSweep (sweepStarted s r (sortedZones r.zones) (s.sensorsWhere fun x => x.enabled)) s :=
    congrArg (fun w => withSweep w s) (sweepOf_eq h)
  have begun : forEach (sortedZones r.zones) (fun z s => s.setCalResult z CalResult.empty)
      (withSweep (sweepStarted s r (sortedZones r.zones) (s.sensorsWhere fun x => x.enabled)) s)
      = sweepBegun (sortedZones r.zones) (s.sensorsWhere fun x => x.enabled) r s := forEach_setCalResult ..
  have listed : ((forEach (sortedZones r.zones) State.resolve (sweepBegun (sortedZones r.zones) (s.sensorsWhere fun x => x.enabled) r s)).zonesWhere
      fun x => x.cfg.enabled).filter (fun z => !(sortedZones r.zones).contains z) = others := by
    have moved := (resolves_forEach (sortedZones r.zones) (sweepBegun (sortedZones r.zones) (s.sensorsWhere fun x => x.enabled) r s)).static
    refine sorted_ext ((List.pairwise_lt_range.filter _).filter _) hsorted fun z => ?_
    rw [List.mem_filter, State.mem_zonesWhere, ho, Bool.not_eq_true', ← Bool.not_eq_true, List.contains_iff_mem, and_comm]
    exact and_congr Iff.rfl (enabled_of_zoneCfg moved z)
  unfold State.startSweep
  dsimp only
  rw [record]
  have zones : (withSweep (sweepStarted s r (sortedZones r.zones) (s.sensorsWhere fun x => x.enabled)) s).sweep.zones = sortedZones r.zones := rfl
  rw [zones, begun, listed]
  rfl

end

end Sys2Proof.Machine
end

section
/-! PROOFS. Chapter 5: what START_CALIBRATION leaves of the zones, the results, the groups and the rest (R92, R93, R95, R105). -/

namespace Sys2Proof.Machine

open Sys2Proof.Safety

set_option Elab.async false

section

variable {s : State} {r : StartCalibration} {zones measured others : List Nat}

/-! ### The state before the settled test -/

theorem moves_sweepHeld : Moves 1 (sweepBegun zones measured r s) (sweepHeld zones measured others r s) :=
  (Moves.forEach zones _ (fun _ _ _ => Moves.resolve le_rfl ..) _).trans
    (Moves.forEach others _ (fun _ _ _ => Moves.setCalHold le_rfl ..) _)

theorem moves_sweepDark : Moves 1 (sweepHeld zones measured others r s).suspendGlare (sweepDark zones measured others r s) :=
  Moves.forEach zones _ (fun _ _ _ => Moves.askLevel le_rfl _ _ (.inl rfl)) _

theorem sweepDark_rest : sweepDark zones measured others r s = { s with
    zones := (sweepDark zones measured others r s).zones, segments := s.segments.map Segment.stopGlare
    gear := (sweepDark zones measured others r s).gear, gearLines := (sweepDark zones measured others r s).gearLines
    sweep := sweepStarted s r zones measured
    calResults := s.calResults.mapIdx fun z c => if z ∈ zones then CalResult.empty else c
    flags := (sweepDark zones measured others r s).flags, live := (sweepDark zones measured others r s).live } := by
  have held := moves_sweepHeld (s := s) (r := r) (zones := zones) (measured := measured) (others := others)
  have dark := moves_sweepDark (s := s) (r := r) (zones := zones) (measured := measured) (others := others)
  generalize sweepDark zones measured others r s = t at dark ⊢
  generalize sweepHeld zones measured others r s = u at held dark
  rw [held.rest1] at dark
  exact dark.rest1

/-- The enabled zones outside the set, in ascending index (R93). -/
def othersOf (zones : List Nat) (s : State) : List Nat := (s.zonesWhere fun x => x.cfg.enabled).filter fun z => !zones.contains z

theorem othersOf_sorted : (othersOf zones s).Pairwise (· < ·) := (List.pairwise_lt_range.filter _).filter _

theorem mem_othersOf {z : Nat} : z ∈ othersOf zones s ↔ z ∉ zones ∧ ∃ x, s.zone z = some x ∧ x.cfg.enabled = true := by
  rw [othersOf, List.mem_filter, State.mem_zonesWhere, Bool.not_eq_true', ← Bool.not_eq_true, List.contains_iff_mem, and_comm]

/-! ### The zones (R93) -/

theorem get_of_zoneCfg {u t : State} (h : t.zones.map (Option.map Zone.cfg) = u.zones.map (Option.map Zone.cfg)) {z : Nat} {x : Zone}
    (hx : t.zone z = some x) : ∃ y, u.zone z = some y ∧ x.cfg = y.cfg := by
  have same : (u.zone z).map Zone.cfg = some x.cfg := by
    rw [State.zone, map_entryAt, ← h, ← map_entryAt, ← State.zone, hx]
    rfl
  obtain ⟨y, hy, hc⟩ := Option.map_eq_some_iff.mp same
  exact ⟨y, hy, hc.symm⟩

/-- Zones of the sweep's set stand in CALIBRATING once they are resolved (R63). -/
theorem calibrating_sweepHeld (apart : ∀ z ∈ zones, z ∉ others)
    (enabled : ∀ z ∈ zones, ∀ x, s.zone z = some x → x.cfg.enabled = true) {z : Nat} (hz : z ∈ zones) :
    Calibrating z (sweepHeld zones measured others r s) := by
  intro x hx
  have moved := resolves_forEach zones (sweepBegun zones measured r s)
  have sweep : (forEach zones State.resolve (sweepBegun zones measured r s)).sweep = sweepStarted s r zones measured := by
    rw [moved.rest]
    rfl
  rw [sweepHeld, zone_forEach_of_notMem (fun _ _ hk => zone_setCalHold_ne hk true) (apart z hz)] at hx
  have on : x.cfg.enabled = true := by
    obtain ⟨y, hy, hc⟩ : ∃ y, s.zone z = some y ∧ x.cfg = y.cfg := get_of_zoneCfg moved.static hx
    rw [hc]
    exact enabled z hz y hy
  rw [moved.state z x hz hx, resolved_eq, stateByOrder, if_neg (by rw [on]; decide), if_pos]
  rw [sweep]
  exact ⟨by simp [sweepStarted], hz⟩

/-- The set's zones are dark (R93). -/
theorem darkened_sweepDark (apart : ∀ z ∈ zones, z ∉ others)
    (enabled : ∀ z ∈ zones, ∀ x, s.zone z = some x → x.cfg.enabled = true) {z : Nat} (hz : z ∈ zones) :
    Darkened z (sweepDark zones measured others r s) :=
  darkened_forEach (s := (sweepHeld zones measured others r s).suspendGlare) (fun _ hk => calibrating_sweepHeld apart enabled hk) (.inl hz)

/-- Another zone of the sweep is as it was held (R93). -/
theorem zone_sweepDark_ne {z : Nat} (hz : z ∉ zones) :
    (sweepDark zones measured others r s).zone z = (sweepHeld zones measured others r s).zone z :=
  zone_forEach_of_notMem (fun u _ hk => zone_askLevel_ne u hk 0) hz _

/-- The enabled zones outside the set have the CAL hold, and stand in HOLD where no override was active (R93). -/
theorem held_sweepHeld {z : Nat} (hz : z ∉ zones) (ho : z ∈ others) {x y : Zone} (hy : s.zone z = some y)
    (hx : (sweepHeld zones measured others r s).zone z = some x) (on : x.cfg.enabled = true) :
    x.holdCal = true ∧ (y.holdCal = false → y.overrideActive = false → x.state = .hold) := by
  have resolved := resolves_forEach zones (sweepBegun zones measured r s)
  have before : (forEach zones State.resolve (sweepBegun zones measured r s)).zone z = some y := (resolved.others z hz).trans hy
  have sweep : (sweepHeld zones measured others r s).sweep.zones = zones := by
    rw [moves_sweepHeld.rest1]
    rfl
  refine ⟨holdsCal_forEach others _ (.inl ho) x hx, fun free active => ?_⟩
  have held : HeldOutside z (sweepHeld zones measured others r s) := by
    refine heldOutside_forEach others fun _ w hw => ?_
    obtain rfl : y = w := Option.some.inj (before.symm.trans hw)
    exact ⟨active, fun _ held => absurd (free.symm.trans held) (by decide)⟩
  rw [← sweep] at hz
  exact (held hz x hx).2 on (holdsCal_forEach others _ (.inl ho) x hx)

/-! ### The groups and the results (R93, R105) -/

theorem glare_stopped (g : Nat) : ((sweepDark zones measured others r s).segment g).glareStart = none
    ∧ ((sweepDark zones measured others r s).segment g).phase = (s.segment g).phase := by
  have segments : (sweepDark zones measured others r s).segments = s.segments.map Segment.stopGlare := by rw [sweepDark_rest]
  rw [State.segment, State.segment, segments, List.getD_eq_getElem?_getD, List.getD_eq_getElem?_getD, List.getElem?_map]
  cases s.segments[g]? <;> exact ⟨rfl, rfl⟩

theorem calResult_sweepDark (z : Nat) :
    (sweepDark zones measured others r s).calResult z = if z ∈ zones then CalResult.empty else s.calResult z := by
  have results : (sweepDark zones measured others r s).calResults
      = s.calResults.mapIdx fun z c => if z ∈ zones then CalResult.empty else c := by rw [sweepDark_rest]
  rw [State.calResult, State.calResult, results, List.getD_eq_getElem?_getD, List.getD_eq_getElem?_getD, List.getElem?_mapIdx]
  cases s.calResults[z]? <;> simp

theorem gear_sweepDark : (sweepDark zones measured others r s).gear.map (Option.map gearCore) = s.gear.map (Option.map gearCore)
    ∧ (sweepDark zones measured others r s).gearLines.map lineCore = s.gearLines.map lineCore
    ∧ (sweepDark zones measured others r s).zones.map (Option.map Zone.cfg) = s.zones.map (Option.map Zone.cfg) :=
  ⟨(moves_sweepDark.gearCore_eq (by omega)).trans (moves_sweepHeld.gearCore_eq (by omega)),
    (moves_sweepDark.lineCore_eq (by omega)).trans (moves_sweepHeld.lineCore_eq (by omega)),
    (moves_sweepDark.zoneCfg_eq (by omega)).trans (moves_sweepHeld.zoneCfg_eq (by omega))⟩

theorem segmentCfg_sweepDark : (sweepDark zones measured others r s).segments.map Segment.cfg = s.segments.map Segment.cfg := by
  have segments : (sweepDark zones measured others r s).segments = s.segments.map Segment.stopGlare := by rw [sweepDark_rest]
  rw [segments, List.map_map]
  rfl

/-- What the state before the settled test has of `s`: the set dark, the others held, and the groups' timers stopped (R93, R105). -/
structure SetDark (zones measured : List Nat) (r : StartCalibration) (s d : State) : Prop where
  sweep : d.sweep = sweepStarted s r zones measured
  set : ∀ z, z ∈ zones → d.calResult z = CalResult.empty
    ∧ ∀ x, d.zone z = some x → x.state = .calibrating ∧ x.level = 0 ∧ x.target = 0
  others : ∀ z, z ∉ zones → d.calResult z = s.calResult z
    ∧ ∀ x y, s.zone z = some y → d.zone z = some x → x.cfg.enabled = true →
      x.holdCal = true ∧ (y.holdCal = false → y.overrideActive = false → x.state = .hold)
  glare : ∀ g, (d.segment g).glareStart = none ∧ (d.segment g).phase = (s.segment g).phase
  zones : d.zones.map (Option.map Zone.cfg) = s.zones.map (Option.map Zone.cfg)
  segments : d.segments.map Segment.cfg = s.segments.map Segment.cfg
  gear : d.gear.map (Option.map gearCore) = s.gear.map (Option.map gearCore)
  lines : d.gearLines.map lineCore = s.gearLines.map lineCore
  rest : d = { s with
    zones := d.zones, segments := d.segments, gear := d.gear, gearLines := d.gearLines, sweep := d.sweep
    calResults := d.calResults, flags := d.flags, live := d.live }

theorem setDark (h : SweepMayStart s r) : SetDark (sortedZones r.zones) measured r s
    (sweepDark (sortedZones r.zones) measured (othersOf (sortedZones r.zones) s) r s) := by
  have enabled : ∀ z ∈ sortedZones r.zones, ∀ x, s.zone z = some x → x.cfg.enabled = true := fun z hz x hx => by
    obtain ⟨-, y, hy, on⟩ := h.enabled z ((mem_sortedZones h).mp hz)
    exact Option.some.inj (hy.symm.trans hx) ▸ on
  have apart : ∀ z ∈ sortedZones r.zones, z ∉ othersOf (sortedZones r.zones) s := fun z hz ho => (mem_othersOf.mp ho).1 hz
  obtain ⟨gear, lines, zones⟩ := gear_sweepDark (s := s) (r := r) (zones := sortedZones r.zones) (measured := measured)
    (others := othersOf (sortedZones r.zones) s)
  refine ⟨by rw [sweepDark_rest], fun z hz => ⟨?_, darkened_sweepDark apart enabled hz⟩, fun z hz => ⟨?_, fun x y hy hx on => ?_⟩,
    glare_stopped, zones, segmentCfg_sweepDark, gear, lines, ?_⟩
  · rw [calResult_sweepDark, if_pos hz]
  · rw [calResult_sweepDark, if_neg hz]
  · rw [zone_sweepDark_ne hz] at hx
    obtain ⟨w, hw, same⟩ := get_of_zoneCfg (moves_sweepHeld.zoneCfg_eq (by omega)) hx
    exact held_sweepHeld hz (mem_othersOf.mpr ⟨hz, w, hw, same ▸ on⟩) hy hx on
  · have rest := sweepDark_rest (s := s) (r := r) (zones := sortedZones r.zones) (measured := measured)
      (others := othersOf (sortedZones r.zones) s)
    generalize sweepDark (sortedZones r.zones) measured (othersOf (sortedZones r.zones) s) r s = d at rest
    rw [rest]

/-! ### START_CALIBRATION, and the settled test -/

/-- What an accepted START_CALIBRATION leaves (R92, R93, R95, R105). -/
theorem startCalibration_leaves (h : SweepMayStart s r) {t : State} (ht : t = s.startSweep r) :
    ((∀ z ∈ sortedZones r.zones, Settled t z) →
        t.sweep = settling .baseSettle s.tick (sweepStarted s r (sortedZones r.zones) (s.sensorsWhere fun x => x.enabled)))
      ∧ ((∃ z ∈ sortedZones r.zones, ¬ Settled t z) →
        t.sweep = sweepStarted s r (sortedZones r.zones) (s.sensorsWhere fun x => x.enabled))
      ∧ (∀ z, z ∈ sortedZones r.zones → t.calResult z = CalResult.empty
        ∧ ∀ x, t.zone z = some x → x.state = .calibrating ∧ x.level = 0 ∧ x.target = 0)
      ∧ (∀ z, z ∉ sortedZones r.zones → t.calResult z = s.calResult z
        ∧ ∀ x y, s.zone z = some y → t.zone z = some x → x.cfg.enabled = true →
          x.holdCal = true ∧ (y.holdCal = false → y.overrideActive = false → x.state = .hold))
      ∧ (∀ g, (t.segment g).glareStart = none ∧ (t.segment g).phase = (s.segment g).phase)
      ∧ t.zones.map (Option.map Zone.cfg) = s.zones.map (Option.map Zone.cfg)
      ∧ t.segments.map Segment.cfg = s.segments.map Segment.cfg
      ∧ t.gear.map (Option.map gearCore) = s.gear.map (Option.map gearCore)
      ∧ t.gearLines.map lineCore = s.gearLines.map lineCore
      ∧ t = { s with
        zones := t.zones, segments := t.segments, gear := t.gear, gearLines := t.gearLines, sweep := t.sweep
        calResults := t.calResults, flags := t.flags, live := t.live } := by
  obtain ⟨d, left, rfl⟩ : ∃ d, SetDark (sortedZones r.zones) (s.sensorsWhere fun x => x.enabled) r s d ∧ t = d.settledCheck :=
    ⟨_, setDark h, ht.trans (startSweep_eq h othersOf_sorted fun _ => mem_othersOf)⟩
  have awaits : d.sweep.state = .preparing ∧ sortedZones r.zones = d.sweep.zones ∧ SweepState.baseSettle = .baseSettle := by
    rw [left.sweep]
    exact ⟨rfl, rfl, rfl⟩
  obtain ⟨ends, waits⟩ := settledCheck_waits (s := d) (.inl awaits)
  have same := settledCheck_rest d
  have settled (z : Nat) : Settled d.settledCheck z ↔ Settled d z := by
    rw [same]
    exact Iff.rfl
  have tick : d.tick = s.tick := by rw [left.rest]
  refine ⟨fun all => ?_, fun ⟨z, hz, open_⟩ => ?_, ?_, ?_, ?_, ?_, ?_, ?_, ?_, ?_⟩
  · rw [ends fun z hz => (settled z).mp (all z hz), ← tick, ← left.sweep]
  · rw [waits ⟨z, hz, fun closed => open_ ((settled z).mpr closed)⟩, left.sweep]
  · rw [same]
    exact left.set
  · rw [same]
    exact left.others
  · rw [same]
    exact left.glare
  · rw [same]
    exact left.zones
  · rw [same]
    exact left.segments
  · rw [same]
    exact left.gear
  · rw [same]
    exact left.lines
  · rw [same]
    exact congrArg (fun u : State => { u with sweep := d.settledCheck.sweep }) left.rest

end

/-- Settles O39: the sweep's record, the holds and the levels are made in turn, and the settled test is made last. -/
theorem startCalibrationStartsTheSweep : Obligations.StartCalibrationStartsTheSweep := by
  unfold Obligations.StartCalibrationStartsTheSweep
  refine ⟨fun tag r s hs _ h => ?_, fun s awaited next h => settledCheck_waits h, fun s h1 h2 h3 => settledCheck_other h1 h2 h3,
    fun s z x held hx => setCalHold_of_zone hx held⟩
  have set : (sortedZones r.zones).Pairwise (· < ·) := List.pairwise_lt_range.filter _
  refine ⟨sortedZones r.zones, s.sensorsWhere fun x => x.enabled, s.startSweep r, set, ?_, List.pairwise_lt_range.filter _,
    fun i => State.mem_sensorsWhere, startCalibration_answers tag hs h, ?_, startCalibration_leaves h rfl⟩
  · exact (List.perm_ext_iff_of_nodup (set.imp Nat.ne_of_lt) h.zones.2).mpr fun z => mem_sortedZones h
  · exact fun others hsorted ho => startSweep_eq h hsorted ho

end Sys2Proof.Machine
end

section
/-! PROOFS. Chapter 11: LOAD_DEFAULTS (R21, R39, R111, R136, R199). -/

namespace Sys2Proof.Machine

open Sys2Proof.Safety

set_option Elab.async false

section

variable {s : State} {l : Nat} {x : GearLine}

/-! ### A line's operations where no gear is defined -/

/-- No gear is defined. -/
def NoGear (s : State) : Prop := ∀ o ∈ s.gear, o = none

theorem NoGear.gearWhere (h : NoGear s) (p : Gear → Bool) : s.gearWhere p = [] := by
  refine List.eq_nil_iff_forall_not_mem.mpr fun i hi => ?_
  obtain ⟨g, hg, -⟩ := State.mem_gearWhere.mp hi
  exact absurd (h (some g) (mem_of_entryAt hg)) (by simp)

theorem NoGear.zonesOnLine (h : NoGear s) (l : Nat) : s.zonesOnLine l = [] := by
  refine List.eq_nil_iff_forall_not_mem.mpr fun z hz => ?_
  obtain ⟨o, ho, served⟩ := List.any_eq_true.mp (mem_indicesWhere.mp hz).2
  rw [h o ho] at served
  cases served

theorem NoGear.refreshLineOutput (h : NoGear s) (l : Nat) : s.refreshLineOutput l = s := by
  rw [State.refreshLineOutput, h.zonesOnLine]
  rfl

theorem NoGear.modLineGear (h : NoGear s) (l : Nat) (f : Gear → Gear) : s.modLineGear l f = s := by
  have same : s.gear.map (Option.map fun g => if g.cfg.line = l then f g else g) = s.gear :=
    (List.map_congr_left fun o ho => by rw [h o ho]; rfl).trans (List.map_id _)
  rw [State.modLineGear, same]

theorem NoGear.tendLine (h : NoGear s) (hx : s.gearLines[l]? = some x) : s.tendLine l
    = { s with gearLines := s.gearLines.set l { x with congested := x.congested && decide (x.lowWatermark < x.queue.length) } } := by
  have served (t : State) (ht : NoGear t) : t.serveDirty l = t := by
    rw [State.serveDirty, State.dirtySet, ht.gearWhere]
    rfl
  have lowered : s.lowCheck l
      = { s with gearLines := s.gearLines.set l { x with congested := x.congested && decide (x.lowWatermark < x.queue.length) } } := by
    unfold State.lowCheck
    simp only [gearLine_of_get hx, State.trimSet, h.gearWhere, modGearLine_of_get hx]
    by_cases high : x.lowWatermark < x.queue.length
    · have keeps : (x.congested && decide (x.queue.length ≤ x.lowWatermark)) = false := by simp; omega
      rw [keeps, decide_eq_true high, Bool.and_true]
      exact (set_self hx).symm
    · cases hc : x.congested with
      | false =>
        refine (set_self hx).symm.trans ?_
        rw [Bool.false_and, ← hc]
      | true =>
        rw [Bool.true_and, if_pos (decide_eq_true (Nat.not_lt.mp high)), decide_eq_false high]
        rfl
  rw [State.tendLine, lowered]
  exact served _ h

/-! ### One gear line (R111, R114, R136) -/

/-- A gear line's entries at LOAD_DEFAULTS: those with an attempt under way, a gear's as an orphan (R136). -/
def leftAtDefaults (x : GearLine) : List Entry :=
  (x.queue.filter Entry.attempting).map fun e => { e with orphan := match e.target with
    | .gear _ => true
    | .group _ => false }

/-- A gear line with its factory parameters (R111, R136). -/
def atDefaults (now : Tick) (x : GearLine) : GearLine := { x with
  enabled := true, rateCode := 5, attemptLimit := 3, highWatermark := 24, lowWatermark := 8, auditInterval := 10
  queue := leftAtDefaults x, auditPos := none
  congested := (x.congested || (decide (x.state = .up) && decide (24 ≤ (leftAtDefaults x).length)))
    && decide (8 < (leftAtDefaults x).length)
  audit := if x.auditInterval = 0 ∧ x.state = .up then some { start := now, len := 10000 } else x.audit }

/-- A gear line after LOAD_DEFAULTS: an OFF line is enabled (R114, R136). -/
def defaulted (now : Tick) (x : GearLine) : GearLine :=
  if x.state ≠ .off then atDefaults now x
  else if x.supply then { atDefaults now x with state := .starting, queue := [], settle := some { start := now, len := 600 } }
  else { atDefaults now x with state := .down, queue := [] }

theorem toDefaults_eq (x : GearLine) : x.toDefaults = { x with
    enabled := true, rateCode := 5, attemptLimit := 3, highWatermark := 24, lowWatermark := 8, auditInterval := 10
    queue := leftAtDefaults x, auditPos := none } := by
  have queue : ((x.queue.filter Entry.attempting).map fun e => { e with orphan := !e.target.isGroup }) = leftAtDefaults x :=
    List.map_congr_left fun e _ => by cases e.target <;> rfl
  rw [GearLine.toDefaults, queue]

/-- A gear line with its factory parameters, before the low watermark's test (R111, R130). -/
def risenAtDefaults (now : Tick) (x : GearLine) : GearLine :=
  { atDefaults now x with congested := x.congested || (decide (x.state = .up) && decide (24 ≤ (leftAtDefaults x).length)) }

theorem highCheck_defaults (hx : s.gearLines[l]? = some x) : State.highCheck l (s.modGearLine l fun y =>
    { y.toDefaults with audit := s.newAudit x.auditInterval y.toDefaults })
      = { s with gearLines := s.gearLines.set l (risenAtDefaults s.tick x) } := by
  have audit : s.newAudit x.auditInterval x.toDefaults
      = if x.auditInterval = 0 ∧ x.state = .up then some { start := s.tick, len := 10000 } else x.audit := by
    have interval : x.toDefaults.auditInterval = 10 := rfl
    have runs : s.auditTimer 10 = some { start := s.tick, len := 10000 } := if_neg (by decide)
    rw [State.newAudit, interval, if_neg (by decide), runs]
    rfl
  unfold State.highCheck
  rw [modGearLine_of_get hx, modGearLine_of_get (get_set_same hx _), audit, toDefaults_eq]
  dsimp only
  rw [List.set_set]
  rfl

/-- The last part of a gear line's LOAD_DEFAULTS: an OFF line comes up (R136). -/
theorem comeUp_defaults (h : NoGear s) (hx : s.gearLines[l]? = some x) :
    (if x.state = .off then ({ s with gearLines := s.gearLines.set l (atDefaults s.tick x) } : State).lineComesUp l
      else { s with gearLines := s.gearLines.set l (atDefaults s.tick x) })
      = State.latchIf (decide (x.state = .off) && !x.supply) .lineDown
        { s with gearLines := s.gearLines.set l (defaulted s.tick x) } := by
  unfold State.lineComesUp defaulted
  have there : ({ s with gearLines := s.gearLines.set l (atDefaults s.tick x) } : State).gearLines[l]? = some (atDefaults s.tick x) :=
    get_set_same hx _
  have supply : (atDefaults s.tick x).supply = x.supply := rfl
  rw [gearLine_of_get there, supply]
  by_cases off : x.state = .off
  · rw [if_pos off, if_neg (not_not.mpr off), decide_eq_true off, Bool.true_and]
    cases x.supply with
    | true =>
      rw [if_pos rfl, if_pos rfl, State.lineStarting, modGearLine_of_get there, List.set_set, NoGear.modLineGear (by exact h),
        NoGear.refreshLineOutput (by exact h)]
      rfl
    | false =>
      rw [if_neg Bool.false_ne_true, if_neg Bool.false_ne_true, modGearLine_of_get there, List.set_set,
        NoGear.refreshLineOutput (by exact h)]
      rfl
  · rw [if_neg off, if_pos off, decide_eq_false off]
    rfl

theorem defaultLine_eq (h : NoGear s) (hx : s.gearLines[l]? = some x) : s.defaultLine l
    = State.latchIf (decide (x.state = .off) && !x.supply) .lineDown
      { s with gearLines := s.gearLines.set l (defaulted s.tick x) } := by
  have tended : State.tendLine l (State.highCheck l (s.modGearLine l fun y =>
      { y.toDefaults with audit := s.newAudit x.auditInterval y.toDefaults }))
      = { s with gearLines := s.gearLines.set l (atDefaults s.tick x) } := by
    rw [highCheck_defaults hx, NoGear.tendLine (x := risenAtDefaults s.tick x) (by exact h) (get_set_same hx _), List.set_set]
    rfl
  unfold State.defaultLine
  simp only [gearLine_of_get hx, tended]
  rw [gearLine_of_get (x := atDefaults s.tick x) (get_set_same hx _)]
  exact comeUp_defaults h hx

/-! ### The four gear lines -/

/-- The gear lines of a list have their defaults, in turn (R136). -/
structure LinesDefaulted (is : List Nat) (s t : State) : Prop where
  rest : t = { s with gearLines := t.gearLines, flags := t.flags }
  lines : ∀ l x, s.gearLines[l]? = some x → t.gearLines[l]? = some (if l ∈ is then defaulted s.tick x else x)
  down : hasFlag t.flags.latched .lineDown = true ↔ hasFlag s.flags.latched .lineDown = true
    ∨ ∃ l x, l ∈ is ∧ s.gearLines[l]? = some x ∧ x.state = .off ∧ x.supply = false
  flags : FlagsGrow [.lineDown] s t

theorem linesDefaulted (h : NoGear s) {is : List Nat} (hn : is.Nodup) (hl : ∀ l ∈ is, l < s.gearLines.length) :
    LinesDefaulted is s (forEach is State.defaultLine s) := by
  induction is generalizing s with
  | nil => exact ⟨rfl, fun l x hx => hx, by simp [forEach], flagsGrow_refl ..⟩
  | cons i is ih =>
    obtain ⟨fresh, hn⟩ := List.nodup_cons.mp hn
    obtain ⟨x, hx⟩ : ∃ x, s.gearLines[i]? = some x := ⟨_, List.getElem?_eq_getElem (hl i (List.mem_cons_self ..))⟩
    rw [forEach_cons, defaultLine_eq h hx]
    obtain ⟨t, ht⟩ : ∃ t, t = ({ s with gearLines := s.gearLines.set i (defaulted s.tick x) } : State).latchIf
      (decide (x.state = .off) && !x.supply) .lineDown := ⟨_, rfl⟩
    have rest : t = { s with gearLines := s.gearLines.set i (defaulted s.tick x), flags := t.flags } := by
      rw [ht]
      exact State.latchIf_eq ..
    have latched : hasFlag t.flags.latched .lineDown = (hasFlag s.flags.latched .lineDown || (decide (x.state = .off) && !x.supply)) := by
      rw [ht, hasFlag_latchIf, decide_eq_true rfl, Bool.and_true]
    have grown : FlagsGrow [.lineDown] s t := by
      rw [ht]
      exact FlagsGrow.trans (flagsGrow_of_flags rfl) (flagsGrow_latchIf _ _ (by simp))
    have lines : t.gearLines = s.gearLines.set i (defaulted s.tick x) := by rw [rest]
    have tick : t.tick = s.tick := by rw [rest]
    have gear : NoGear t := by
      rw [NoGear, rest]
      exact h
    have others {l : Nat} (hne : l ≠ i) : t.gearLines[l]? = s.gearLines[l]? := by
      rw [lines, List.getElem?_set_ne (Ne.symm hne)]
    rw [← ht]
    have next := ih gear hn fun l hm => by
      rw [lines, List.length_set]
      exact hl l (List.mem_cons_of_mem i hm)
    refine ⟨?_, fun l y hy => ?_, ?_, FlagsGrow.trans grown next.flags⟩
    · have rest' := next.rest
      generalize forEach is State.defaultLine t = v at rest'
      rw [rest] at rest'
      exact rest'
    · by_cases here : l = i
      · subst here
        obtain rfl : x = y := Option.some.inj (hx.symm.trans hy)
        rw [next.lines l (defaulted s.tick x) (by rw [lines]; exact get_set_same hx _), if_neg fresh,
          if_pos (List.mem_cons_self ..)]
      · rw [next.lines l y ((others here).trans hy), tick]
        refine congrArg some (if_congr ?_ rfl rfl)
        rw [List.mem_cons, or_iff_right here]
    · rw [next.down, latched, Bool.or_eq_true, Bool.and_eq_true, decide_eq_true_eq, Bool.not_eq_true', or_assoc]
      refine or_congr Iff.rfl ?_
      constructor
      · rintro (⟨off, dark⟩ | ⟨l, y, hm, hy, off⟩)
        · exact ⟨i, x, List.mem_cons_self .., hx, off, dark⟩
        · have hne : l ≠ i := fun e => fresh (e ▸ hm)
          exact ⟨l, y, List.mem_cons_of_mem i hm, (others hne).symm.trans hy, off⟩
      · rintro ⟨l, y, hm, hy, off⟩
        rcases List.mem_cons.mp hm with rfl | hm
        · obtain rfl : x = y := Option.some.inj (hx.symm.trans hy)
          exact .inl off
        · have hne : l ≠ i := fun e => fresh (e ▸ hm)
          exact .inr ⟨l, y, hm, (others hne).trans hy, off⟩

end

/-! ### LOAD_DEFAULTS -/

section

variable {s : State}

theorem getD_replicate {α : Type} (n i : Nat) (x : α) : (List.replicate n x).getD i x = x := by
  rw [List.getD_eq_getElem?_getD, List.getElem?_replicate]
  split <;> rfl

/-- Settles O60: the tables are in their factory state before the lines are, so no line has gear to mark or to serve. -/
theorem loadDefaultsRestoresTheFactoryState : Obligations.LoadDefaultsRestoresTheFactoryState := by
  unfold Obligations.LoadDefaultsRestoresTheFactoryState
  intro tag s hs whole
  have bare : NoGear s.defaultTables := fun o ho => List.eq_of_mem_replicate ho
  have short : ∀ l ∈ List.range Config.nGearLines, l < s.defaultTables.gearLines.length := fun l hl => by
    rw [show s.defaultTables.gearLines = s.gearLines from rfl, whole.gearLines]
    exact List.mem_range.mp hl
  have done := linesDefaulted bare List.nodup_range short
  have answer : exec (.loadDefaults tag) s = .next (answered .loadDefaults tag .ok []
      ((forEach (List.range Config.nGearLines) State.defaultLine s.defaultTables).latch .configDefaults)) :=
    exec_of_passes_ok (f := serveLoadDefaults) hs.1 rfl rfl (passes_cons (State.quiet_of_undisturbed hs) passes_nil)
  generalize forEach (List.range Config.nGearLines) State.defaultLine s.defaultTables = u at done answer
  have table := done.rest
  have lineDown (v : State) : hasFlag (v.latch .configDefaults).flags.latched .lineDown = hasFlag v.flags.latched .lineDown := by
    rw [hasFlag_latch, decide_eq_false (by decide), Bool.or_false]
  refine ⟨u.latch .configDefaults, answer, fun i => ?_, fun g hg => ?_, fun c hc => ?_, ?_, fun l x hx => ?_, ?_, fun p hp => ?_, ?_,
    fun z hz => ?_, ?_, ?_, ?_⟩
  · have sensors : u.sensors = List.replicate Config.nSensors none := by rw [table]; rfl
    have zones : u.zones = List.replicate Config.nZones none := by rw [table]; rfl
    have gear : u.gear = List.replicate Config.nGear none := by rw [table]; rfl
    have periods : u.periods = List.replicate Config.nPeriods none := by rw [table]; rfl
    exact ⟨(congrArg (entryAt · i) sensors).trans (entryAt_replicate_none ..), (congrArg (entryAt · i) zones).trans (entryAt_replicate_none ..),
      (congrArg (entryAt · i) gear).trans (entryAt_replicate_none ..), (congrArg (entryAt · i) periods).trans (entryAt_replicate_none ..)⟩
  · have segments : u.segments = List.replicate Config.nSegments (Segment.atReset SegmentDef.factory) := by rw [table]; rfl
    exact (congrArg (·.getD g (Segment.atReset SegmentDef.factory)) segments).trans (getD_replicate ..)
  · have curves : u.curves = List.replicate Config.nCurves factoryCurve := by rw [table]; rfl
    exact (congrArg (·.getD c factoryCurve) curves).trans (getD_replicate ..)
  · have lines : u.sensorLines = s.sensorLines.map SensorLine.toDefaults := by rw [table]; rfl
    exact lines
  · have listed : l ∈ List.range Config.nGearLines := by
      rw [List.mem_range, ← whole.gearLines]
      exact (List.getElem?_eq_some_iff.mp hx).1
    exact (done.lines l x hx).trans (congrArg some (if_pos listed))
  · rw [lineDown, done.down]
    refine or_congr Iff.rfl ⟨fun ⟨l, x, _, hx, off⟩ => ⟨x, List.mem_of_getElem? hx, off⟩, fun ⟨x, hx, off⟩ => ?_⟩
    obtain ⟨l, hl⟩ := List.getElem?_of_mem hx
    refine ⟨l, x, ?_, hl, off⟩
    rw [List.mem_range, ← whole.gearLines]
    exact (List.getElem?_eq_some_iff.mp hl).1
  · have profiles : u.profiles = List.replicate Config.nProfiles Profile.factory := by rw [table]; rfl
    have factory : (u.latch .configDefaults).profile p = Profile.factory :=
      (congrArg (·.getD p Profile.factory) profiles).trans (getD_replicate ..)
    rw [factory]
    exact ⟨rfl, rfl⟩
  · have occ : u.occ = s.occ.map fun o => { o with delay := 15 } := by rw [table]; rfl
    exact occ
  · have results : u.calResults = List.replicate Config.nZones CalResult.empty := by rw [table]; rfl
    exact (congrArg (·.getD z CalResult.empty) results).trans (getD_replicate ..)
  · rw [hasFlag_latch, decide_eq_true rfl, Bool.or_true]
  · have tables : FlagsGrow [.configDefaults, .lineDown] s s.defaultTables := flagsGrow_of_flags rfl
    exact FlagsGrow.trans (FlagsGrow.trans tables (FlagsGrow.mono done.flags (by simp))) (flagsGrow_latch _ (by simp))
  · rw [table]
    rfl

end

end Sys2Proof.Machine
end

section
/-! PROOFS. Chapter 11: SAVE_CONFIG, the events of a save, the image and the bus (R36, R37, R191, R196 to R198, R204, R206, R208). -/

namespace Sys2Proof.Machine

open Sys2Proof.Safety

set_option Elab.async false

/-! ### The pages of an image (R206) -/

theorem pagesOf_cons {fuel : Nat} {l : List Byte} (h : l ≠ []) : pagesOf (fuel + 1) l
    = (l.take 64 ++ List.replicate (64 - (l.take 64).length) 0) :: pagesOf fuel (l.drop 64) := by
  obtain ⟨b, l, rfl⟩ := List.exists_cons_of_ne_nil h
  rfl

theorem pagesOf_nil (fuel : Nat) : pagesOf fuel [] = [] := by cases fuel <;> rfl

theorem pagesOf_length {fuel : Nat} {l : List Byte} (h : l.length ≤ fuel) : (pagesOf fuel l).length = (l.length + 63) / 64 := by
  induction fuel generalizing l with
  | zero =>
    obtain rfl := List.length_eq_zero_iff.mp (Nat.le_zero.mp h)
    rfl
  | succ fuel ih =>
    by_cases hl : l = []
    · subst hl
      rw [pagesOf_nil]
      rfl
    · have pos : 0 < l.length := List.length_pos_iff.mpr hl
      rw [pagesOf_cons hl, List.length_cons, ih (by rw [List.length_drop]; omega), List.length_drop]
      omega

theorem length_of_page {fuel : Nat} {l p : List Byte} (h : p ∈ pagesOf fuel l) : p.length = 64 := by
  induction fuel generalizing l with
  | zero => cases h
  | succ fuel ih =>
    by_cases hl : l = []
    · subst hl
      rw [pagesOf_nil] at h
      cases h
    · rw [pagesOf_cons hl] at h
      rcases List.mem_cons.mp h with rfl | h
      · rw [List.length_append, List.length_replicate, List.length_take]
        omega
      · exact ih h

theorem pagesOf_flatten {fuel : Nat} {l : List Byte} (h : l.length ≤ fuel) :
    (pagesOf fuel l).flatten = l ++ List.replicate (64 * ((l.length + 63) / 64) - l.length) 0 := by
  induction fuel generalizing l with
  | zero =>
    obtain rfl := List.length_eq_zero_iff.mp (Nat.le_zero.mp h)
    rfl
  | succ fuel ih =>
    by_cases hl : l = []
    · subst hl
      rw [pagesOf_nil]
      rfl
    · have pos : 0 < l.length := List.length_pos_iff.mpr hl
      rw [pagesOf_cons hl, List.flatten_cons, ih (by rw [List.length_drop]; omega), List.length_take, List.length_drop]
      by_cases full : 64 ≤ l.length
      · have none : 64 - min 64 l.length = 0 := by omega
        have pad : 64 * ((l.length - 64 + 63) / 64) - (l.length - 64) = 64 * ((l.length + 63) / 64) - l.length := by omega
        rw [none, List.replicate_zero, List.append_nil, pad, ← List.append_assoc, List.take_append_drop]
      · have last : l.drop 64 = [] := List.drop_eq_nil_of_le (by omega)
        have pad : 64 - min 64 l.length = 64 * ((l.length + 63) / 64) - l.length := by omega
        have rest : 64 * ((l.length - 64 + 63) / 64) - (l.length - 64) = 0 := by omega
        rw [last, List.take_of_length_le (by omega), pad, rest]
        simp

theorem savePages_eq (generation : Nat) (body : List Byte) : ∃ pages,
    savePages generation body = pages ++ [[0x4D, 0x4A, 0x49, 0x47, 0x4C, 0x30, 0x01] ++ u32 generation ++ u16 body.length
        ++ u16 (crc16 body).toNat ++ List.replicate 49 0]
      ∧ pages.length = (body.length + 63) / 64 ∧ (∀ p ∈ pages, p.length = 64)
      ∧ pages.flatten = body ++ List.replicate (64 * pages.length - body.length) 0 := by
  refine ⟨pagesOf body.length body, rfl, pagesOf_length le_rfl, fun p hp => length_of_page hp, ?_⟩
  rw [pagesOf_length le_rfl]
  exact pagesOf_flatten le_rfl

/-! ### The image (R191, R206) -/

/-- An image section, as the manual gives it (R206). -/
def sectionOf (code : Byte) (bytes : List Byte) : List Byte := code :: u16 bytes.length ++ bytes

theorem bins_eq (l : List (Option Nat)) : l.flatMap encBin = l.flatMap fun b => match b with
    | some v => 1 :: u16 v
    | none => [0, 0, 0] := by
  refine List.flatMap_congr fun b _ => ?_
  cases b <;> rfl

theorem encCurve_eq (l : List Nat) : encCurve l = l.map (BitVec.ofNat 8) := by
  induction l with
  | nil => rfl
  | cons v l ih => exact congrArg (BitVec.ofNat 8 v :: ·) ih

theorem imageBody_eq (s : State) : s.imageBody
    = sectionOf 1 (records s.sensors fun i x => u8 i ++ encSensorDef x ++ u16 x.darkOffset ++ encContrib x.contrib)
      ++ sectionOf 2 (records s.zones fun z x => u8 z ++ encZoneDef x.cfg ++ u16 x.learned.rho ++ u8 x.learned.learnCount
        ++ x.learned.bins.flatMap fun b => match b with
          | some v => 1 :: u16 v
          | none => [0, 0, 0])
      ++ sectionOf 3 (recordsAll s.segments fun g => encSegmentDef g.cfg)
      ++ sectionOf 4 (records s.gear fun i g => u8 i ++ encGearDef g.cfg)
      ++ sectionOf 5 (recordsAll s.curves fun l => l.map (BitVec.ofNat 8))
      ++ sectionOf 6 (recordsAll s.sensorLines encSensorLine)
      ++ sectionOf 7 (recordsAll s.gearLines fun x => encGearLine x ++ flag8 x.enabled)
      ++ sectionOf 8 (u16 s.shadeQuery)
      ++ sectionOf 9 (recordsAll s.profiles encProfile ++ records s.periods fun i p => u8 i ++ encPeriod p)
      ++ sectionOf 10 (recordsAll s.occ fun o => u16 o.delay) := by
  have zones : imgZone = fun z x => u8 z ++ encZoneDef x.cfg ++ u16 x.learned.rho ++ u8 x.learned.learnCount
      ++ x.learned.bins.flatMap fun b => match b with
        | some v => 1 :: u16 v
        | none => [0, 0, 0] := by
    funext z x
    rw [imgZone, bins_eq]
  have curves : encCurve = fun l => l.map (BitVec.ofNat 8) := funext encCurve_eq
  rw [State.imageBody, zones, curves]
  rfl

/-! ### The bus (R204, R208) -/

section

variable {s : State} {l : Nat}

theorem transaction_eq (sent : List (List Byte)) (heard : Nat) : transaction sent heard
    = sent.flatMap (fun l => .start :: l.flatMap busOut) ++ heardBytes heard ++ [.stop] := by
  rw [transaction, show sentByte = busOut from funext sentByte_eq]

theorem busBytes_of_txn {t : SensorTxn} (h : (s.sensorLine l).txn = some t) : s.busBytes l = [[t.sent]] := by
  unfold State.busBytes
  rw [h]

/-- The memory's transaction in progress, by the load's or the save's record (R208). -/
def memoryBytes (s : State) : List (List Byte) :=
  match s.loader.load, s.loader.save with
  | some j, _ => [0xB4 :: u16 (16384 * j.slot + 64 * j.page), [0xB5]]
  | none, some j =>
    let address := 16384 * j.slot + if j.page + 1 = j.pages.length then 0 else 64 * (j.page + 1)
    match j.phase with
      | .waitGrant => []
      | .writing => [0xB4 :: u16 address ++ j.pages.getD j.page []]
      | .polling => [[0xB4]]
      | .readback => [0xB4 :: u16 address, [0xB5]]
  | none, none => []

theorem busBytes_of_none (h : (s.sensorLine l).txn = none) : s.busBytes l = if l ≠ 0 then [] else memoryBytes s := by
  unfold State.busBytes memoryBytes
  rw [h, ite_not]
  refine if_congr Iff.rfl ?_ rfl
  cases s.loader.load with
  | some j => rfl
  | none =>
    cases s.loader.save with
    | none => rfl
    | some j =>
      unfold SaveJob.busBytes
      cases j.phase <;> rfl

theorem busReads_of_none (h : (s.sensorLine l).txn = none) : s.busReads l = if (s.busBytes l).length = 2 then 64 else 0 := by
  have page : Config.pageBytes = 64 := rfl
  rw [busBytes_of_none h, State.busReads, h, page]
  refine if_congr ?_ rfl rfl
  unfold memoryBytes
  by_cases hl : l = 0
  · rw [if_neg (not_not.mpr hl)]
    cases s.loader.load with
    | some j => simp [hl]
    | none =>
      cases s.loader.save with
      | none => simp
      | some j => cases hp : j.phase <;> simp [hl, hp]
  · simp [hl]

theorem busSignals_of_txn {t : SensorTxn} (h : (s.sensorLine l).txn = some t) :
    s.busSignals l = .start :: busOut t.sent ++ busIn 3 ++ [.stop] := by
  have reads : s.busReads l = 4 := by
    rw [State.busReads, h]
  rw [State.busSignals, busBytes_of_txn h, if_neg (by simp), reads, transaction_eq, heardBytes_eq]
  simp

theorem busSignals_of_none (h : (s.sensorLine l).txn = none) : s.busSignals l = if s.busBytes l = [] then [] else
    (s.busBytes l).flatMap (fun sent => .start :: sent.flatMap busOut)
      ++ (if (s.busBytes l).length = 2 then busIn 63 else []) ++ [.stop] := by
  rw [State.busSignals, transaction_eq, busReads_of_none h]
  by_cases two : (s.busBytes l).length = 2
  · rw [if_pos two, if_pos two, heardBytes_eq]
  · rw [if_neg two, if_neg two]
    rfl

end

/-! ### The scanner after the release of SL0 (R37) -/

theorem sensorLine_of_get {s : State} {l : Nat} {x : SensorLine} (h : s.sensorLines[l]? = some x) : s.sensorLine l = x := getD_of_get h _

theorem modSensorLine_of_get {s : State} {l : Nat} {x : SensorLine} (h : s.sensorLines[l]? = some x) (f : SensorLine → SensorLine) :
    s.modSensorLine l f = { s with sensorLines := s.sensorLines.set l (f x) } := by
  rw [State.modSensorLine, modify_eq_set_of_get h]

theorem releaseSL0_cases {s : State} {x : SensorLine} (h : s.sensorLines[0]? = some x) :
    (x.scan ≠ .paused → s.releaseSL0 = s)
      ∧ (x.scan = .paused → x.cycleOpen = true →
        CycleGoesOn 0 { s with sensorLines := s.sensorLines.set 0 { x with scan := .scanning } } s.releaseSL0)
      ∧ (x.scan = .paused → x.cycleOpen = false → x.startPending = true → CycleStarts 0 s s.releaseSL0)
      ∧ (x.scan = .paused → x.cycleOpen = false → x.startPending = false →
        s.releaseSL0 = { s with sensorLines := s.sensorLines.set 0 { x with scan := .waiting } }) := by
  have line := sensorLine_of_get h
  unfold State.releaseSL0
  dsimp only
  rw [line, modSensorLine_of_get h, modSensorLine_of_get h]
  refine ⟨fun other => if_neg other, fun paused isOpen => ?_, fun paused closed pending => ?_, fun paused closed none => ?_⟩
  · rw [if_pos paused, if_pos isOpen]
    exact continueCycle_goesOn 0 _ (startPending_completeCycle ..)
  · rw [if_pos paused, if_neg (by rw [closed]; decide), if_pos pending]
    exact startCycle_starts 0 s
  · rw [if_pos paused, if_neg (by rw [closed]; decide), if_neg (by rw [none]; decide)]

/-! ### SAVE_CONFIG (R196) -/

theorem nextGen_eq {k : Loader} (h : k.knownGen < 2 ^ 32) : k.nextGen = if k.knownGen + 1 = 2 ^ 32 then 1 else k.knownGen + 1 := by
  unfold Loader.nextGen
  by_cases last : k.knownGen + 1 = 2 ^ 32
  · rw [if_pos last, last, Nat.mod_self]
    rfl
  · rw [if_neg last, Nat.mod_eq_of_lt (by omega)]
    omega

/-- The save that an accepted SAVE_CONFIG begins, in its phase (R36, R196, R197). -/
def saveBegun (s : State) : SaveJob := { s.newSave with phase := if (s.sensorLine 0).txn.isNone then .writing else .waitGrant }

theorem saveBegun_eq {s : State} (h : s.loader.knownGen < 2 ^ 32) : saveBegun s =
    { phase := if (s.sensorLine 0).txn.isNone then .writing else .waitGrant
      slot := match s.loader.knownSlot with
        | none => 0
        | some n => 1 - n
      generation := if s.loader.knownGen + 1 = 2 ^ 32 then 1 else s.loader.knownGen + 1
      pages := savePages (if s.loader.knownGen + 1 = 2 ^ 32 then 1 else s.loader.knownGen + 1) s.imageBody
      page := 0, attempts := 0, addressed := false, poll := none } := by
  have slot : s.loader.nextSlot = match s.loader.knownSlot with
      | none => 0
      | some n => 1 - n := by
    unfold Loader.nextSlot
    cases s.loader.knownSlot <;> rfl
  rw [saveBegun, State.newSave, slot, nextGen_eq h]

theorem saveConfig_begins (tag : Byte) {s : State} (hs : Undisturbed s) :
    exec (.saveConfig tag) s = .next (answered .saveConfig tag .ok [] { s with
      loader := { s.loader with save := some (saveBegun s) }
      sensorLines := if (s.sensorLine 0).txn.isNone then
          s.sensorLines.modify 0 fun x => if x.scan = .stopped then x else { x with scan := .paused }
        else s.sensorLines }) := by
  have begun : (s.modLoader fun k => { k with save := some s.newSave }).requestSL0 = { s with
      loader := { s.loader with save := some (saveBegun s) }
      sensorLines := if (s.sensorLine 0).txn.isNone then
          s.sensorLines.modify 0 fun x => if x.scan = .stopped then x else { x with scan := .paused }
        else s.sensorLines } := by
    have line : (s.modLoader fun k => { k with save := some s.newSave }).sensorLine 0 = s.sensorLine 0 := rfl
    rw [State.requestSL0, line, saveBegun]
    by_cases free : (s.sensorLine 0).txn.isNone = true
    · rw [if_pos free, if_pos free, if_pos free]
      exact grantSL0_eq rfl
    · rw [if_neg free, if_neg free, if_neg free]
      rfl
  rw [← begun]
  exact exec_of_passes_ok (f := serveSaveConfig) hs.1 rfl rfl (passes_cons (State.quiet_of_undisturbed hs) passes_nil)

/-! ### The events of a save (R197, R198) -/

section

variable {s : State} {j : SaveJob}

theorem saveIn_of_phase (h : s.loader.save = some j) {p : SavePhase} (hp : j.phase = p) : s.saveIn p = some j := by
  rw [State.saveIn, h, Option.filter_some, if_pos (decide_eq_true hp)]

theorem saveIn_of_ne (h : s.loader.save = some j) {p : SavePhase} (hp : j.phase ≠ p) : s.saveIn p = none := by
  rw [State.saveIn, h, Option.filter_some, if_neg fun e => hp (of_decide_eq_true e)]

theorem modSave_eq (h : s.loader.save = some j) (f : SaveJob → SaveJob) :
    s.modSave f = { s with loader := { s.loader with save := some (f j) } } := by
  rw [State.modSave, State.modLoader, h]
  rfl

theorem saveFailed_eq (h : s.loader.save = some j) (acked : Bool) (c : SaveFailure) : s.saveFailed acked c j
    = if j.attempts < 2 then
        { s with loader := { s.loader with save := some { j with
          phase := .writing, attempts := j.attempts + 1, addressed := j.addressed || acked, poll := none } } }
      else State.latch .storeError (State.latch .saveFinished (State.releaseSL0 { s with loader := { s.loader with
        save := none
        saveReport := .failed (if j.page = 0 ∧ (j.addressed || acked) = false then SaveFailure.noMemory else c) } })) := by
  have few : j.attempts + 1 < 3 ↔ j.attempts < 2 := by omega
  have cause : saveCause j (j.addressed || acked) c
      = if j.page = 0 ∧ (j.addressed || acked) = false then SaveFailure.noMemory else c := by
    unfold saveCause
    simp only [Bool.not_eq_true]
  rw [State.saveFailed, cause]
  exact if_congr few (modSave_eq h _) rfl

theorem pageVerified_eq (h : s.loader.save = some j) : s.pageVerified j
    = if j.page + 1 < j.pages.length then
        { s with loader := { s.loader with save := some { j with
          phase := .writing, page := j.page + 1, attempts := 0, addressed := false, poll := none } } }
      else State.latch .saveFinished (State.releaseSL0 { s with loader := { s.loader with
        save := none, saveReport := .ok j.slot j.generation, knownSlot := some j.slot, knownGen := j.generation } }) :=
  if_congr Iff.rfl (modSave_eq h _) rfl

/-- The ends of a page write (R197, R208). -/
theorem pageWriteEnd_eq (h : s.loader.save = some j) (hp : j.phase = .writing) :
    exec (.savePageWriteEnd .acknowledged) s = .next { s with loader := { s.loader with save := some { j with
        phase := .polling, addressed := true, poll := some { start := s.tick, len := 10 } } } }
      ∧ exec (.savePageWriteEnd .noAddressAck) s = .next (s.saveFailed false .writeFailed j)
      ∧ exec (.savePageWriteEnd .noLaterAck) s = .next (s.saveFailed true .writeFailed j) := by
  have answer (r : MemoryWrite) : exec (.savePageWriteEnd r) s = execSavePageWriteEnd r s := rfl
  rw [answer, answer, answer]
  unfold execSavePageWriteEnd
  rw [saveIn_of_phase h hp]
  exact ⟨congrArg Host.Outcome.next (modSave_eq h _), rfl, rfl⟩

/-- The ends of an acknowledge poll (R197). -/
theorem ackPoll_eq (h : s.loader.save = some j) (hp : j.phase = .polling) :
    exec .ackPollAnswered s = .next { s with loader := { s.loader with save := some { j with phase := .readback, poll := none } } }
      ∧ exec .ackPollTimeout s = .next (s.saveFailed true .writeFailed j) := by
  have answered_ : exec .ackPollAnswered s = execAckPollAnswered s := rfl
  have timeout : exec .ackPollTimeout s = execAckPollTimeout s := rfl
  rw [answered_, timeout]
  unfold execAckPollAnswered execAckPollTimeout
  rw [saveIn_of_phase h hp]
  exact ⟨congrArg Host.Outcome.next (modSave_eq h _), rfl⟩

/-- The ends of a read-back (R197, R198). -/
theorem readbackEnd_eq (h : s.loader.save = some j) (hp : j.phase = .readback) (bytes : List Byte) :
    exec (.saveReadbackEnd .noAddressAck) s = .next (s.saveFailed false .writeFailed j)
      ∧ exec (.saveReadbackEnd .noLaterAck) s = .next (s.saveFailed true .writeFailed j)
      ∧ exec (.saveReadbackEnd (.data bytes)) s = .next
        (if j.pages.getD j.page [] ≠ bytes then s.saveFailed true .verifyFailed j else s.pageVerified j) := by
  have answer (r : MemoryRead) : exec (.saveReadbackEnd r) s = execSaveReadbackEnd r s := rfl
  rw [answer, answer, answer]
  unfold execSaveReadbackEnd
  rw [saveIn_of_phase h hp]
  refine ⟨rfl, rfl, congrArg Host.Outcome.next ?_⟩
  rw [ite_not]
  exact if_congr eq_comm rfl rfl

/-- An event of something not in progress changes nothing (log 27). -/
theorem saveEvents_idle (h : s.loader.save = some j) (bytes : List Byte) :
    (j.phase ≠ .writing → exec (.savePageWriteEnd .acknowledged) s = .next s)
      ∧ (j.phase ≠ .polling → exec .ackPollAnswered s = .next s ∧ exec .ackPollTimeout s = .next s)
      ∧ (j.phase ≠ .readback → exec (.saveReadbackEnd (.data bytes)) s = .next s) := by
  have write : exec (.savePageWriteEnd .acknowledged) s = execSavePageWriteEnd .acknowledged s := rfl
  have answered_ : exec .ackPollAnswered s = execAckPollAnswered s := rfl
  have timeout : exec .ackPollTimeout s = execAckPollTimeout s := rfl
  have read : exec (.saveReadbackEnd (.data bytes)) s = execSaveReadbackEnd (.data bytes) s := rfl
  refine ⟨fun hp => ?_, fun hp => ⟨?_, ?_⟩, fun hp => ?_⟩
  · rw [write, execSavePageWriteEnd, saveIn_of_ne h hp]
  · rw [answered_, execAckPollAnswered, saveIn_of_ne h hp]
  · rw [timeout, execAckPollTimeout, saveIn_of_ne h hp]
  · rw [read, execSaveReadbackEnd, saveIn_of_ne h hp]

end

/-- Settles O59: the pages by the recursion that makes them, the events by the phase of the save. -/
theorem aSaveWritesAndVerifiesItsPages : Obligations.ASaveWritesAndVerifiesItsPages := by
  unfold Obligations.ASaveWritesAndVerifiesItsPages
  intro tag bytes s
  refine ⟨fun hs hgen => ?_, fun j h => ?_, fun x hx => releaseSL0_cases hx, savePages_eq, imageBody_eq s, fun l => ?_⟩
  · intro generation job
    have same : saveBegun s = job := saveBegun_eq hgen
    rw [← same]
    exact saveConfig_begins tag hs
  · intro now again ended cause fails
    have failed (acked : Bool) (c : SaveFailure) : s.saveFailed acked c j = fails acked c := saveFailed_eq h acked c
    refine ⟨fun hp => ?_, fun hp => ?_, fun hp => ?_, saveEvents_idle h bytes⟩
    · rw [← failed, ← failed]
      exact pageWriteEnd_eq h hp
    · rw [← failed]
      exact ackPoll_eq h hp
    · rw [← failed, ← failed, ← failed, ← pageVerified_eq h]
      exact readbackEnd_eq h hp bytes
  · exact ⟨fun t => busBytes_of_txn, busBytes_of_none, fun t => busSignals_of_txn, busSignals_of_none⟩

end Sys2Proof.Machine
end

section
/-! PROOFS. Chapter 11: the zones at the entry into RUNNING (R89, R136, R167, R195). -/

namespace Sys2Proof.Machine

open Sys2Proof.Safety

set_option Elab.async false

/-! ### Each zone of a list changes in turn -/

/-- `t` is `s` but for the zones, the flags and the live counters. -/
def OnlyZones (s t : State) : Prop := t = { s with zones := t.zones, flags := t.flags, live := t.live }

theorem OnlyZones.refl (s : State) : OnlyZones s s := rfl

theorem OnlyZones.trans {s t u : State} (h : OnlyZones s t) (k : OnlyZones t u) : OnlyZones s u := by
  rw [OnlyZones] at h k ⊢
  rw [h] at k
  exact k

theorem ZoneBecomes.onlyZones {s u : State} {z : Nat} {y : Zone} (h : ZoneBecomes s z u y) : OnlyZones s u := by
  rw [OnlyZones, h.rest]

/-- The zones of a list, each once, have become what `f` makes of them. -/
structure ZonesChanged (is : List Nat) (f : Nat → Zone → Zone) (s u : State) : Prop where
  rest : OnlyZones s u
  zones : ∀ z, u.zone z = if z ∈ is then (s.zone z).map (f z) else s.zone z

section

variable {s : State} {f : Nat → Zone → Zone} {g : Nat → State → State}

theorem zonesChanged_forEach {is : List Nat} (hn : is.Nodup)
    (each : ∀ t z x, OnlyZones s t → t.zone z = some x → ZoneBecomes t z (g z t) (f z x))
    (undefined : ∀ t z, t.zone z = none → g z t = t) : ZonesChanged is f s (forEach is g s) := by
  have chain : ∀ t, OnlyZones s t → ZonesChanged is f t (forEach is g t) := by
    induction is with
    | nil => exact fun t _ => ⟨.refl t, fun z => rfl⟩
    | cons i is ih =>
      intro t ht
      obtain ⟨fresh, hn⟩ := List.nodup_cons.mp hn
      rw [forEach_cons]
      cases hx : t.zone i with
      | none =>
        have next := ih hn t ht
        rw [undefined t i hx]
        refine ⟨next.rest, fun z => ?_⟩
        rw [next.zones]
        by_cases here : z = i
        · subst here
          rw [if_neg fresh, hx, Option.map_none, ite_self]
        · simp only [List.mem_cons, here, false_or]
      | some x =>
        have changed := each t i x ht hx
        have next := ih hn (g i t) (ht.trans changed.onlyZones)
        refine ⟨changed.onlyZones.trans next.rest, fun z => ?_⟩
        rw [next.zones]
        by_cases here : z = i
        · subst here
          rw [if_neg fresh, if_pos (List.mem_cons_self ..), changed.here, hx]
          rfl
        · simp only [List.mem_cons, here, false_or, changed.others here]
  exact chain s (.refl s)

/-- Where the list holds every defined zone, each zone has become what `f` makes of it. -/
theorem ZonesChanged.all {is : List Nat} {u : State} (h : ZonesChanged is f s u) (defined : ∀ z x, s.zone z = some x → z ∈ is) (z : Nat) :
    u.zone z = (s.zone z).map (f z) := by
  rw [h.zones]
  cases hx : s.zone z with
  | none => exact ite_self _
  | some x => rw [if_pos (defined z x hx)]

end

/-! ### Occupancy, OUTPUT_LOST and the resolution -/

/-- A zone with its occupancy from its input's debounced level (R167). -/
def Zone.occupied (s : State) (x : Zone) : Zone := { x with
  vacancy := none
  occupancy := match x.cfg.occInput with
    | none => .occupied
    | some i => if (s.occInput i).active then .occupied else .vacant }

/-- A zone that has taken its occupancy and OUTPUT_LOST (R87, R167). -/
def Zone.entering (s : State) (z : Nat) (x : Zone) : Zone := { x.occupied s with outputLost := s.outputIsLost z }

theorem deriveOccupancy_of_zone {s : State} {z : Nat} {x : Zone} (h : s.zone z = some x) :
    ZoneBecomes s z (s.deriveOccupancy z) (x.occupied s) := (ZoneBecomes.refl h).modZone (Zone.occupied s)

theorem modZone_of_none {s : State} {z : Nat} (h : s.zone z = none) (f : Zone → Zone) : s.modZone z f = s := by
  have same : s.zones.modify z (Option.map f) = s.zones := by
    refine List.ext_getElem? fun k => ?_
    rw [List.getElem?_modify]
    by_cases hk : z = k
    · subst hk
      rw [State.zone, entryAt] at h
      rcases hz : s.zones[z]? with _ | _ | x
      · rfl
      · simp
      · rw [hz] at h
        cases h
    · simp [hk]
  rw [State.modZone, same]

theorem resolveHeld_of_none {s : State} {z : Nat} (h : s.zone z = none) : s.resolveHeld z = s := by
  unfold State.resolveHeld
  rw [h]

theorem resolvedZone_congr {s t : State} (hs : t.sensors = s.sensors) (ht : t.tick = s.tick) (z : Nat) (n : ZoneState) (x : Zone) :
    resolvedZone t z n x = resolvedZone s z n x := by
  unfold resolvedZone
  rw [ownGainOf_congr hs z rfl, ht]

section

variable {s : State}

/-- The defined zones, in ascending index. -/
def definedZones (s : State) : List Nat := s.zonesWhere fun _ => true

theorem definedZones_nodup : (definedZones s).Nodup := List.nodup_range.filter _

theorem mem_definedZones {z : Nat} {x : Zone} (h : s.zone z = some x) : z ∈ definedZones s := State.mem_zonesWhere.mpr ⟨x, h, rfl⟩

/-- The zones at the entry into RUNNING, from the state whose device is RUNNING already (R195). -/
def zonesEntering (s : State) : State :=
  forEach (definedZones s) State.resolveHeld (forEach (definedZones s) State.deriveOccupancy s).firstOutput

theorem occupied_forEach : ZonesChanged (definedZones s) (fun _ => Zone.occupied s) s (forEach (definedZones s) State.deriveOccupancy s) := by
  refine zonesChanged_forEach definedZones_nodup (fun t z x ht hx => ?_) fun t z hx => modZone_of_none hx _
  have same : x.occupied t = x.occupied s := by
    rw [ht]
    rfl
  rw [← same]
  exact deriveOccupancy_of_zone hx

theorem firstOutput_changes : ZonesChanged (definedZones s) (fun z x => { x with outputLost := s.outputIsLost z }) s s.firstOutput := by
  refine zonesChanged_forEach definedZones_nodup (fun t z x ht hx => ?_) fun t z hx => modZone_of_none hx _
  have same : t.outputIsLost z = s.outputIsLost z := outputIsLost_congr (by rw [ht]) (by rw [ht]) z
  rw [← same]
  exact (ZoneBecomes.refl hx).modZone fun x => { x with outputLost := t.outputIsLost z }

/-- What the resolution makes of a zone's record (R63 to R66). -/
def resolvedIn (s : State) (z : Nat) (x : Zone) : Zone := resolvedZone s z (stateByOrder s z x) x

theorem resolvedIn_congr {t : State} (hs : t.sensors = s.sensors) (hw : t.sweep = s.sweep) (ht : t.tick = s.tick) (z : Nat) (x : Zone) :
    resolvedIn t z x = resolvedIn s z x := by
  rw [resolvedIn, resolvedIn, ← resolved_eq, ← resolved_eq, resolved_congr hs hw rfl rfl rfl rfl, resolvedZone_congr hs ht]

theorem resolvedHeld_forEach (is : List Nat) (hn : is.Nodup) : ZonesChanged is (resolvedIn s) s (forEach is State.resolveHeld s) := by
  refine zonesChanged_forEach hn (fun t z x ht hx => ?_) fun t z hx => resolveHeld_of_none hx
  rw [← resolvedIn_congr (t := t) (by rw [ht]) (by rw [ht]) (by rw [ht]), resolvedIn, ← resolved_eq]
  exact zoneBecomes_resolveHeld hx

theorem zonesEntering_only : OnlyZones s (zonesEntering s) :=
  ((occupied_forEach (s := s)).rest.trans firstOutput_changes.rest).trans (resolvedHeld_forEach (definedZones s) definedZones_nodup).rest

theorem zonesEntering_zone (z : Nat) : (zonesEntering s).zone z = (s.zone z).map fun x => resolvedIn s z (x.entering s z) := by
  have occupied := occupied_forEach (s := s)
  have lost := firstOutput_changes (s := forEach (definedZones s) State.deriveOccupancy s)
  have before : OnlyZones s (forEach (definedZones s) State.deriveOccupancy s).firstOutput := occupied.rest.trans lost.rest
  have entered : (forEach (definedZones s) State.deriveOccupancy s).firstOutput.zone z = (s.zone z).map fun x => x.entering s z := by
    have output : (forEach (definedZones s) State.deriveOccupancy s).outputIsLost z = s.outputIsLost z :=
      outputIsLost_congr (by rw [occupied.rest]) (by rw [occupied.rest]) z
    rw [lost.all (fun z x hx => mem_definedZones hx), occupied.all (fun z x hx => mem_definedZones hx), Option.map_map, output]
    rfl
  rw [zonesEntering, (resolvedHeld_forEach (definedZones s) definedZones_nodup).zones, entered]
  have same (x : Zone) : resolvedIn (forEach (definedZones s) State.deriveOccupancy s).firstOutput z x = resolvedIn s z x :=
    resolvedIn_congr (by rw [before]) (by rw [before]) (by rw [before]) z x
  cases hx : s.zone z with
  | none => exact ite_self _
  | some x =>
    rw [if_pos (mem_definedZones hx)]
    exact congrArg some (same _)

/-! ### What the entry of the zones counts and latches -/

theorem forEach_related {R : State → State → Prop} (refl : ∀ s, R s s) (trans : ∀ s t u, R s t → R t u → R s u) {g : Nat → State → State}
    (each : ∀ i s, R s (g i s)) (is : List Nat) (s : State) : R s (forEach is g s) := by
  induction is generalizing s with
  | nil => exact refl s
  | cons i is ih => exact trans _ _ _ (each i s) (ih _)

theorem flags_forEach {g : Nat → State → State} (each : ∀ i s, (g i s).flags = s.flags) (is : List Nat) (s : State) :
    (forEach is g s).flags = s.flags :=
  forEach_related (R := fun s t => t.flags = s.flags) (fun _ => rfl) (fun _ _ _ h k => k.trans h) each is s

theorem flagsGrow_resolveHelds (is : List Nat) (s : State) :
    FlagsGrow [.counterSaturated, .zoneFallback] s (forEach is State.resolveHeld s) := by
  refine forEach_related (flagsGrow_refl _) (fun _ _ _ => FlagsGrow.trans) (fun i s => ?_) is s
  cases hx : s.zone i with
  | none =>
    rw [resolveHeld_of_none hx]
    exact flagsGrow_refl _ s
  | some x => exact flagsGrow_resolveHeld hx

theorem flags_beforeResolution : (forEach (definedZones s) State.deriveOccupancy s).firstOutput.flags = s.flags := by
  have occupied : (forEach (definedZones s) State.deriveOccupancy s).flags = s.flags := flags_forEach (by intro _ _; rfl) _ s
  have lost (t : State) : t.firstOutput.flags = t.flags := by
    unfold State.firstOutput
    exact flags_forEach (by intro _ _; rfl) _ t
  rw [lost, occupied]

theorem flagsGrow_zonesEntering : FlagsGrow [.counterSaturated, .zoneFallback] s (zonesEntering s) :=
  FlagsGrow.trans (flagsGrow_of_flags flags_beforeResolution) (flagsGrow_resolveHelds ..)

/-- Zones in FALLBACK or DISABLED latch nothing at their resolution (R66). -/
theorem zoneFallback_resolveHelds {is : List Nat} (hn : is.Nodup)
    (quiet : ∀ z ∈ is, ∀ x, s.zone z = some x → x.state = .fallback ∨ x.state = .disabled) :
    hasFlag (forEach is State.resolveHeld s).flags.latched .zoneFallback = hasFlag s.flags.latched .zoneFallback := by
  induction is generalizing s with
  | nil => rfl
  | cons i is ih =>
    obtain ⟨fresh, hn⟩ := List.nodup_cons.mp hn
    have here : hasFlag (s.resolveHeld i).flags.latched .zoneFallback = hasFlag s.flags.latched .zoneFallback := by
      cases hx : s.zone i with
      | none => rw [resolveHeld_of_none hx]
      | some x =>
        rw [zoneFallback_resolveHeld hx]
        rcases quiet i (List.mem_cons_self ..) x hx with e | e <;> simp [e]
    rw [forEach_cons, ih hn fun z hz x hx => ?_, here]
    have ne : z ≠ i := fun e => fresh (e ▸ hz)
    rw [zone_resolveHeld_ne ne] at hx
    exact quiet z (List.mem_cons_of_mem i hz) x hx

theorem zoneFallback_zonesEntering (quiet : ∀ z x, s.zone z = some x → x.state = .fallback ∨ x.state = .disabled) :
    hasFlag (zonesEntering s).flags.latched .zoneFallback = hasFlag s.flags.latched .zoneFallback := by
  have occupied := occupied_forEach (s := s)
  have lost := firstOutput_changes (s := forEach (definedZones s) State.deriveOccupancy s)
  rw [zonesEntering, zoneFallback_resolveHelds definedZones_nodup, flags_beforeResolution]
  intro z _ y hy
  rw [lost.all (fun z x hx => mem_definedZones hx), occupied.all (fun z x hx => mem_definedZones hx), Option.map_map] at hy
  obtain ⟨x, hx, rfl⟩ := Option.map_eq_some_iff.mp hy
  exact quiet z x hx

theorem moves_zonesEntering : Moves 1 s (zonesEntering s) :=
  ((Moves.forEach _ _ (fun _ _ _ => Moves.deriveOccupancy le_rfl ..) s).trans (Moves.firstOutput le_rfl _)).trans
    (Moves.forEach _ _ (fun _ _ _ => Moves.resolveHeld le_rfl ..) _)

theorem outputIsLost_iff (z : Nat) : s.outputIsLost z = true ↔ OutputLost s z := by
  have some_ : (!(s.gearWhere (Gear.drives z)).isEmpty) = true ↔ ∃ i g, s.gearAt i = some g ∧ g.cfg.role = .driver z := by
    simp only [Bool.not_eq_true', List.isEmpty_eq_false_iff_exists_mem, State.mem_gearWhere, drives_iff]
  have dark (g : Gear) : (decide (g.state = .silent) || !(s.gearLine g.cfg.line).isUp) = true
      ↔ g.state = .silent ∨ (s.gearLine g.cfg.line).state ≠ .up := by
    simp only [isUp_eq, Bool.or_eq_true, decide_eq_true_eq, Bool.not_eq_true', decide_eq_false_iff_not, ne_eq]
  have all : (s.gearWhere (Gear.drives z)).all (fun i => (s.gearAt i).all fun g =>
      decide (g.state = .silent) || !(s.gearLine g.cfg.line).isUp) = true
      ↔ ∀ i g, s.gearAt i = some g → g.cfg.role = .driver z → g.state = .silent ∨ (s.gearLine g.cfg.line).state ≠ .up := by
    simp only [List.all_eq_true, State.mem_gearWhere, drives_iff, option_all_iff, dark]
    exact ⟨fun h i g hg hrole => h i ⟨g, hg, hrole⟩ g hg,
      fun h i ⟨g, hg, hrole⟩ g' hg' => h i g' hg' (Option.some.inj (hg.symm.trans hg') ▸ hrole)⟩
  rw [State.outputIsLost, Bool.and_eq_true, some_, all, OutputLost]

/-- The zones at the entry into RUNNING, from a state that has the load's outcome and the device's state besides (R195). -/
theorem zonesEntered {b : State} (hb : b = { s with loader := b.loader, flags := b.flags })
    (hf : FlagsGrow [.configDefaults, .storeError] s b) : ZonesEntered s (zonesEntering b) := by
  have same : ∀ z, b.zone z = s.zone z := fun z => by rw [hb]; rfl
  have live : b.live = s.live := by rw [hb]
  have fallback : hasFlag b.flags.latched .zoneFallback = hasFlag s.flags.latched .zoneFallback := (hf.2 _).2 (by simp)
  have moved := moves_zonesEntering (s := b)
  refine ⟨?_, fun z hz => ?_, fun z x hz => ?_, ?_, fun quiet => ?_, fun c => ?_⟩
  · have rest := zonesEntering_only (s := b)
    generalize zonesEntering b = u at rest
    have loader : u.loader = b.loader := by rw [rest]
    rw [OnlyZones, hb] at rest
    rw [loader]
    exact rest
  · rw [zonesEntering_zone, same, hz]
    rfl
  · refine ⟨s.outputIsLost z, outputIsLost_iff z, ?_⟩
    have lost : b.outputIsLost z = s.outputIsLost z := outputIsLost_congr (by rw [hb]) (by rw [hb]) z
    have occupied : x.occupied b = x.occupied s := by
      rw [hb]
      rfl
    rw [zonesEntering_zone, same, hz, Option.map_some, resolvedIn_congr (s := s) (by rw [hb]) (by rw [hb]) (by rw [hb]), Zone.entering,
      lost, occupied]
    rfl
  · exact FlagsGrow.trans (FlagsGrow.mono hf (by simp)) (FlagsGrow.mono flagsGrow_zonesEntering (by simp))
  · rw [zoneFallback_zonesEntering fun z x hx => quiet z x ((same z).symm.trans hx), fallback]
  · have counted := moved.countersGrow_of (p := isDeferralOrOverride) (by omega)
      (by intro k; cases k <;> simp [counterRank, isDeferralOrOverride]) c
    rw [live] at counted
    exact counted

end

end Sys2Proof.Machine
end

section
/-! PROOFS. Chapter 11: the gear lines and the scanners at the entry into RUNNING (R38, R87, R115, R136, R195). -/

namespace Sys2Proof.Machine

open Sys2Proof.Safety

set_option Elab.async false

/-! ### One line comes up -/

section

variable {s : State} {l : Nat} {x : GearLine}

theorem lineComesUp_of_get (h : s.gearLines[l]? = some x) : s.lineComesUp l = State.refreshLineOutput l (lineEntering l x s) := by
  unfold State.lineComesUp State.lineStarting lineEntering
  rw [gearLine_of_get h, modGearLine_of_get h, modGearLine_of_get h]
  by_cases hs : x.supply = true
  · rw [if_pos hs, if_pos hs, modLineGear_eq]
    rfl
  · rw [if_neg hs, if_neg hs]

/-- A gear whose line comes up with a supply (R115). -/
def Gear.unknown (g : Gear) : Gear := { g with state := .unknown, lampFail := false, confirmed := none }

theorem gearAt_lineEntering (i : Nat) :
    (lineEntering l x s).gearAt i = (s.gearAt i).map fun g => if g.cfg.line = l ∧ x.supply = true then g.unknown else g := by
  unfold lineEntering
  by_cases hs : x.supply = true
  · rw [if_pos hs]
    refine (entryAt_map ..).trans (congrArg (Option.map · (s.gearAt i)) (funext fun g => ?_))
    exact if_congr (by simp [hs]) rfl rfl
  · rw [if_neg hs]
    simp only [hs, Bool.false_eq_true, and_false, if_false, Option.map_id_fun']
    rfl

theorem gearLine_lineEntering_ne {k : Nat} (hk : k ≠ l) : (lineEntering l x s).gearLine k = s.gearLine k := by
  rw [State.gearLine, State.gearLine, gearLines_lineEntering, List.getD_eq_getElem?_getD, List.getD_eq_getElem?_getD,
    List.getElem?_set_ne (Ne.symm hk)]

/-- A line that drives nothing of a zone does not matter to its OUTPUT_LOST (R87). -/
theorem outputIsLost_lineEntering {z : Nat} (h : ¬ DrivenOn s l z) : (lineEntering l x s).outputIsLost z = s.outputIsLost z := by
  have away {i : Nat} {g : Gear} (hg : s.gearAt i = some g) (hz : g.cfg.role = .driver z) : g.cfg.line ≠ l :=
    fun hl => h ⟨i, g, hg, hz, hl⟩
  have driver (i : Nat) (g : Gear) : (lineEntering l x s).gearAt i = some g ∧ g.cfg.role = .driver z
      ↔ s.gearAt i = some g ∧ g.cfg.role = .driver z := by
    rw [gearAt_lineEntering]
    cases hi : s.gearAt i with
    | none => simp
    | some y =>
      rw [Option.map_some]
      by_cases here : y.cfg.line = l ∧ x.supply = true
      · have other (g : Gear) (hc : g.cfg = y.cfg) : g.cfg.role ≠ .driver z := fun hz => away hi (hc ▸ hz) here.1
        rw [if_pos here]
        refine ⟨fun ⟨hg, hz⟩ => absurd hz (other g ?_), fun ⟨hg, hz⟩ => absurd hz (other g ?_)⟩
        · rw [← Option.some.inj hg]
          rfl
        · rw [← Option.some.inj hg]
      · rw [if_neg here]
  rw [Bool.eq_iff_iff, outputIsLost_iff, outputIsLost_iff, OutputLost, OutputLost]
  refine and_congr (exists_congr fun i => exists_congr fun g => driver i g) (forall_congr' fun i => forall_congr' fun g => ?_)
  constructor
  · intro lost hg hz
    rw [← gearLine_lineEntering_ne (x := x) (away hg hz)]
    exact lost ((driver i g).mpr ⟨hg, hz⟩).1 hz
  · intro lost hg hz
    have there := ((driver i g).mp ⟨hg, hz⟩).1
    rw [gearLine_lineEntering_ne (away there hz)]
    exact lost there hz

/-- Every zone's OUTPUT_LOST is what its gear give (R87). -/
def OutputsTrue (s : State) : Prop := ∀ z x, s.zone z = some x → x.outputLost = s.outputIsLost z

/-- A zone with OUTPUT_LOST set so. -/
def Zone.withOutput (lost : Bool) (x : Zone) : Zone := { x with outputLost := lost }

theorem outputIsLost_lineComesUp (h : s.gearLines[l]? = some x) (z : Nat) :
    (s.lineComesUp l).outputIsLost z = (lineEntering l x s).outputIsLost z := by
  rw [lineComesUp_of_get h]
  exact outputIsLost_congr (by rw [outputs_lineEntering.1]) (by rw [outputs_lineEntering.1]) z

theorem zone_lineEntering (z : Nat) : (lineEntering l x s).zone z = s.zone z := by
  unfold lineEntering
  split <;> rfl

theorem zone_lineComesUp (h : s.gearLines[l]? = some x) (truth : OutputsTrue s) (z : Nat) :
    (s.lineComesUp l).zone z = (s.zone z).map (Zone.withOutput ((s.lineComesUp l).outputIsLost z)) := by
  have lost := outputIsLost_lineComesUp h z
  obtain ⟨-, others, here, -⟩ := (outputs_lineEntering (l := l) (y := x) (s := s)).2
  rw [← lineComesUp_of_get h] at others here
  by_cases driven : DrivenOn s l z
  · rw [here z driven, zone_lineEntering]
    rfl
  · rw [others z driven, zone_lineEntering, lost, outputIsLost_lineEntering driven]
    cases hz : s.zone z with
    | none => rfl
    | some y =>
      rw [Option.map_some, ← truth z y hz]
      rfl

theorem flagsGrow_lineComesUp (h : s.gearLines[l]? = some x) : FlagsGrow [.lineDown, .outputLost] s (s.lineComesUp l)
    ∧ (x.supply = false → hasFlag (s.lineComesUp l).flags.latched .lineDown = true) := by
  obtain ⟨grown, -⟩ := (outputs_lineEntering (l := l) (y := x) (s := s)).2
  rw [← lineComesUp_of_get h] at grown
  have entered : FlagsGrow [.lineDown, .outputLost] s (lineEntering l x s)
      ∧ (x.supply = false → hasFlag (lineEntering l x s).flags.latched .lineDown = true) := by
    unfold lineEntering
    cases x.supply with
    | true => exact ⟨flagsGrow_of_flags rfl, fun h => by cases h⟩
    | false =>
      refine ⟨FlagsGrow.trans (flagsGrow_of_flags rfl) (flagsGrow_latch _ (by simp)), fun _ => ?_⟩
      rw [if_neg Bool.false_ne_true, hasFlag_latch, decide_eq_true rfl, Bool.or_true]
  exact ⟨FlagsGrow.trans entered.1 (FlagsGrow.mono grown (by simp)), fun dark => (grown.2 _).1 (entered.2 dark)⟩

theorem lineComesUp_rest (h : s.gearLines[l]? = some x) :
    s.lineComesUp l = { s with
        zones := (s.lineComesUp l).zones, gear := (s.lineComesUp l).gear, gearLines := (s.lineComesUp l).gearLines
        flags := (s.lineComesUp l).flags }
      ∧ (s.lineComesUp l).gearLines = s.gearLines.set l (lineIn x s)
      ∧ ∀ i, (s.lineComesUp l).gearAt i = (s.gearAt i).map fun g => if g.cfg.line = l ∧ x.supply = true then g.unknown else g := by
  have refreshed := (outputs_lineEntering (l := l) (y := x) (s := s)).1
  rw [lineComesUp_of_get h]
  generalize State.refreshLineOutput l (lineEntering l x s) = t at refreshed
  have gear : t.gear = (lineEntering l x s).gear := by rw [refreshed]
  have lines : t.gearLines = (lineEntering l x s).gearLines := by rw [refreshed]
  refine ⟨?_, lines.trans gearLines_lineEntering, fun i => ?_⟩
  · have entered : lineEntering l x s = { s with
        gear := (lineEntering l x s).gear, gearLines := (lineEntering l x s).gearLines, flags := (lineEntering l x s).flags } := by
      unfold lineEntering
      split <;> rfl
    rw [gear, lines]
    rw [entered] at refreshed
    exact refreshed
  · rw [State.gearAt, gear]
    exact gearAt_lineEntering i

/-! ### The enabled lines come up, in turn -/

/-- The lines of a list, each once, have come up (R136). -/
structure LinesRaised (is : List Nat) (u v : State) : Prop where
  rest : v = { u with zones := v.zones, gear := v.gear, gearLines := v.gearLines, flags := v.flags }
  lines : ∀ l x, u.gearLines[l]? = some x → v.gearLines[l]? = some (if l ∈ is then lineIn x u else x)
  gear : ∀ i, v.gearAt i = (u.gearAt i).map fun g =>
    if g.cfg.line ∈ is ∧ (u.gearLine g.cfg.line).supply = true then g.unknown else g
  zones : ∀ z, v.zone z = (u.zone z).map (Zone.withOutput (v.outputIsLost z))
  flags : FlagsGrow [.lineDown, .outputLost] u v
  down : ∀ l x, l ∈ is → u.gearLines[l]? = some x → x.supply = false → hasFlag v.flags.latched .lineDown = true

theorem linesRaised {u : State} (truth : OutputsTrue u) {is : List Nat} (hn : is.Nodup) (hl : ∀ l ∈ is, l < u.gearLines.length) :
    LinesRaised is u (forEach is State.lineComesUp u) := by
  induction is generalizing u with
  | nil =>
    refine ⟨rfl, fun l x hx => hx, fun i => ?_, fun z => ?_, flagsGrow_refl _ u, fun l x hm => by cases hm⟩
    · simp [forEach]
    · rw [forEach, List.foldl_nil]
      cases hz : u.zone z with
      | none => rfl
      | some y =>
        rw [← truth z y hz]
        rfl
  | cons i is ih =>
    obtain ⟨fresh, hn⟩ := List.nodup_cons.mp hn
    obtain ⟨x, hx⟩ : ∃ x, u.gearLines[i]? = some x := ⟨_, List.getElem?_eq_getElem (hl i (List.mem_cons_self ..))⟩
    obtain ⟨t, ht⟩ : ∃ t, t = u.lineComesUp i := ⟨_, rfl⟩
    obtain ⟨rest, lines, gear⟩ := lineComesUp_rest hx
    have zones := zone_lineComesUp hx truth
    obtain ⟨grown, dark⟩ := flagsGrow_lineComesUp hx
    rw [← ht] at rest lines gear zones grown dark
    rw [forEach_cons, ← ht]
    have there : OutputsTrue t := fun z y hz => by
      rw [zones] at hz
      obtain ⟨w, -, rfl⟩ := Option.map_eq_some_iff.mp hz
      rfl
    have next := ih there hn fun l hm => by
      rw [lines, List.length_set]
      exact hl l (List.mem_cons_of_mem i hm)
    have tick : t.tick = u.tick := by rw [rest]
    have others {l : Nat} (hne : l ≠ i) : t.gearLines[l]? = u.gearLines[l]? := by
      rw [lines, List.getElem?_set_ne (Ne.symm hne)]
    have supply {l : Nat} (hne : l ≠ i) : t.gearLine l = u.gearLine l := by
      rw [State.gearLine, State.gearLine, List.getD_eq_getElem?_getD, List.getD_eq_getElem?_getD, others hne]
    refine ⟨?_, fun l y hy => ?_, fun k => ?_, fun z => ?_, FlagsGrow.trans grown next.flags, fun l y hm hy off => ?_⟩
    · have rest' := next.rest
      generalize forEach is State.lineComesUp t = v at rest'
      rw [rest] at rest'
      exact rest'
    · by_cases here : l = i
      · subst here
        obtain rfl : x = y := Option.some.inj (hx.symm.trans hy)
        rw [next.lines l (lineIn x u) (by rw [lines]; exact get_set_same hx _), if_neg fresh, if_pos (List.mem_cons_self ..)]
      · rw [next.lines l y ((others here).trans hy)]
        refine congrArg some (if_congr ?_ ?_ rfl)
        · rw [List.mem_cons, or_iff_right here]
        · rw [lineIn, lineIn, tick]
    · rw [next.gear, gear, Option.map_map]
      refine congrArg (Option.map · (u.gearAt k)) (funext fun g => ?_)
      by_cases here : g.cfg.line = i
      · have mine : u.gearLine g.cfg.line = x := here ▸ gearLine_of_get hx
        have line : (if g.cfg.line = i ∧ x.supply = true then g.unknown else g).cfg.line = i := by
          split
          · exact here
          · exact here
        rw [Function.comp_apply, line, if_neg fun c => fresh c.1, mine]
        exact if_congr (and_congr_left fun _ => ⟨fun _ => here ▸ List.mem_cons_self .., fun _ => here⟩) rfl rfl
      · have kept : (if g.cfg.line = i ∧ x.supply = true then g.unknown else g) = g := if_neg fun c => here c.1
        rw [Function.comp_apply, kept, supply here]
        exact if_congr (and_congr_left fun _ => by rw [List.mem_cons, or_iff_right here]) rfl rfl
    · rw [next.zones, zones, Option.map_map]
      rfl
    · rcases List.mem_cons.mp hm with rfl | hm
      · obtain rfl : x = y := Option.some.inj (hx.symm.trans hy)
        exact (next.flags.2 _).1 (dark off)
      · have hne : l ≠ i := fun e => fresh (e ▸ hm)
        exact next.down l y hm ((others hne).trans hy) off

end

/-! ### The scanners -/

section

variable {s : State}

theorem scannerEntered (l : Nat) : ScannerEntered l s (s.startScanner l) := by
  unfold ScannerEntered State.startScanner
  split
  · exact startCycle_starts l s
  · rfl

/-- A start of a cycle leaves the other line, and brings its own to SCANNING or WAITING (R24, R25, R27). -/
theorem sensorLine_startCycle (l : Nat) : (∀ k, k ≠ l → (s.startCycle l).sensorLine k = s.sensorLine k)
    ∧ (l < s.sensorLines.length → ((s.startCycle l).sensorLine l).scan = .scanning ∨ ((s.startCycle l).sensorLine l).scan = .waiting) := by
  obtain ⟨f, scans, lines⟩ : ∃ f : SensorLine → SensorLine, (∀ x, (f x).scan = .scanning ∨ (f x).scan = .waiting)
      ∧ (s.startCycle l).sensorLines = s.sensorLines.modify l f := by
    obtain ⟨visits, completes⟩ := startCycle_starts l s
    by_cases next : ∃ i, VisitsNext (cycleOpened l s) l i
    · obtain ⟨i, hi⟩ := next
      rw [visits i hi, transacting, cycleOpened]
      exact ⟨_, fun _ => .inl rfl, modify_modify ..⟩
    · rw [completes (not_exists.mp next), sensorLines_completeCycle, cycleClosed, cycleOpened]
      exact ⟨_, fun _ => .inr rfl, modify_modify ..⟩
  refine ⟨fun k hk => ?_, fun hl => ?_⟩
  · rw [State.sensorLine, lines, getD_modify, if_neg fun e => hk e.1.symm]
    rfl
  · rw [State.sensorLine, lines, getD_modify, if_pos ⟨rfl, hl⟩]
    exact scans _

/-- A scanner that is STOPPED starts, and the other line stays (R38). -/
theorem sensorLine_startScanner (l : Nat) : (∀ k, k ≠ l → (s.startScanner l).sensorLine k = s.sensorLine k)
    ∧ (l < s.sensorLines.length → (s.sensorLine l).scan = .stopped →
      ((s.startScanner l).sensorLine l).scan = .scanning ∨ ((s.startScanner l).sensorLine l).scan = .waiting) := by
  unfold State.startScanner
  obtain ⟨others, starts⟩ := sensorLine_startCycle (s := s) l
  split
  · exact ⟨others, fun hl _ => starts hl⟩
  · next running => exact ⟨fun _ _ => rfl, fun _ stopped => absurd stopped running⟩

end

/-! ### Entry into RUNNING -/

/-- The gear lines that are enabled (R136). -/
def enabledLines (s : State) : List Nat := indicesWhere Config.nGearLines fun l => (s.gearLine l).enabled

theorem enterRunning_eq (s : State) : s.enterRunning = State.startScanner 1 (State.startScanner 0
    (forEach (enabledLines (zonesEntering (s.modLoader fun k => { k with device := .running }))) State.lineComesUp
      (zonesEntering (s.modLoader fun k => { k with device := .running })))) := rfl

theorem resolvedZone_outputLost (s : State) (z : Nat) (n : ZoneState) (x : Zone) : (resolvedZone s z n x).outputLost = x.outputLost := by
  unfold resolvedZone
  dsimp only
  split <;> split <;> rfl

theorem zonesEntering_outputs (s : State) : OutputsTrue (zonesEntering s) := by
  intro z x hx
  have rest := zonesEntering_only (s := s)
  rw [zonesEntering_zone] at hx
  obtain ⟨w, -, rfl⟩ := Option.map_eq_some_iff.mp hx
  have kept : (resolvedIn s z (w.entering s z)).outputLost = (w.entering s z).outputLost := resolvedZone_outputLost ..
  rw [kept, outputIsLost_congr (s := s) (by rw [rest]) (by rw [rest])]
  rfl

theorem linesEntered {u : State} (truth : OutputsTrue u) (four : u.gearLines.length = 4) :
    LinesEntered u (forEach (enabledLines u) State.lineComesUp u) := by
  have listed (l : Nat) : l ∈ enabledLines u ↔ l < 4 ∧ (u.gearLine l).enabled = true := mem_indicesWhere
  have once : (enabledLines u).Nodup := List.nodup_range.filter _
  have raised := linesRaised truth once fun l hl => by
    rw [four]
    exact ((listed l).mp hl).1
  generalize forEach (enabledLines u) State.lineComesUp u = v at raised
  have get {l : Nat} (hl : l < 4) : u.gearLines[l]? = some (u.gearLine l) := by
    have there : u.gearLines[l]? = some (u.gearLines[l]'(four ▸ hl)) := List.getElem?_eq_getElem (four ▸ hl)
    rw [there, gearLine_of_get there]
  refine ⟨raised.rest, fun l hl => ?_, fun i => ?_, fun z => ⟨v.outputIsLost z, outputIsLost_iff z, raised.zones z⟩, raised.flags,
    fun ⟨l, hl, on, dark⟩ => raised.down l _ ((listed l).mpr ⟨hl, on⟩) (get hl) dark⟩
  · rw [gearLine_of_get (raised.lines l _ (get hl))]
    by_cases on : (u.gearLine l).enabled = true
    · rw [if_pos ((listed l).mpr ⟨hl, on⟩), if_neg (by rw [on]; decide)]
      rfl
    · rw [if_neg fun hm => on ((listed l).mp hm).2, if_pos (Bool.eq_false_of_not_eq_true on)]
  · rw [raised.gear]
    refine congrArg (Option.map · (u.gearAt i)) (funext fun g => if_congr ?_ rfl rfl)
    rw [listed, and_assoc]

theorem state_of_lineCore {u v : State} (h : v.gearLines.map lineCore = u.gearLines.map lineCore) {l : Nat} :
    (v.gearLine l).state = (u.gearLine l).state := by
  have there := congrArg (fun t : List GearLine => (t[l]?).map GearLine.state) h
  simp only [List.getElem?_map, Option.map_map] at there
  have state : GearLine.state ∘ lineCore = GearLine.state := rfl
  rw [state] at there
  rw [State.gearLine, State.gearLine, List.getD_eq_getElem?_getD, List.getD_eq_getElem?_getD]
  cases hv : v.gearLines[l]? <;> cases hu : u.gearLines[l]? <;> rw [hv, hu] at there
  case none.some => cases there
  case some.none => cases there
  case some.some x y => exact Option.some.inj there

/-- The entry into RUNNING, from a state that has the load's outcome besides (R195). -/
theorem entered {s b : State} (hb : b = { s with loader := b.loader, flags := b.flags })
    (hf : FlagsGrow [.configDefaults, .storeError] s b) (four : s.gearLines.length = 4) (two : s.sensorLines.length = 2) :
    Entered s b.enterRunning := by
  have config : configuration b.enterRunning = configuration s := by
    rw [(Moves.enterRunning (n := 5) le_rfl b).configuration_eq (by omega), hb]
    rfl
  rw [enterRunning_eq] at config ⊢
  have running : b.modLoader (fun k => { k with device := .running })
      = { s with loader := { b.loader with device := .running }, flags := b.flags } := by
    rw [hb]
    rfl
  generalize b.modLoader (fun k => { k with device := .running }) = c at running config ⊢
  have flags : c.flags = b.flags := by rw [running]
  have zones : ZonesEntered s (zonesEntering c) := zonesEntered (b := c) (by rw [running]) (by rw [FlagsGrow, flags]; exact hf)
  have same := zones.rest
  have truth := zonesEntering_outputs c
  generalize zonesEntering c = u at zones same truth config ⊢
  have lines := linesEntered truth (by rw [same]; exact four)
  have raised := lines.rest
  generalize forEach (enabledLines u) State.lineComesUp u = v at lines raised config ⊢
  have first := scannerEntered (s := v) 0
  have scan0 := sensorLine_startScanner (s := v) 0
  have moved0 : Moves 4 v (v.startScanner 0) := Moves.startScanner le_rfl v 0
  generalize v.startScanner 0 = w at first scan0 moved0 config ⊢
  have second := scannerEntered (s := w) 1
  have scan1 := sensorLine_startScanner (s := w) 1
  have moved1 : Moves 4 w (w.startScanner 1) := Moves.startScanner le_rfl w 1
  generalize w.startScanner 1 = t at second scan1 moved1 config ⊢
  have moved : Moves 4 v t := moved0.trans moved1
  have line {l : Nat} : v.sensorLine l = s.sensorLine l := by
    rw [raised, same]
    rfl
  have length : w.sensorLines.length = 2 := by
    have params := congrArg List.length (moved0.sensorLineParams_eq (by omega))
    rw [List.length_map, List.length_map] at params
    rw [params, raised, same]
    exact two
  have length' : v.sensorLines.length = 2 := by
    rw [raised, same]
    exact two
  refine ⟨⟨u, v, w, zones, lines, first, second⟩, config, fun l hl stopped => ?_, fun l hl on => ?_, ?_⟩
  · rw [← line] at stopped
    obtain rfl | rfl : l = 0 ∨ l = 1 := by omega
    · rw [scan1.1 0 (by decide)]
      exact scan0.2 (by omega) stopped
    · rw [← scan0.1 1 (by decide)] at stopped
      exact scan1.2 (by omega) stopped
  · have here : u.gearLine l = s.gearLine l := by
      rw [same]
      rfl
    rw [state_of_lineCore (moved.lineCore_eq (by omega)), lines.lines l hl, here]
    dsimp only
    rw [if_neg (by rw [on]; decide), comesUp]
    split <;> rfl
  · refine ⟨moved.pending.trans ?_, moved.tick.trans ?_, moved.straps.trans ?_, (moved.port_eq (by omega)).trans ?_,
      (moved.clock_eq (by omega)).trans ?_, (moved.occ_eq (by omega)).trans ?_, (moved.liveSince_eq (by omega)).trans ?_,
      (moved.shadow_eq (by omega)).trans ?_, (moved.shadowHeader_eq (by omega)).trans ?_⟩
    all_goals rw [raised, same]

end Sys2Proof.Machine
end

section
/-! PROOFS. Chapter 11: the autoload's events (R191 to R195, R207). -/

namespace Sys2Proof.Machine

open Sys2Proof.Safety

set_option Elab.async false

/-! ### What the entry into RUNNING leaves of the loader and of the loader's flags -/

section

variable {s : State}

/-- The loader stays, and no flag of the loader's rank or above is latched. -/
structure LoaderStays (s t : State) : Prop where
  loader : t.loader = s.loader
  flags : ∀ f, 3 < flagRank f → hasFlag t.flags.latched f = hasFlag s.flags.latched f

theorem LoaderStays.refl (s : State) : LoaderStays s s := ⟨rfl, fun _ _ => rfl⟩

theorem LoaderStays.trans {s t u : State} (h : LoaderStays s t) (k : LoaderStays t u) : LoaderStays s u :=
  ⟨k.loader.trans h.loader, fun f hf => (k.flags f hf).trans (h.flags f hf)⟩

theorem loaderStays_of_moves {t : State} (h : Moves 3 s t) : LoaderStays s t :=
  ⟨h.loader_eq (by omega), (h.flagsGrow (by omega)).2.2⟩

theorem loaderStays_recordEval (s : State) (z : Nat) (r : EvalRecord) : LoaderStays s (s.recordEval z r) := by
  have grown := flagsGrow_recordEval s z r
  refine ⟨?_, fun f hf => (grown.2 f).2 fun low => ?_⟩
  · unfold State.recordEval
    split
    · rfl
    · rw [State.countBy_eq, State.countBy_eq, State.countBy_eq]
      rfl
  · rw [List.mem_singleton.mp low] at hf
    exact absurd hf (by decide)

theorem loaderStays_evaluate (s : State) (line z : Nat) : LoaderStays s (s.evaluate line z) := by
  cases h : s.zone z with
  | none =>
    unfold State.evaluate
    rw [h]
    exact .refl s
  | some x =>
    have evaluated : LoaderStays s { s with zones := s.zones.set z (some (x.evaluated s line z)) } := ⟨rfl, fun _ _ => rfl⟩
    rw [evaluate_of_zone h]
    exact ((evaluated.trans (loaderStays_of_moves (Moves.handIfChanged ..))).trans
      (loaderStays_of_moves ((moves_learnFrom ..).mono (by omega)))).trans (loaderStays_recordEval ..)

theorem loaderStays_evalEvent (s : State) (line z : Nat) : LoaderStays s (s.evalEvent line z) := by
  have resolved : LoaderStays s (s.resolve z) := loaderStays_of_moves (Moves.resolve (by omega) s z)
  unfold State.evalEvent
  dsimp only
  split
  · exact resolved.trans (loaderStays_evaluate ..)
  · exact resolved.trans (loaderStays_evaluate ..)
  · exact resolved

theorem loaderStays_completeCycle (l : Nat) (s : State) : LoaderStays s (s.completeCycle l) := by
  have closed : LoaderStays s (cycleClosed l s) := ⟨rfl, fun _ _ => rfl⟩
  have evaluated : LoaderStays (cycleClosed l s) ((cycleClosed l s).evaluateLine l) :=
    forEach_related LoaderStays.refl (fun _ _ _ => LoaderStays.trans) (fun z s => loaderStays_evalEvent s l z) _ _
  exact ((closed.trans evaluated).trans (loaderStays_of_moves (Moves.accrueLine (by omega) _ l))).trans
    (loaderStays_of_moves (Moves.takeReport le_rfl _ l _))

theorem loaderStays_startCycle (l : Nat) (s : State) : LoaderStays s (s.startCycle l) := by
  obtain ⟨visits, completes⟩ := startCycle_starts l s
  have opened : LoaderStays s (cycleOpened l s) := ⟨rfl, fun _ _ => rfl⟩
  by_cases next : ∃ i, VisitsNext (cycleOpened l s) l i
  · obtain ⟨i, hi⟩ := next
    rw [visits i hi]
    exact ⟨rfl, fun _ _ => rfl⟩
  · rw [completes (not_exists.mp next)]
    exact opened.trans (loaderStays_completeCycle ..)

theorem loaderStays_startScanner (l : Nat) (s : State) : LoaderStays s (s.startScanner l) := by
  unfold State.startScanner
  split
  · exact loaderStays_startCycle l s
  · exact .refl s

theorem enterRunning_keeps (four : s.gearLines.length = 4) : s.enterRunning.loader = { s.loader with device := .running }
    ∧ ∀ f, 3 < flagRank f → f ≠ .lineDown → f ≠ .outputLost →
      hasFlag s.enterRunning.flags.latched f = hasFlag s.flags.latched f := by
  rw [enterRunning_eq]
  have zones := zonesEntering_only (s := s.modLoader fun k => { k with device := .running })
  have grown := flagsGrow_zonesEntering (s := s.modLoader fun k => { k with device := .running })
  have truth := zonesEntering_outputs (s.modLoader fun k => { k with device := .running })
  generalize zonesEntering (s.modLoader fun k => { k with device := .running }) = u at zones grown truth
  have lines := linesEntered truth (by rw [zones]; exact four)
  generalize forEach (enabledLines u) State.lineComesUp u = v at lines
  obtain ⟨loader, flags⟩ := (loaderStays_startScanner 0 v).trans (loaderStays_startScanner 1 (v.startScanner 0))
  refine ⟨?_, fun f hf down lost => ?_⟩
  · rw [loader, lines.rest, zones]
    rfl
  · have low : f ∉ [Flag.counterSaturated, .zoneFallback] := by
      simp only [List.mem_cons, List.not_mem_nil, or_false, not_or]
      exact ⟨fun e => by subst e; exact absurd hf (by decide), fun e => by subst e; exact absurd hf (by decide)⟩
    rw [flags f hf, (lines.flags.2 f).2 (by simp [down, lost]), (grown.2 f).2 low]
    rfl

/-! ### The end of a load (R194, R195) -/

theorem latchOutcome_flags (o : LoadOutcome) (s : State) : s.latchOutcome o = { s with flags := (s.latchOutcome o).flags }
    ∧ FlagsGrow [.configDefaults, .storeError] s (s.latchOutcome o)
    ∧ hasFlag (s.latchOutcome o).flags.latched .configDefaults
      = (hasFlag s.flags.latched .configDefaults || decide (o ≠ .loaded ∧ o ≠ .loadedOlder))
    ∧ hasFlag (s.latchOutcome o).flags.latched .storeError
      = (hasFlag s.flags.latched .storeError || decide (o ≠ .loaded ∧ o ≠ .defaultsBlank)) := by
  cases o with
  | loaded => exact ⟨rfl, flagsGrow_refl _ s, by simp [State.latchOutcome], by simp [State.latchOutcome]⟩
  | loadedOlder =>
    exact ⟨rfl, flagsGrow_latch s (by simp), by rw [State.latchOutcome, hasFlag_latch]; simp, by rw [State.latchOutcome, hasFlag_latch]; simp⟩
  | defaultsBlank =>
    exact ⟨rfl, flagsGrow_latch s (by simp), by rw [State.latchOutcome, hasFlag_latch]; simp, by rw [State.latchOutcome, hasFlag_latch]; simp⟩
  | defaultsDamaged =>
    exact ⟨rfl, FlagsGrow.trans (flagsGrow_latch s (by simp)) (flagsGrow_latch _ (by simp)),
      by rw [State.latchOutcome, hasFlag_latch, hasFlag_latch]; simp, by rw [State.latchOutcome, hasFlag_latch]; simp⟩
  | defaultsNoMemory =>
    exact ⟨rfl, FlagsGrow.trans (flagsGrow_latch s (by simp)) (flagsGrow_latch _ (by simp)),
      by rw [State.latchOutcome, hasFlag_latch, hasFlag_latch]; simp, by rw [State.latchOutcome, hasFlag_latch]; simp⟩

/-- A load ends: the loader's record, the flags of its outcome, and the entry into RUNNING (R194, R195). -/
theorem loadEnds (o : LoadOutcome) (f : Loader → Loader) (four : s.gearLines.length = 4) (two : s.sensorLines.length = 2) :
    Entered s ((s.modLoader f).latchOutcome o).enterRunning
      ∧ ((s.modLoader f).latchOutcome o).enterRunning.loader = { f s.loader with device := .running }
      ∧ hasFlag ((s.modLoader f).latchOutcome o).enterRunning.flags.latched .configDefaults
        = (hasFlag s.flags.latched .configDefaults || decide (o ≠ .loaded ∧ o ≠ .loadedOlder))
      ∧ hasFlag ((s.modLoader f).latchOutcome o).enterRunning.flags.latched .storeError
        = (hasFlag s.flags.latched .storeError || decide (o ≠ .loaded ∧ o ≠ .defaultsBlank)) := by
  obtain ⟨rest, grown, defaults, store⟩ := latchOutcome_flags o (s.modLoader f)
  generalize (s.modLoader f).latchOutcome o = b at rest grown defaults store
  have lines : b.gearLines.length = 4 := by rw [rest]; exact four
  obtain ⟨loader, flags⟩ := enterRunning_keeps lines
  refine ⟨entered (by rw [rest]; rfl) grown four two, ?_, ?_, ?_⟩
  · rw [loader, rest]
    rfl
  · rw [flags _ (by decide) (by decide) (by decide), defaults]
    rfl
  · rw [flags _ (by decide) (by decide) (by decide), store]
    rfl

theorem endsWithDefaults {o : LoadOutcome} (ho : o ≠ .loaded ∧ o ≠ .loadedOlder) (four : s.gearLines.length = 4)
    (two : s.sensorLines.length = 2) : EndsWithDefaults o s (s.endWithDefaults o) := by
  obtain ⟨into, loader, defaults, store⟩ := loadEnds o
    (fun k => { k with load := none, loadReport := some o, knownSlot := none, knownGen := 0 }) four two
  unfold EndsWithDefaults State.endWithDefaults
  generalize ((s.modLoader fun k => { k with load := none, loadReport := some o, knownSlot := none, knownGen := 0 }).latchOutcome
    o).enterRunning = t at into loader defaults store ⊢
  refine ⟨into, loader, ?_, ?_⟩
  · rw [defaults, decide_eq_true ho, Bool.or_true]
  · rw [store]
    simp [ho.1]

/-! ### The headers (R193) -/

theorem newerGen_iff (g h : Nat) : newerGen h g = true
    ↔ 1 ≤ (BitVec.ofNat 32 h - BitVec.ofNat 32 g).toNat ∧ (BitVec.ofNat 32 h - BitVec.ofNat 32 g).toNat ≤ 2147483647 := by
  have ahead : (BitVec.ofNat 32 h - BitVec.ofNat 32 g).toNat = (h + 2 ^ 32 - g % 2 ^ 32) % 2 ^ 32 := by
    rw [BitVec.toNat_sub, BitVec.toNat_ofNat, BitVec.toNat_ofNat]
    omega
  rw [newerGen, ahead, Bool.and_eq_true, decide_eq_true_eq, decide_eq_true_eq]
  omega

theorem candidates_both {g0 n0 k0 g1 n1 k1 : Nat} : candidates (.candidate g0 n0 k0) (.candidate g1 n1 k1)
    = if 1 ≤ (BitVec.ofNat 32 g1 - BitVec.ofNat 32 g0).toNat ∧ (BitVec.ofNat 32 g1 - BitVec.ofNat 32 g0).toNat ≤ 2147483647 then [1, 0]
      else [0, 1] := by
  rw [candidates]
  exact if_congr (newerGen_iff g0 g1) rfl rfl

/-- What follows the headers, by the candidates among them (R193). -/
theorem headersRead_iff {j : LoadJob} {t : State} : HeadersRead s j t ↔ match candidates j.finding0 j.finding1 with
    | c :: rest => t = loading (readingPage s.tick { j with later := rest, second := false, body := [] } c 1) s
    | [] => EndsWithDefaults (outcomeWithout j.finding0 j.finding1) s t := by
  unfold HeadersRead
  generalize j.finding0 = f0
  generalize j.finding1 = f1
  cases f0 with
  | candidate g n k =>
    cases f1 with
    | candidate h _ _ =>
      rw [candidates_both]
      dsimp only
      split <;> exact Iff.rfl
    | _ => exact Iff.rfl
  | _ => cases f1 <;> exact Iff.rfl

theorem outcomeWithout_defaults (f0 f1 : SlotFinding) : outcomeWithout f0 f1 ≠ .loaded ∧ outcomeWithout f0 f1 ≠ .loadedOlder := by
  unfold outcomeWithout
  split
  · decide
  · split <;> decide

theorem readPage_eq (slot page : Nat) (j : LoadJob) (s : State) : s.readPage slot page j = loading (readingPage s.tick j slot page) s := rfl

theorem headersRead_chooseSlot (j : LoadJob) (four : s.gearLines.length = 4) (two : s.sensorLines.length = 2) :
    HeadersRead s j (s.chooseSlot j) := by
  rw [headersRead_iff, State.chooseSlot]
  cases candidates j.finding0 j.finding1 with
  | nil => exact endsWithDefaults (outcomeWithout_defaults ..) four two
  | cons c rest => exact readPage_eq ..

theorem slotDamaged_damages (j : LoadJob) (four : s.gearLines.length = 4) (two : s.sensorLines.length = 2) :
    SlotDamaged s j (s.slotDamaged j) := by
  unfold SlotDamaged State.slotDamaged
  cases j.later with
  | nil => exact endsWithDefaults (by decide) four two
  | cons c rest => exact readPage_eq ..

end

end Sys2Proof.Machine
end

section
/-! PROOFS. Chapter 11: the autoload's pages and bodies, and the classification of a header (R193, R207). -/

namespace Sys2Proof.Machine

open Sys2Proof.Safety

set_option Elab.async false

/-! ### The pages (R193) -/

section

variable {s : State} {j : LoadJob}

theorem autoload_answers (h : s.loader.load = some j) (r : MemoryRead) : exec (.autoloadPageReadEnd r) s
    = .next (match r with
      | .data bytes => if bytes.length = 64 then s.pageRead bytes j else s.pageFailed true j
      | .noAddressAck => s.pageFailed false j
      | .noLaterAck => s.pageFailed true j) := by
  have answer : exec (.autoloadPageReadEnd r) s = execAutoloadPageReadEnd r s := rfl
  rw [answer, execAutoloadPageReadEnd, h]
  rfl

theorem data_answers (h : s.loader.load = some j) {bytes : List Byte} (hl : bytes.length = 64) :
    exec (.autoloadPageReadEnd (.data bytes)) s = .next (s.pageRead bytes j) := by
  rw [autoload_answers h]
  exact congrArg Host.Outcome.next (if_pos hl)

theorem timeout_answers (h : s.loader.load = some j) : exec .memoryTransactionTimeout s
    = exec (.autoloadPageReadEnd (if s.timeoutAcked j then .noLaterAck else .noAddressAck)) s := by
  have answer : exec .memoryTransactionTimeout s = execMemoryTransactionTimeout s := rfl
  rw [answer, execMemoryTransactionTimeout, h, autoload_answers h]
  dsimp only
  cases s.timeoutAcked j <;> rfl

theorem pageFailed_again (h : j.attempts < 2) (acked : Bool) : s.pageFailed acked j = loading { j with
    attempts := j.attempts + 1, addressed := j.addressed || acked, txn := some { start := s.tick, len := 25 } } s :=
  if_pos (by omega)

theorem pageFailed_last (h : j.attempts = 2) (acked : Bool) : s.pageFailed acked j = s.pageUnreadable (j.addressed || acked) j :=
  if_neg (by omega)

theorem headerFound_first (h : j.slot = 0) (f : SlotFinding) :
    s.headerFound f j = loading (readingPage s.tick { j with finding0 := f } 1 0) s := if_pos h

theorem headerFound_second (h : j.slot = 1) (f : SlotFinding) : s.headerFound f j = s.chooseSlot { j with finding1 := f } :=
  if_neg (by omega)

theorem pageUnreadable_header (h : j.page = 0) (addressed : Bool) :
    s.pageUnreadable addressed j = s.headerFound (if addressed then .damaged else .noMemory) j := if_pos h

theorem pageUnreadable_body (h : j.page ≠ 0) (addressed : Bool) : s.pageUnreadable addressed j = s.slotDamaged j := if_neg h

theorem pageRead_header (h : j.page = 0) (bytes : List Byte) : s.pageRead bytes j = s.headerFound (classifyHeader bytes) j := if_pos h

theorem pageRead_body (h : j.page ≠ 0) {g n k : Nat} (hf : j.finding j.slot = .candidate g n k) {bytes : List Byte}
    (hl : bytes.length = 64) : s.pageRead bytes j
      = if n ≤ j.body.length + 64 then s.bodyRead j g k ((j.body ++ bytes).take n)
        else loading (readingPage s.tick { j with body := j.body ++ bytes } j.slot (j.page + 1)) s := by
  have length : (j.body ++ bytes).length = j.body.length + 64 := by rw [List.length_append, hl]
  rw [State.pageRead, if_neg h, hf]
  dsimp only
  rw [length]
  rfl

/-! ### A body (R193) -/

theorem bodyRead_damaged {check g : Nat} {body : List Byte} (h : (crc16 body).toNat ≠ check ∨ imageOf s body = none) :
    s.bodyRead j g check body = s.slotDamaged j := by
  unfold State.bodyRead
  by_cases wrong : (crc16 body).toNat ≠ check
  · exact if_pos wrong
  · rw [if_neg wrong, h.resolve_left wrong]

theorem bodyRead_image {check g : Nat} {body : List Byte} {m : RawImage} (hc : (crc16 body).toNat = check)
    (hm : imageOf s body = some m) :
    s.bodyRead j g check body = s.endWithImage (if j.second then .loadedOlder else .loaded) j.slot g m := by
  unfold State.bodyRead
  rw [if_neg (not_not.mpr hc), hm]

theorem recordsOk_of_imageOf {body : List Byte} {m : RawImage} (h : imageOf s body = some m) :
    readWhole readBody body = some m ∧ m.recordsOk = true ∧ (s.withImage m).consistent = true := by
  unfold imageOf at h
  split at h
  · next w hw =>
    split at h
    · next ok =>
      obtain rfl := Option.some.inj h
      rw [Bool.and_eq_true] at ok
      exact ⟨hw, ok⟩
    · cases h
  · cases h

end

/-! ### The content checks of the records (R193) -/

theorem length_of_indicesAll {α : Type} {n : Nat} {l : List α} {f : α → Nat} (h : indicesAll n (l.map f) = true) : l.length = n := by
  have lengths := congrArg List.length (of_decide_eq_true h)
  rwa [List.length_map, List.length_range] at lengths

/-- What the content checks of each record by itself say of an image. -/
structure RecordsHold (m : RawImage) : Prop where
  sensors : ∀ x ∈ m.sensors, x.ok = true
  zones : ∀ x ∈ m.zones, x.ok = true
  segments : m.segments.length = 16 ∧ ∀ r ∈ m.segments, (requestedSegment r).inRange = true
  gear : ∀ r ∈ m.gear, (requestedGear r).any GearDef.inRange = true
  curves : m.curves.length = 4 ∧ ∀ c ∈ m.curves, curveOk c.2 = true
  sensorLines : m.sensorLines.length = 2 ∧ ∀ r ∈ m.sensorLines, sensorLineImageOk r = true
  gearLines : m.gearLines.length = 4 ∧ ∀ x ∈ m.gearLines, gearLineImageOk x.1 x.2 = true
  shadeQuery : between 1 10 m.shadeQuery = true
  profiles : m.profiles.length = 4 ∧ ∀ p ∈ m.profiles, p.2.1 ≤ 5000 ∧ p.2.2 ≤ 5000
  periods : ∀ r ∈ m.periods, periodImageOk r = true
  occ : m.occ.length = 8 ∧ ∀ o ∈ m.occ, between 1 120 o.2 = true

theorem recordsHold {m : RawImage} (h : m.recordsOk = true) : RecordsHold m := by
  simp only [RawImage.recordsOk, Bool.and_eq_true, List.all_eq_true, decide_eq_true_eq] at h
  obtain ⟨⟨⟨⟨⟨⟨⟨⟨⟨⟨⟨⟨⟨⟨⟨⟨⟨⟨⟨⟨-, sensors⟩, -⟩, zones⟩, segmentsAll⟩, segments⟩, -⟩, gear⟩, curvesAll⟩, curves⟩, sensorLinesAll⟩,
    sensorLines⟩, gearLinesAll⟩, gearLines⟩, shadeQuery⟩, profilesAll⟩, profiles⟩, -⟩, periods⟩, occAll⟩, occ⟩ := h
  exact {
    sensors := sensors
    zones := zones
    segments := ⟨length_of_indicesAll segmentsAll, segments⟩
    gear := gear
    curves := ⟨length_of_indicesAll curvesAll, curves⟩
    sensorLines := ⟨length_of_indicesAll sensorLinesAll, sensorLines⟩
    gearLines := ⟨length_of_indicesAll gearLinesAll, gearLines⟩
    shadeQuery := shadeQuery
    profiles := ⟨length_of_indicesAll profilesAll, profiles⟩
    periods := periods
    occ := ⟨length_of_indicesAll occAll, occ⟩ }

section

variable {s : State} {j : LoadJob}

/-- The lines of an image's model are as many as the part's (R195). -/
theorem lines_withImage {m : RawImage} (h : RecordsHold m) (four : s.gearLines.length = 4) (two : s.sensorLines.length = 2) :
    (s.withImage m).gearLines.length = 4 ∧ (s.withImage m).sensorLines.length = 2 := by
  constructor
  · exact (List.length_map ..).trans (by rw [List.length_zip, four, h.gearLines.1, min_self])
  · exact (List.length_map ..).trans (by rw [List.length_zip, two, h.sensorLines.1, min_self])

theorem endWithImage_enters {m : RawImage} (h : RecordsHold m) (four : s.gearLines.length = 4) (two : s.sensorLines.length = 2)
    (second : Bool) (slot g : Nat) :
    Entered (s.withImage m) (s.endWithImage (if second then .loadedOlder else .loaded) slot g m)
      ∧ (s.endWithImage (if second then .loadedOlder else .loaded) slot g m).loader = { s.loader with
        device := .running, load := none, loadReport := some (if second then .loadedOlder else .loaded)
        knownSlot := some slot, knownGen := g }
      ∧ hasFlag (s.endWithImage (if second then .loadedOlder else .loaded) slot g m).flags.latched .storeError
        = (hasFlag s.flags.latched .storeError || second) := by
  obtain ⟨four', two'⟩ := lines_withImage h four two
  obtain ⟨into, loader, -, store⟩ := loadEnds (if second then .loadedOlder else .loaded)
    (fun k => { k with load := none, loadReport := some (if second then .loadedOlder else .loaded), knownSlot := some slot, knownGen := g })
    four' two'
  unfold State.endWithImage
  generalize (((s.withImage m).modLoader fun k => { k with
    load := none, loadReport := some (if second then LoadOutcome.loadedOlder else .loaded), knownSlot := some slot
    knownGen := g }).latchOutcome (if second then LoadOutcome.loadedOlder else .loaded)).enterRunning = t at into loader store ⊢
  refine ⟨into, loader, ?_⟩
  rw [store]
  cases second
  · rfl
  · rfl

end

/-! ### The header of a slot (R207) -/

theorem toNat_append_byte {n : Nat} (x : BitVec n) (b : Byte) : (x ++ b).toNat = 256 * x.toNat + b.toNat := by
  rw [BitVec.toNat_append, ← Nat.shiftLeft_add_eq_or_of_lt b.isLt, Nat.shiftLeft_eq]
  omega

theorem beNat_one (b : Byte) : beNat [b] = b.toNat := by simp [beNat]

theorem toNat_two (a b : Byte) : (a ++ b).toNat = beNat [a, b] := by
  rw [toNat_append_byte]
  simp [beNat]

theorem toNat_four (a b c d : Byte) : (a ++ b ++ c ++ d).toNat = beNat [a, b, c, d] := by
  rw [toNat_append_byte, toNat_append_byte, toNat_append_byte]
  simp [beNat]

theorem toNat_ne_zero_iff {n : Nat} (x : BitVec n) : x.toNat ≠ 0 ↔ x ≠ 0 := by
  rw [ne_eq, ne_eq, ← BitVec.toNat_inj]
  rfl

theorem classifyHeader_eq (m0 m1 m2 m3 family part version g3 g2 g1 g0 l1 l0 k1 k0 : Byte) (rest : List Byte) :
    classifyHeader (m0 :: m1 :: m2 :: m3 :: family :: part :: version :: g3 :: g2 :: g1 :: g0 :: l1 :: l0 :: k1 :: k0 :: rest)
      = if [m0, m1, m2, m3] ≠ [0x4D, 0x4A, 0x49, 0x47] then .blank
        else if family = 0x4C ∧ part = 0x30 ∧ version = 0x01 ∧ (g3 ++ g2 ++ g1 ++ g0) ≠ (0 : BitVec (8 + 8 + 8 + 8))
            ∧ (l1 ++ l0) ≠ (0 : BitVec (8 + 8)) ∧ (l1 ++ l0).toNat ≤ 16320 then
          .candidate (g3 ++ g2 ++ g1 ++ g0).toNat (l1 ++ l0).toNat (k1 ++ k0).toNat
        else .damaged := by
  obtain ⟨page, hp⟩ : ∃ page, page = m0 :: m1 :: m2 :: m3 :: family :: part :: version :: g3 :: g2 :: g1 :: g0 :: l1 :: l0 :: k1 :: k0 :: rest :=
    ⟨_, rfl⟩
  have generation : fieldAt page 7 4 = (g3 ++ g2 ++ g1 ++ g0).toNat := by rw [hp, toNat_four]; rfl
  have length : fieldAt page 11 2 = (l1 ++ l0).toNat := by rw [hp, toNat_two]; rfl
  have check : fieldAt page 13 2 = (k1 ++ k0).toNat := by rw [hp, toNat_two]; rfl
  have marker : page.take 4 = [m0, m1, m2, m3] := by rw [hp]; rfl
  have code (b : Byte) {n : Nat} (hn : n < 256) : beNat [b] = n ↔ b = BitVec.ofNat 8 n := by
    rw [beNat_one, ← BitVec.toNat_inj, BitVec.toNat_ofNat, Nat.mod_eq_of_lt hn]
  have family_ : fieldAt page 4 1 = Config.familyCode ↔ family = 0x4C := by rw [hp]; exact code family (by decide)
  have part_ : fieldAt page 5 1 = Config.partCode ↔ part = 0x30 := by rw [hp]; exact code part (by decide)
  have version_ : fieldAt page 6 1 = Config.imageVersion ↔ version = 0x01 := by rw [hp]; exact code version (by decide)
  have positive : 1 ≤ (l1 ++ l0).toNat ↔ (l1 ++ l0) ≠ (0 : BitVec (8 + 8)) := Nat.one_le_iff_ne_zero.trans (toNat_ne_zero_iff _)
  rw [← hp]
  unfold classifyHeader
  dsimp only
  rw [marker, generation, length, check]
  exact if_congr Iff.rfl rfl (if_congr (and_congr family_ (and_congr part_ (and_congr version_
    (and_congr (toNat_ne_zero_iff _) (and_congr positive Iff.rfl))))) rfl rfl)

end Sys2Proof.Machine
end

section
/-! PROOFS. Chapter 11: what the readers of an image yield, and the sections of a body (R206, R207). -/

namespace Sys2Proof.Machine

open Sys2Proof.Safety

set_option Elab.async false

/-! ### What a reader yields -/

/-- Everything that a reader yields satisfies `p`. -/
def Yields {α : Type} (r : Reader α) (p : α → Prop) : Prop := ∀ l x rest, r l = some (x, rest) → p x

section

variable {α β : Type} {r : Reader α}

theorem bind_some {f : α → Reader β} {l rest : List Byte} {y : β} (h : (r >>= f) l = some (y, rest)) :
    ∃ x more, r l = some (x, more) ∧ f x more = some (y, rest) := by
  obtain ⟨⟨x, more⟩, hr, hf⟩ := Option.bind_eq_some_iff.mp h
  exact ⟨x, more, hr, hf⟩

theorem pure_some {x y : α} {l rest : List Byte} (h : (pure x : Reader α) l = some (y, rest)) : x = y ∧ l = rest := by
  have pair : (x, l) = (y, rest) := Option.some.inj h
  exact ⟨congrArg Prod.fst pair, congrArg Prod.snd pair⟩

theorem yields_any : Yields r fun _ => True := fun _ _ _ _ => trivial

theorem Yields.bind {p : α → Prop} {q : β → Prop} {f : α → Reader β} (h : Yields r p) (k : ∀ x, p x → Yields (f x) q) :
    Yields (r >>= f) q := by
  intro l y rest hy
  obtain ⟨x, more, hr, hf⟩ := bind_some hy
  exact k x (h l x more hr) more y rest hf

theorem yields_pure {p : α → Prop} {x : α} (h : p x) : Yields (pure x) p := fun _ _ _ hy => (pure_some hy).1 ▸ h

theorem yields_readIf {k : Nat} : Yields (readIf (allPresent k) r) fun o => o.isSome = true := by
  intro l o rest h
  have given : (r l).map (fun p => (some p.1, p.2)) = some (o, rest) := h
  obtain ⟨p, -, hp⟩ := Option.map_eq_some_iff.mp given
  obtain rfl : some p.1 = o := congrArg Prod.fst hp
  rfl

theorem yields_readN (n : Nat) : Yields (readN n r) fun xs => xs.length = n := by
  induction n with
  | zero =>
    intro l xs rest h
    have pair : ([], l) = (xs, rest) := Option.some.inj h
    obtain rfl : [] = xs := congrArg Prod.fst pair
    rfl
  | succ n ih =>
    intro l xs rest h
    rw [readN] at h
    split at h
    · cases h
    · obtain ⟨p, hp, pair⟩ := Option.map_eq_some_iff.mp h
      obtain rfl : _ :: p.1 = xs := congrArg Prod.fst pair
      exact congrArg Nat.succ (ih _ p.1 p.2 hp)

theorem readAll_yields {p : α → Prop} (h : Yields r p) {fuel : Nat} {l : List Byte} {xs : List α} (hx : readAll r fuel l = some xs) :
    ∀ x ∈ xs, p x := by
  induction fuel generalizing l xs with
  | zero =>
    cases l with
    | nil =>
      rw [← Option.some.inj hx]
      exact fun x hm => absurd hm List.not_mem_nil
    | cons b l => cases hx
  | succ fuel ih =>
    cases l with
    | nil =>
      rw [← Option.some.inj hx]
      exact fun x hm => absurd hm List.not_mem_nil
    | cons b l =>
      unfold readAll at hx
      split at hx
      · cases hx
      · next y rest hy =>
        obtain ⟨ys, hys, rfl⟩ := Option.map_eq_some_iff.mp hx
        intro x hm
        rcases List.mem_cons.mp hm with rfl | hm
        · exact h _ x rest hy
        · exact ih hys x hm

end

/-! ### The sections of a body (R206) -/

/-- A section with its code, its length and its bytes (R206). -/
def sectionBytes (code : Nat) (b : List Byte) : List Byte := u8 code ++ u16 b.length ++ b

theorem readSection_some {code : Nat} {l b rest : List Byte} (h : readSection code l = some (b, rest)) :
    b.length < 65536 ∧ l = sectionBytes code b ++ rest := by
  unfold readSection at h
  split at h
  · next c hi lo more =>
    dsimp only at h
    split at h
    · next fits =>
      obtain ⟨rfl, fits⟩ := fits
      have pair := Option.some.inj h
      obtain rfl : more.take (256 * hi.toNat + lo.toNat) = b := congrArg Prod.fst pair
      obtain rfl : more.drop (256 * hi.toNat + lo.toNat) = rest := congrArg Prod.snd pair
      have length : (more.take (256 * hi.toNat + lo.toNat)).length = 256 * hi.toNat + lo.toNat := by
        rw [List.length_take]
        omega
      have high : BitVec.ofNat 8 ((256 * hi.toNat + lo.toNat) / 256) = hi := by
        rw [show (256 * hi.toNat + lo.toNat) / 256 = hi.toNat by omega, BitVec.ofNat_toNat, BitVec.setWidth_eq]
      have low : BitVec.ofNat 8 (256 * hi.toNat + lo.toNat) = lo := by
        apply BitVec.eq_of_toNat_eq
        rw [BitVec.toNat_ofNat]
        omega
      have head : BitVec.ofNat 8 c.toNat = c := by rw [BitVec.ofNat_toNat, BitVec.setWidth_eq]
      refine ⟨by rw [length]; omega, ?_⟩
      rw [sectionBytes, u8, u16, length, high, low, head, List.append_assoc, List.append_assoc, List.take_append_drop]
      rfl
    · cases h
  · cases h

theorem readRecords_some {α : Type} {code : Nat} {r : Reader α} {l rest : List Byte} {xs : List α}
    (h : readRecords code r l = some (xs, rest)) :
    ∃ b, b.length < 65536 ∧ l = sectionBytes code b ++ rest ∧ readAll r b.length b = some xs := by
  unfold readRecords at h
  split at h
  · next bytes more hs =>
    obtain ⟨ys, hys, pair⟩ := Option.map_eq_some_iff.mp h
    obtain rfl : ys = xs := congrArg Prod.fst pair
    obtain rfl : more = rest := congrArg Prod.snd pair
    obtain ⟨short, split⟩ := readSection_some hs
    exact ⟨bytes, short, split, hys⟩
  · cases h

theorem readShades_some {l rest : List Byte} {n : Nat} (h : readShades l = some (n, rest)) :
    ∃ b, b.length < 65536 ∧ l = sectionBytes 8 b ++ rest := by
  unfold readShades at h
  split at h
  · next bytes more hs =>
    obtain ⟨m, -, pair⟩ := Option.map_eq_some_iff.mp h
    obtain rfl : more = rest := congrArg Prod.snd pair
    exact ⟨bytes, readSection_some hs⟩
  · cases h

theorem readSchedule_some {l rest : List Byte} {x : List (Nat × Nat × Nat) × List DefinePeriod} (h : readSchedule l = some (x, rest)) :
    ∃ b, b.length < 65536 ∧ l = sectionBytes 9 b ++ rest := by
  unfold readSchedule at h
  split at h
  · next bytes more hs =>
    split at h
    · obtain ⟨m, -, pair⟩ := Option.map_eq_some_iff.mp h
      obtain rfl : more = rest := congrArg Prod.snd pair
      exact ⟨bytes, readSection_some hs⟩
    · cases h
  · cases h

/-- The fields of a gear line's record that its parameters take (R206). -/
structure LineFieldsRead (x : SetGearLine) : Prop where
  rate : x.rateCode.isSome = true
  attempts : x.attemptLimit.isSome = true
  high : x.highWatermark.isSome = true
  audit : x.auditInterval.isSome = true

/-- What the sections of a body give beyond the content checks: the fields that stand, and the lengths of the lists (R206). -/
structure BodyRead (body : List Byte) (m : RawImage) : Prop where
  sections : SectionsFill body
  bins : ∀ x ∈ m.zones, x.bins.length = 48
  points : ∀ x ∈ m.curves, x.2.length = 9
  sensorLines : ∀ x ∈ m.sensorLines, x.pollInterval.isSome = true ∧ x.missLimit.isSome = true
  gearLines : ∀ x ∈ m.gearLines, LineFieldsRead x.1

theorem zoneImage_bins : Yields readZoneImage fun x => x.bins.length = 48 := by
  unfold readZoneImage
  exact yields_any.bind fun _ _ => yields_any.bind fun _ _ => yields_any.bind fun _ _ => yields_any.bind fun _ _ =>
    yields_any.bind fun _ _ => yields_any.bind fun _ _ => (yields_readN 48).bind fun _ h => yields_pure h

theorem curveImage_points : Yields readCurveImage fun x => x.2.length = 9 := by
  unfold readCurveImage
  exact yields_any.bind fun _ _ => (yields_readN 9).bind fun _ h => yields_pure h

theorem sensorLineImage_fields : Yields readSensorLineImage fun x => x.pollInterval.isSome = true ∧ x.missLimit.isSome = true := by
  unfold readSensorLineImage readSensorLineFields
  exact yields_any.bind fun _ _ => yields_any.bind fun _ _ => yields_readIf.bind fun _ poll => yields_readIf.bind fun _ miss =>
    yields_pure ⟨poll, miss⟩

theorem gearLineFields (line : Nat) : Yields (readGearLineFields line allPresent) fun x =>
    LineFieldsRead x := by
  unfold readGearLineFields
  exact yields_readIf.bind fun _ rate => yields_readIf.bind fun _ limit => yields_readIf.bind fun _ high =>
    yields_any.bind fun _ _ => yields_readIf.bind fun _ audit => yields_pure ⟨rate, limit, high, audit⟩

theorem gearLineImage_fields : Yields readGearLineImage fun x =>
    LineFieldsRead x.1 := by
  unfold readGearLineImage
  exact yields_any.bind fun line _ => (gearLineFields line).bind fun _ given => yields_any.bind fun _ _ => yields_pure given

theorem sectionsFill_of_ten {b1 b2 b3 b4 b5 b6 b7 b8 b9 b10 : List Byte} (h : ∀ b ∈ [b1, b2, b3, b4, b5, b6, b7, b8, b9, b10], b.length < 65536) :
    SectionsFill (sectionBytes 1 b1 ++ (sectionBytes 2 b2 ++ (sectionBytes 3 b3 ++ (sectionBytes 4 b4 ++ (sectionBytes 5 b5
      ++ (sectionBytes 6 b6 ++ (sectionBytes 7 b7 ++ (sectionBytes 8 b8 ++ (sectionBytes 9 b9 ++ (sectionBytes 10 b10 ++ [])))))))))) :=
  ⟨[b1, b2, b3, b4, b5, b6, b7, b8, b9, b10], rfl, h, rfl⟩

theorem bodyRead {body : List Byte} {m : RawImage} (h : readWhole readBody body = some m) : BodyRead body m := by
  have read : readBody body = some (m, []) := by
    unfold readWhole at h
    split at h
    · next x hx => rw [hx, Option.some.inj h]
    · cases h
  unfold readBody at read
  obtain ⟨sensors, l1, h1, read⟩ := bind_some read
  obtain ⟨zones, l2, h2, read⟩ := bind_some read
  obtain ⟨segments, l3, h3, read⟩ := bind_some read
  obtain ⟨gear, l4, h4, read⟩ := bind_some read
  obtain ⟨curves, l5, h5, read⟩ := bind_some read
  obtain ⟨sensorLines, l6, h6, read⟩ := bind_some read
  obtain ⟨gearLines, l7, h7, read⟩ := bind_some read
  obtain ⟨shades, l8, h8, read⟩ := bind_some read
  obtain ⟨schedule, l9, h9, read⟩ := bind_some read
  obtain ⟨occ, l10, h10, read⟩ := bind_some read
  obtain ⟨rfl, rfl⟩ := pure_some read
  obtain ⟨b1, s1, rfl, -⟩ := readRecords_some h1
  obtain ⟨b2, s2, rfl, zones_⟩ := readRecords_some h2
  obtain ⟨b3, s3, rfl, -⟩ := readRecords_some h3
  obtain ⟨b4, s4, rfl, -⟩ := readRecords_some h4
  obtain ⟨b5, s5, rfl, curves_⟩ := readRecords_some h5
  obtain ⟨b6, s6, rfl, sensorLines_⟩ := readRecords_some h6
  obtain ⟨b7, s7, rfl, gearLines_⟩ := readRecords_some h7
  obtain ⟨b8, s8, rfl⟩ := readShades_some h8
  obtain ⟨b9, s9, rfl⟩ := readSchedule_some h9
  obtain ⟨b10, s10, rfl, -⟩ := readRecords_some h10
  refine ⟨sectionsFill_of_ten ?_, readAll_yields zoneImage_bins zones_, readAll_yields curveImage_points curves_,
    readAll_yields sensorLineImage_fields sensorLines_, readAll_yields gearLineImage_fields gearLines_⟩
  simp only [List.forall_mem_cons, s1, s2, s3, s4, s5, s6, s7, s8, s9, s10, true_and]
  simp

end Sys2Proof.Machine
end

section
/-! PROOFS. Chapter 11: the content checks of each record, on the entry that it makes (R193, R195). -/

namespace Sys2Proof.Machine

open Sys2Proof.Safety

set_option Elab.async false

/-! ### The tables of an image -/

theorem of_entryAt_tableOf {α : Type} {n i : Nat} {l : List (Nat × α)} {x : α} (h : entryAt (tableOf n l) i = some x) : (i, x) ∈ l := by
  have found : (l.find? fun e => e.1 == i).map Prod.snd = some x := by
    have lt : i < n := by have lt := entryAt_lt h; simpa [tableOf] using lt
    rw [entryAt, tableOf, List.getElem?_map, List.getElem?_range lt] at h
    exact h
  obtain ⟨⟨k, y⟩, hf, rfl⟩ := Option.map_eq_some_iff.mp found
  have same : k = i := by simpa using List.find?_some hf
  exact same ▸ List.mem_of_find?_eq_some hf

theorem of_mem_entries {α β : Type} {l : List α} {index : α → Nat} {f : α → Option β} {i : Nat} {x : β}
    (h : (i, x) ∈ entries l index f) : ∃ r ∈ l, f r = some x := by
  obtain ⟨r, hr, hx⟩ := List.mem_filterMap.mp h
  obtain ⟨y, hy, pair⟩ := Option.map_eq_some_iff.mp hx
  exact ⟨r, hr, hy.trans (congrArg some (congrArg Prod.snd pair))⟩

/-! ### What a field given in its range leaves -/

theorem getD_in {lo hi d : Nat} {o : Option Nat} (h : GivenIn lo hi o) (hd : lo ≤ d ∧ d ≤ hi) : lo ≤ o.getD d ∧ o.getD d ≤ hi := by
  cases o with
  | none => exact hd
  | some v => exact h v rfl

theorem clampOr_in {lo hi d : Nat} (o : Option Nat) (order : lo ≤ hi) (hd : lo ≤ d ∧ d ≤ hi) :
    lo ≤ clampOr lo hi d o ∧ clampOr lo hi d o ≤ hi := by
  cases o with
  | none => exact hd
  | some v =>
    change lo ≤ clamp lo hi v ∧ clamp lo hi v ≤ hi
    unfold clamp
    split <;> [skip; split] <;> omega

theorem refOr_lt {n i : Nat} {o : Option Nat} (h : ∀ v ∈ o, v < n ∨ v = 0xFF) (hi : refOr none o = some i) : i < n := by
  cases o with
  | none => cases hi
  | some v =>
    obtain ⟨rfl, ne⟩ := refOf_eq_some.mp (show refOf v = some i from hi)
    exact (h v rfl).resolve_right ne

/-! ### Sensors -/

/-- A new sensor's entry does not serve: it is ABSENT or DISABLED (R7, R63). -/
theorem not_serves_of_image {r : SensorImage} {x : Sensor} (h : r.sensor = some x) : serves x = false := by
  obtain ⟨y, hy, rfl⟩ := Option.map_eq_some_iff.mp h
  obtain ⟨kind, -, rfl⟩ := Option.map_eq_some_iff.mp hy
  exact Bool.and_false _

theorem sensorInRange_of_image {r : SensorImage} {x : Sensor} (ok : r.ok = true) (h : r.sensor = some x) : SensorInRange x := by
  obtain ⟨y, hy, rfl⟩ := Option.map_eq_some_iff.mp h
  obtain ⟨kind, -, rfl⟩ := Option.map_eq_some_iff.mp hy
  simp only [SensorImage.ok, Bool.and_eq_true, decide_eq_true_eq, List.all_eq_true, between_iff, sensorAddressOk_iff,
    sensorFieldsOk_iff] at ok
  obtain ⟨⟨⟨⟨⟨⟨⟨⟨-, line⟩, address⟩, fields⟩, -⟩, dark⟩, few⟩, gains⟩, ascending⟩ := ok
  have zones : (r.entries.map fun e => (⟨e.1, e.2⟩ : Contrib)).map Contrib.zone = r.entries.map Prod.fst := List.map_map ..
  have fall := clampOr_in (d := 12) r.fields.fallCoeff (show 1 ≤ 16 by decide) (by decide)
  have rise := clampOr_in (d := 2) r.fields.riseCoeff (show 1 ≤ 16 by decide) (by decide)
  exact {
    place := ⟨line, address.1, address.2⟩
    scale := getD_in fields.2 (by decide)
    coeffs := ⟨fall.1, fall.2, rise.1, rise.2⟩
    dark := dark
    list := by
      refine ⟨(List.length_map ..).trans_le few, ?_, ?_⟩
      · rw [zones]
        exact ascending
      · intro c hc
        obtain ⟨e, he, rfl⟩ := List.mem_map.mp hc
        exact gains e he }

/-! ### Zones -/

theorem groups_on_lt {a b c d : Option Nat} (ha : ∀ g, a = some g → g < 16) (hb : ∀ g, b = some g → g < 16)
    (hc : ∀ g, c = some g → g < 16) (hd : ∀ g, d = some g → g < 16) (l g : Nat) (h : LineGroups.on ⟨a, b, c, d⟩ l = some g) : g < 16 := by
  match l with
  | 0 => exact ha g h
  | 1 => exact hb g h
  | 2 => exact hc g h
  | 3 => exact hd g h
  | _ + 4 => cases h

theorem zoneInRange_withFields {f : ZoneFields} {segment : Nat} {band : Band} (hs : segment < 16) (hf : zoneFieldsOk f = true) :
    ZoneInRange ((ZoneDef.defaults segment band).withFields f) := by
  obtain ⟨high, level⟩ := defLegal_withFields hf (defLegal_defaults segment band)
  obtain ⟨-, groups, curve, lmin, -, profile, occ, offDelay, onMargin, -⟩ := zoneFieldsOk_iff.mp hf
  simp only [List.mem_append, Option.mem_toList] at groups
  have up := clampOr_in (d := 8) f.upRate (show 0 ≤ 15 by decide) (by decide)
  have down := clampOr_in (d := 6) f.downRate (show 0 ≤ 15 by decide) (by decide)
  have dead := clampOr_in (d := 20) f.deadband (show 0 ≤ 200 by decide) (by decide)
  have below {o : Option Nat} {n d : Nat} (h : ∀ v ∈ o, v < n) (hd : d < n) : o.getD d < n :=
    (forall_mem_le_iff_getD (p := fun v => v < n) hd).mp h
  have most {o : Option Nat} {n d : Nat} (h : ∀ v ∈ o, v ≤ n) (hd : d ≤ n) : o.getD d ≤ n :=
    (forall_mem_le_iff_getD (p := fun v => v ≤ n) hd).mp h
  exact {
    segment := hs
    groups := groups_on_lt
      (fun _ => refOr_lt fun v hv => groups v (.inl (.inl (.inl hv)))) (fun _ => refOr_lt fun v hv => groups v (.inl (.inl (.inr hv))))
      (fun _ => refOr_lt fun v hv => groups v (.inl (.inr hv))) (fun _ => refOr_lt fun v hv => groups v (.inr hv))
    tables := ⟨below curve (show 0 < 4 by decide), below profile (show 0 < 4 by decide), fun i hi => refOr_lt occ hi⟩
    levels := ⟨(getD_in lmin (d := 100) (by decide)).1, high, level⟩
    rates := ⟨up.2, down.2, dead.2⟩
    off := ⟨most offDelay (show 10 ≤ 60 by decide), most onMargin (show 50 ≤ 500 by decide)⟩ }

theorem zone_of_image {r : ZoneImage} {x : Zone} (ok : r.ok = true) (h : r.zone = some x) :
    ZoneInRange x.cfg ∧ x.learned.rho ≤ 1023 ∧ x.learned.learnCount ≤ 64 ∧ x.learned.bins = r.bins ∧ ZoneAtStart x := by
  obtain ⟨d, hd, rfl⟩ := Option.map_eq_some_iff.mp h
  obtain ⟨band, -, rfl⟩ := Option.map_eq_some_iff.mp hd
  simp only [ZoneImage.ok, Bool.and_eq_true, decide_eq_true_eq] at ok
  obtain ⟨⟨⟨⟨-, segment⟩, fields⟩, rho⟩, count⟩ := ok
  refine ⟨zoneInRange_withFields segment fields, rho, count, rfl, ?_⟩
  exact {
    level := rfl
    target := rfl
    holds := ⟨rfl, rfl⟩
    override := ⟨rfl, rfl, rfl⟩
    unmarked := ⟨rfl, rfl, rfl, rfl⟩
    setpoint := ⟨rfl, rfl⟩ }

/-! ### Gear, lines, periods -/

theorem gearInRange_of_inRange {d : GearDef} (h : d.inRange = true) : GearInRange d := by
  simp only [GearDef.inRange, Bool.and_eq_true, decide_eq_true_eq, between_iff] at h
  obtain ⟨⟨⟨⟨⟨⟨line, -, address⟩, role⟩, -, curve⟩, trim⟩, least⟩, -, loss⟩ := h
  refine ⟨⟨line, address⟩, ?_, Nat.lt_succ_of_le curve, trim.1, trim.2, least.1, least.2, loss⟩
  cases hr : d.role with
  | driver z =>
    rw [hr] at role
    exact of_decide_eq_true role
  | shade seg =>
    rw [hr] at role
    exact of_decide_eq_true role

theorem periodInRange_of_image {r : DefinePeriod} (h : periodImageOk r = true) : PeriodInRange (requestedPeriod r) := by
  simp only [periodImageOk, periodInRange, Bool.and_eq_true, decide_eq_true_eq, between_iff] at h
  obtain ⟨⟨⟨⟨⟨⟨⟨profile, days⟩, start⟩, startStep⟩, stop⟩, stopStep⟩, occupied⟩, unoccupied⟩ := h
  have clamped (v : Nat) : clamp 0 5000 v ≤ 5000 := by
    unfold clamp
    split <;> [skip; split] <;> omega
  refine ⟨profile, ?_, ⟨startStep, stopStep, ?_, stop.2⟩, clamped _, clamped _⟩
  · intro none
    have zero : r.days % 2 ^ 7 = 0 := (BitVec.toNat_ofNat ..).symm.trans (congrArg BitVec.toNat none)
    omega
  · change r.startMin < r.endMin
    omega

theorem rateStored_mem (v : Nat) : rateStored v ∈ [0, 3, 5, 7] := by
  unfold rateStored
  split <;> [skip; split <;> [skip; split]] <;> decide

theorem lineInRange_takeParams {r : SetGearLine} {enabled : Nat} (ok : gearLineImageOk r enabled = true) (given : LineFieldsRead r)
    (x : GearLine) (b : Bool) : LineInRange { x.takeParams r with enabled := b } := by
  simp only [gearLineImageOk, Bool.and_eq_true, optBetween_iff] at ok
  obtain ⟨⟨⟨⟨rate, attempts⟩, audit⟩, -⟩, -⟩ := ok
  obtain ⟨rateGiven, attemptsGiven, highGiven, auditGiven⟩ := given
  obtain ⟨c, hc⟩ := Option.isSome_iff_exists.mp rateGiven
  obtain ⟨k, hk⟩ := Option.isSome_iff_exists.mp attemptsGiven
  obtain ⟨h, hh⟩ := Option.isSome_iff_exists.mp highGiven
  obtain ⟨a, ha⟩ := Option.isSome_iff_exists.mp auditGiven
  have high : 8 ≤ newHigh r x ∧ newHigh r x ≤ 31 := by
    rw [newHigh, hh]
    change 8 ≤ clamp 8 31 h ∧ clamp 8 31 h ≤ 31
    unfold clamp
    split <;> [skip; split] <;> omega
  have low : 1 ≤ newLow r x ∧ newLow r x < newHigh r x := by
    unfold newLow clamp
    split <;> [skip; split] <;> omega
  constructor
  · change (r.rateCode.map storedRateCode).getD x.rateCode ∈ [0, 3, 5, 7]
    rw [hc, Option.map_some, Option.getD_some, storedRateCode_eq (rate c hc).2]
    exact rateStored_mem c
  · change 1 ≤ r.attemptLimit.getD x.attemptLimit ∧ r.attemptLimit.getD x.attemptLimit ≤ 7
    rw [hk]
    exact attempts k hk
  · exact ⟨high.1, high.2, low⟩
  · change r.auditInterval.getD x.auditInterval ≤ 60
    rw [ha]
    exact (audit a ha).2

end Sys2Proof.Machine
end

section
/-! PROOFS. Chapter 11: the content checks of the records together, and the model of an image (R193, R195). -/

namespace Sys2Proof.Machine

open Sys2Proof.Safety

set_option Elab.async false

/-! ### The records together -/

theorem of_all_entries {α : Type} {l : List (Option α)} {f : Nat → α → Bool} (h : (l.zipIdx.all fun e => e.1.all (f e.2)) = true)
    {i : Nat} {x : α} (hx : entryAt l i = some x) : f i x = true := by
  have there : l[i]? = some (some x) := Option.join_eq_some_iff.mp hx
  exact List.all_eq_true.mp h (some x, i) (List.mk_mem_zipIdx_iff_getElem?.mpr there)

/-- Where each entry of a kind leaves fewer than `k` others, there are no more than `k` (R5, R16). -/
theorem howMany_le {α : Type} {n k : Nat} {at? : Nat → Option α} {p : α → Bool}
    (h : ∀ i x, at? i = some x → p x = true → ((indicesWhere n fun j => (at? j).any p).filter fun j => j != i).length < k) :
    howMany n at? p ≤ k := by
  change (indicesWhere n fun j => (at? j).any p).length ≤ k
  generalize hl : (indicesWhere n fun j => (at? j).any p) = l at h
  have nodup : l.Nodup := hl ▸ List.nodup_range.filter _
  have holds (i : Nat) (hi : i ∈ l) : (at? i).any p = true := (mem_indicesWhere.mp (hl ▸ hi)).2
  cases l with
  | nil => exact Nat.zero_le k
  | cons i l =>
    obtain ⟨x, hx, hp⟩ := Option.any_eq_true _ _ |>.mp (holds i List.mem_cons_self)
    have fewer := h i x hx hp
    rw [← nodup.erase_eq_filter, List.erase_cons_head] at fewer
    exact fewer

section

variable {u : State}

theorem sensorConsistent_iff {i : Nat} {x : Sensor} : u.sensorConsistent i x = true ↔
    (∀ j y, j ≠ i → u.sensor j = some y → ¬ (y.line = x.line ∧ y.address = x.address))
      ∧ (u.othersOnLine i x.line).length < 32 ∧ ∀ c ∈ x.contrib, (u.zone c.zone).isSome = true := by
  simp only [State.sensorConsistent, Bool.and_eq_true, address_free_iff, decide_eq_true_eq, List.all_eq_true, and_assoc]
  rfl

theorem groupClash_free_iff {z : Nat} {x : Zone} : (!u.groupClash z x) = true ↔
    ∀ y w l k, u.zone y = some w → y ≠ z → l < 4 → x.cfg.groups.on l = some k → w.cfg.groups.on l ≠ some k := by
  simp only [State.groupClash, Bool.not_eq_true', List.any_eq_false, List.mem_range, Option.any_eq_true, not_exists, not_and,
    List.any_eq_true, State.mem_zonesWhere, decide_eq_true_eq, bne_iff_ne]
  constructor
  · intro h y w l k hw hy hl hk own
    exact h l hl k hk y ⟨w, hw, own⟩ hy
  · rintro h l hl k hk y ⟨w, hw, own⟩ hy
    exact h y w l k hw hy hl hk own

theorem zoneConsistent_iff {z : Nat} {x : Zone} : u.zoneConsistent z x = true ↔
    (∀ i, x.cfg.controlSensor = some i → ∃ c, u.sensor i = some c ∧ c.kind = .ceiling)
      ∧ (∀ y w, u.zone y = some w → y ≠ z → ¬ (w.cfg.segment = x.cfg.segment ∧ w.cfg.band.code = x.cfg.band.code))
      ∧ ∀ y w l k, u.zone y = some w → y ≠ z → l < 4 → x.cfg.groups.on l = some k → w.cfg.groups.on l ≠ some k := by
  simp only [State.zoneConsistent, Bool.and_eq_true, band_free_iff (band_ofCode_eq_some.mpr rfl), groupClash_free_iff, option_all_iff,
    Option.any_eq_true, decide_eq_true_eq, and_assoc]
  rfl

theorem gearConsistent_iff {i : Nat} {g : Gear} : u.gearConsistent i g = true ↔
    (∀ j h, u.gearAt j = some h → j ≠ i → ¬ (h.cfg.line = g.cfg.line ∧ h.cfg.address = g.cfg.address))
      ∧ (∀ z, g.cfg.role = .driver z → (u.zone z).isSome = true)
      ∧ ∀ seg, g.cfg.role = .shade seg → ((u.groupGear seg).filter fun j => j != i).length < 4 := by
  simp only [State.gearConsistent, Bool.and_eq_true, gear_address_free_iff, and_assoc]
  refine and_congr Iff.rfl (and_congr ?_ ?_)
  · unfold State.gearZoneDefined
    cases g.cfg.role <;> simp
  · unfold State.shadeRoom
    cases hr : g.cfg.role with
    | driver z => simp
    | shade seg =>
      simp only [decide_eq_true_eq, GearRole.shade.injEq, forall_eq']
      rfl

theorem periodFits_apart {i j : Nat} {p q : Period} (h : u.periodFits i p = true) (hq : u.period j = some q) (hj : j ≠ i)
    (same : p.profile = q.profile) (days : p.days &&& q.days ≠ 0) : p.endMin ≤ q.startMin ∨ q.endMin ≤ p.startMin := by
  have fits := List.all_eq_true.mp h j (List.mem_range.mpr (period_lt hq))
  have none : q.overlaps p ≠ true := by simpa [hq, hj] using fits
  rw [ne_eq, overlaps_iff] at none
  rw [BitVec.and_comm] at days
  by_contra clash
  exact none ⟨same.symm, days, by omega, by omega⟩

/-- What the records together say of the model that they make (R193). -/
structure RecordsAgree (u : State) : Prop where
  sensors : ∀ i x, u.sensor i = some x → u.sensorConsistent i x = true
  zones : ∀ z x, u.zone z = some x → u.zoneConsistent z x = true
  windows : ∀ g ∈ u.segments, ∀ i, g.cfg.windowSensor = some i → ∃ c, u.sensor i = some c ∧ c.kind = .window
  gear : ∀ i g, u.gearAt i = some g → u.gearConsistent i g = true
  periods : ∀ i p, u.period i = some p → u.periodFits i p = true

theorem recordsAgree (h : u.consistent = true) : RecordsAgree u := by
  simp only [State.consistent, Bool.and_eq_true] at h
  obtain ⟨⟨⟨⟨sensors, zones⟩, windows⟩, gear⟩, periods⟩ := h
  refine ⟨fun i x => of_all_entries sensors, fun z x => of_all_entries zones, ?_, fun i g => of_all_entries gear,
    fun i p hp => of_all_entries (f := fun i p => u.periodFits i p) periods hp⟩
  intro g hg i hi
  have found := option_all_iff.mp (List.all_eq_true.mp windows g hg) i hi
  simpa only [Option.any_eq_true, decide_eq_true_eq] using found

end

/-! ### The model of an image -/

section

variable {s : State} {m : RawImage}

theorem sensor_withImage {i : Nat} {x : Sensor} (h : (s.withImage m).sensor i = some x) : ∃ r ∈ m.sensors, r.sensor = some x :=
  of_mem_entries (of_entryAt_tableOf h)

theorem zone_withImage {z : Nat} {x : Zone} (h : (s.withImage m).zone z = some x) : ∃ r ∈ m.zones, r.zone = some x :=
  of_mem_entries (of_entryAt_tableOf h)

theorem gear_withImage {i : Nat} {g : Gear} (h : (s.withImage m).gearAt i = some g) :
    ∃ r ∈ m.gear, ∃ d, requestedGear r = some d ∧ g.cfg = d := by
  obtain ⟨r, hr, hg⟩ := of_mem_entries (of_entryAt_tableOf h)
  obtain ⟨d, hd, rfl⟩ := Option.map_eq_some_iff.mp hg
  exact ⟨r, hr, d, hd, rfl⟩

theorem period_withImage {i : Nat} {p : Period} (h : (s.withImage m).period i = some p) : ∃ r ∈ m.periods, requestedPeriod r = p := by
  obtain ⟨r, hr, pair⟩ := List.mem_map.mp (of_entryAt_tableOf h)
  exact ⟨r, hr, congrArg Prod.snd pair⟩

/-- What the content checks ask of a model holds of the model of an image that passes them (R193). -/
theorem modelChecked {body : List Byte} (read : BodyRead body m) (records : RecordsHold m) (agree : RecordsAgree (s.withImage m)) :
    ModelChecked (s.withImage m) where
  sensors i x hx := by
    obtain ⟨r, hr, made⟩ := sensor_withImage hx
    exact sensorInRange_of_image (records.sensors r hr) made
  addresses i j x y hx hy ne := (sensorConsistent_iff.mp (agree.sensors j y hy)).1 i x ne hx
  crowd l := howMany_le fun i x hx on => by
    obtain rfl : x.line = l := of_decide_eq_true on
    exact (sensorConsistent_iff.mp (agree.sensors i x hx)).2.1
  lists i x hx := (sensorConsistent_iff.mp (agree.sensors i x hx)).2.2
  zones z x hx := by
    obtain ⟨r, hr, made⟩ := zone_withImage hx
    exact (zone_of_image (records.zones r hr) made).1
  learned z x hx := by
    obtain ⟨r, hr, made⟩ := zone_withImage hx
    obtain ⟨-, rho, count, bins, -⟩ := zone_of_image (records.zones r hr) made
    exact ⟨rho, count, bins ▸ read.bins r hr⟩
  control z x i hx := (zoneConsistent_iff.mp (agree.zones z x hx)).1 i
  bands y z x w hx hw ne := fun ⟨segment, band⟩ =>
    (zoneConsistent_iff.mp (agree.zones z w hw)).2.1 y x hx ne ⟨segment, congrArg Band.code band⟩
  groups y z x w l k hx hw ne := (zoneConsistent_iff.mp (agree.zones y x hx)).2.2 z w l k hw ne.symm
  segments := by
    refine ⟨(List.length_map ..).trans records.segments.1, fun g hg => ?_⟩
    obtain ⟨r, hr, rfl⟩ := List.mem_map.mp hg
    exact segment_inRange_iff.mpr (records.segments.2 r hr)
  windows := agree.windows
  gear i g hg := by
    obtain ⟨r, hr, d, hd, same⟩ := gear_withImage hg
    have ok := records.gear r hr
    rw [hd] at ok
    exact same ▸ gearInRange_of_inRange ok
  places i j g h hg hh ne := (gearConsistent_iff.mp (agree.gear j h hh)).1 i g hg ne
  drivers i g z hg := (gearConsistent_iff.mp (agree.gear i g hg)).2.1 z
  shades seg := howMany_le fun i g hg on => (gearConsistent_iff.mp (agree.gear i g hg)).2.2 seg (of_decide_eq_true on)
  curves := by
    refine ⟨(List.length_map ..).trans records.curves.1, fun p hp => ?_⟩
    obtain ⟨c, hc, rfl⟩ := List.mem_map.mp hp
    obtain ⟨values, order⟩ := curveOk_iff.mp (records.curves.2 c hc)
    exact ⟨read.points c hc, order, values⟩
  sensorLines x hx := by
    obtain ⟨p, hp, rfl⟩ := List.mem_map.mp hx
    have given := (List.of_mem_zip hp).2
    obtain ⟨poll, miss⟩ := read.sensorLines p.2 given
    obtain ⟨v, hv⟩ := Option.isSome_iff_exists.mp poll
    obtain ⟨k, hk⟩ := Option.isSome_iff_exists.mp miss
    have ok := records.sensorLines.2 p.2 given
    simp only [sensorLineImageOk, Bool.and_eq_true, optBetween_iff] at ok
    obtain ⟨⟨-, pollOk⟩, missOk⟩ := ok
    have poll' : (p.1.takeParams p.2).pollInterval = v := by rw [SensorLine.takeParams, hv]; rfl
    have miss' : (p.1.takeParams p.2).missLimit = k := by rw [SensorLine.takeParams, hk]; rfl
    rw [poll', miss']
    exact ⟨(pollOk v hv).1, (pollOk v hv).2, missOk k hk⟩
  gearLines x hx := by
    obtain ⟨p, hp, rfl⟩ := List.mem_map.mp hx
    have given := (List.of_mem_zip hp).2
    exact lineInRange_takeParams (records.gearLines.2 p.2 given) (read.gearLines p.2 given) p.1 _
  shadeQuery := between_iff.mp records.shadeQuery
  profiles := by
    refine ⟨(List.length_map ..).trans records.profiles.1, fun p hp => ?_⟩
    obtain ⟨r, hr, rfl⟩ := List.mem_map.mp hp
    exact records.profiles.2 r hr
  periods i p hp := by
    obtain ⟨r, hr, rfl⟩ := period_withImage hp
    exact periodInRange_of_image (records.periods r hr)
  apart i j p q hp hq ne := periodFits_apart (agree.periods i p hp) hq ne.symm
  occ o ho := by
    obtain ⟨p, hp, rfl⟩ := List.mem_map.mp ho
    exact between_iff.mp (records.occ.2 p.2 (List.of_mem_zip hp).2)

/-- A zone of an image is DISABLED or in FALLBACK until its sensor serves: no sensor of an image does (R63, R89). -/
theorem stateByOrder_withImage {z : Nat} {x : Zone} (idle : s.sweep.state = .idle) (start : ZoneAtStart x) :
    stateByOrder (s.withImage m) z x = if x.cfg.enabled then .fallback else .disabled := by
  have silent : (x.cfg.controlSensor.bind (s.withImage m).sensor).any serves = false := by
    cases hc : x.cfg.controlSensor.bind (s.withImage m).sensor with
    | none => rfl
    | some c =>
      obtain ⟨i, -, hi⟩ := Option.bind_eq_some_iff.mp hc
      obtain ⟨r, -, made⟩ := sensor_withImage hi
      exact not_serves_of_image made
  have sweep : (s.withImage m).sweep.state = .idle := idle
  obtain ⟨shade, cal⟩ := start.holds
  unfold stateByOrder
  rw [silent, sweep, shade, cal, start.override.1]
  cases x.cfg.enabled <;> simp

/-- An image that is taken has its ten sections, passes the content checks, and its zones start as R89 says. -/
theorem imageOf_checked {body : List Byte} (h : imageOf s body = some m) : SectionsFill body ∧ ModelChecked (s.withImage m)
    ∧ ∀ z x, (s.withImage m).zone z = some x → ZoneAtStart x
      ∧ (s.sweep.state = .idle → stateByOrder (s.withImage m) z x = if x.cfg.enabled then .fallback else .disabled) := by
  obtain ⟨whole, ok, together⟩ := recordsOk_of_imageOf h
  have read := bodyRead whole
  have records := recordsHold ok
  refine ⟨read.sections, modelChecked read records (recordsAgree together), fun z x hx => ?_⟩
  obtain ⟨r, hr, made⟩ := zone_withImage hx
  obtain ⟨-, -, -, -, start⟩ := zone_of_image (records.zones r hr) made
  exact ⟨start, fun idle => stateByOrder_withImage idle start⟩

end

end Sys2Proof.Machine
end

section
/-! PROOFS. Chapter 11: the autoload reads the slots (R191 to R195, R206, R207). -/

namespace Sys2Proof.Machine

open Sys2Proof.Safety

set_option Elab.async false

/-! ### The start-up delay's end (R192) -/

theorem startup_begins {s : State} (device : s.loader.device = .starting) (runs : s.loader.startup.isSome = true) :
    exec .startupDelayExpiry s = .next { s with loader := { s.loader with
      device := .loading, startup := none
      load := some { slot := 0, page := 0, attempts := 0, addressed := false, finding0 := .unread, finding1 := .unread, body := [], later := []
                     second := false, txn := some { start := s.tick, len := 25 } } } } := by
  have answer : exec .startupDelayExpiry s = execStartupDelayExpiry s := rfl
  rw [answer]
  exact congrArg Host.Outcome.next (if_pos (by rw [runs, device]; rfl))

theorem startup_ends_elsewhere {s : State} (device : s.loader.device ≠ .starting) : exec .startupDelayExpiry s = .next s := by
  have answer : exec .startupDelayExpiry s = execStartupDelayExpiry s := rfl
  rw [answer]
  exact congrArg Host.Outcome.next (if_neg (by simp [device]))

theorem no_load_answers {s : State} (h : s.loader.load = none) (bytes : List Byte) :
    exec (.autoloadPageReadEnd (.data bytes)) s = .next s ∧ exec .memoryTransactionTimeout s = .next s := by
  have read : exec (.autoloadPageReadEnd (.data bytes)) s = execAutoloadPageReadEnd (.data bytes) s := rfl
  have timeout : exec .memoryTransactionTimeout s = execMemoryTransactionTimeout s := rfl
  rw [read, timeout, execAutoloadPageReadEnd, execMemoryTransactionTimeout, h]
  exact ⟨rfl, rfl⟩

/-! ### The events of a load (R193) -/

section

variable {s : State} {j : LoadJob}

theorem attempt_repeated (h : s.loader.load = some j) (few : j.attempts < 2) :
    exec (.autoloadPageReadEnd .noAddressAck) s = .next (loading
        { j with attempts := j.attempts + 1, txn := some { start := s.tick, len := 25 } } s)
      ∧ exec (.autoloadPageReadEnd .noLaterAck) s = .next (loading
        { j with attempts := j.attempts + 1, addressed := true, txn := some { start := s.tick, len := 25 } } s) := by
  rw [autoload_answers h, autoload_answers h]
  dsimp only
  rw [pageFailed_again few, pageFailed_again few, Bool.or_false, Bool.or_true]
  exact ⟨rfl, rfl⟩

/-- The third failed attempt at a page, without an address acknowledge and with one. -/
theorem attempts_exhausted (h : s.loader.load = some j) (last : j.attempts = 2) :
    exec (.autoloadPageReadEnd .noAddressAck) s = .next (s.pageUnreadable j.addressed j)
      ∧ exec (.autoloadPageReadEnd .noLaterAck) s = .next (s.pageUnreadable true j) := by
  rw [autoload_answers h, autoload_answers h]
  dsimp only
  rw [pageFailed_last last, pageFailed_last last, Bool.or_false, Bool.or_true]
  exact ⟨rfl, rfl⟩

theorem first_header_read (h : s.loader.load = some j) {bytes : List Byte} (full : bytes.length = 64) (slot : j.slot = 0) (page : j.page = 0) :
    exec (.autoloadPageReadEnd (.data bytes)) s = .next (loading (readingPage s.tick { j with finding0 := classifyHeader bytes } 1 0) s) := by
  rw [data_answers h full, pageRead_header page, headerFound_first slot]

theorem first_header_unreadable (h : s.loader.load = some j) (slot : j.slot = 0) (page : j.page = 0) (last : j.attempts = 2) :
    exec (.autoloadPageReadEnd .noLaterAck) s = .next (loading (readingPage s.tick { j with finding0 := .damaged } 1 0) s)
      ∧ exec (.autoloadPageReadEnd .noAddressAck) s = .next (loading (readingPage s.tick
        { j with finding0 := if j.addressed then .damaged else .noMemory } 1 0) s) := by
  obtain ⟨silent, partly⟩ := attempts_exhausted h last
  rw [silent, partly, pageUnreadable_header page, pageUnreadable_header page, headerFound_first slot, headerFound_first slot]
  exact ⟨rfl, rfl⟩

theorem second_header_read (h : s.loader.load = some j) (four : s.gearLines.length = 4) (two : s.sensorLines.length = 2)
    (slot : j.slot = 1) (page : j.page = 0) {bytes : List Byte} (full : bytes.length = 64) :
    ∃ t, exec (.autoloadPageReadEnd (.data bytes)) s = .next t ∧ HeadersRead s { j with finding1 := classifyHeader bytes } t := by
  rw [data_answers h full, pageRead_header page, headerFound_second slot]
  exact ⟨_, rfl, headersRead_chooseSlot _ four two⟩

theorem second_header_unreadable (h : s.loader.load = some j) (four : s.gearLines.length = 4) (two : s.sensorLines.length = 2)
    (slot : j.slot = 1) (page : j.page = 0) (last : j.attempts = 2) :
    (∃ t, exec (.autoloadPageReadEnd .noLaterAck) s = .next t ∧ HeadersRead s { j with finding1 := .damaged } t)
      ∧ ∃ t, exec (.autoloadPageReadEnd .noAddressAck) s = .next t
        ∧ HeadersRead s { j with finding1 := if j.addressed then .damaged else .noMemory } t := by
  obtain ⟨silent, partly⟩ := attempts_exhausted h last
  rw [silent, partly, pageUnreadable_header page, pageUnreadable_header page, headerFound_second slot, headerFound_second slot]
  exact ⟨⟨_, rfl, headersRead_chooseSlot _ four two⟩, _, rfl, headersRead_chooseSlot _ four two⟩

theorem body_unreadable (h : s.loader.load = some j) (four : s.gearLines.length = 4) (two : s.sensorLines.length = 2)
    (page : j.page ≠ 0) (last : j.attempts = 2) :
    ∃ t, exec (.autoloadPageReadEnd .noLaterAck) s = .next t ∧ exec (.autoloadPageReadEnd .noAddressAck) s = .next t
      ∧ SlotDamaged s j t := by
  obtain ⟨silent, partly⟩ := attempts_exhausted h last
  rw [silent, partly, pageUnreadable_body page, pageUnreadable_body page]
  exact ⟨_, rfl, rfl, slotDamaged_damages j four two⟩

/-- A page joins the body, and the next one follows until the body is whole. -/
theorem body_goes_on (h : s.loader.load = some j) {g n k : Nat} {bytes : List Byte} (full : bytes.length = 64) (page : j.page ≠ 0)
    (found : j.finding j.slot = .candidate g n k) (more : j.body.length + 64 < n) :
    exec (.autoloadPageReadEnd (.data bytes)) s
      = .next (loading (readingPage s.tick { j with body := j.body ++ bytes } j.slot (j.page + 1)) s) := by
  rw [data_answers h full, pageRead_body page found full, if_neg (by omega)]

/-- A whole body is taken where its check and its content agree, and else its slot is damaged. -/
theorem body_decides (h : s.loader.load = some j) {g n k : Nat} {bytes : List Byte} (full : bytes.length = 64) (page : j.page ≠ 0)
    (found : j.finding j.slot = .candidate g n k) (whole : n ≤ j.body.length + 64) (four : s.gearLines.length = 4)
    (two : s.sensorLines.length = 2) :
    ∃ t, exec (.autoloadPageReadEnd (.data bytes)) s = .next t
      ∧ ((crc16 ((j.body ++ bytes).take n)).toNat ≠ k ∨ imageOf s ((j.body ++ bytes).take n) = none → SlotDamaged s j t)
      ∧ ∀ m, (crc16 ((j.body ++ bytes).take n)).toNat = k → imageOf s ((j.body ++ bytes).take n) = some m → Entered (s.withImage m) t
        ∧ t.loader = { s.loader with
          device := .running, load := none, loadReport := some (if j.second then .loadedOlder else .loaded)
          knownSlot := some j.slot, knownGen := g }
        ∧ hasFlag t.flags.latched .storeError = (hasFlag s.flags.latched .storeError || j.second) := by
  rw [data_answers h full, pageRead_body page found full, if_pos whole]
  refine ⟨_, rfl, fun damaged => ?_, fun m check image => ?_⟩
  · rw [bodyRead_damaged damaged]
    exact slotDamaged_damages j four two
  · rw [bodyRead_image check image]
    exact endWithImage_enters (recordsHold (recordsOk_of_imageOf image).2.1) four two j.second j.slot g

end

/-- Settles O58: each event of a load by the page that it reads and the attempts at it, the header by its fields, and an image by what
its readers and its content checks leave. -/
theorem theAutoloadReadsTheSlots : Obligations.TheAutoloadReadsTheSlots := by
  refine ⟨fun bytes s j => ⟨startup_begins, startup_ends_elsewhere, fun h => no_load_answers h bytes, fun h =>
    ⟨timeout_answers h, attempt_repeated h, first_header_read h, first_header_unreadable h, fun four two =>
      ⟨fun slot page => ⟨second_header_read h four two slot page, second_header_unreadable h four two slot page⟩,
        body_unreadable h four two⟩, fun g n k full page found => ⟨body_goes_on h full page found, body_decides h full page found⟩⟩⟩,
    classifyHeader_eq, fun s body m => imageOf_checked⟩

end Sys2Proof.Machine
end
